-- ==== Sys2Proof/Word.lean ====
section
/-!
DEFINITION. The words of the VN6240 model: bytes, and the closed lists of names the reference prints in
capitals (ports, phases, buses, groups, sequencers, modes, requests, answers). Everything numeric that a test
could show wrong (clamping, rounding, wrapping, layouts) stands in Sys2Proof/Machine/.
-/

namespace Sys2Proof

/-- One byte on the wire (chapter 1.8). -/
abbrev Byte := BitVec 8

/-- The two Ethernet ports (R1). -/
inductive Port | p1 | p2
  deriving DecidableEq, Repr

/-- Phases of a point; N is the residual of a current point. -/
inductive Phase | a | b | c | n
  deriving DecidableEq, Repr

/-- One value for each phase A, B, C and N. -/
structure Four (α : Type) where
  a : α
  b : α
  c : α
  n : α
  deriving DecidableEq, Repr

/-- The value of one phase. -/
def Four.get {α : Type} (f : Four α) : Phase → α
  | .a => f.a
  | .b => f.b
  | .c => f.c
  | .n => f.n

/-- `f` with the value of one phase replaced. -/
def Four.set {α : Type} (f : Four α) (p : Phase) (x : α) : Four α :=
  match p with
  | .a => { f with a := x }
  | .b => { f with b := x }
  | .c => { f with c := x }
  | .n => { f with n := x }

/-- A measurement point: C0–C24 or V0–V12 (00_scope.md). Any number can be written here; the numbering is
tested where a point is named. -/
inductive PointId
  | cur (n : Nat)
  | volt (n : Nat)
  deriving DecidableEq, Repr

/-- The two protection groups (chapter 4.8). -/
inductive Group | a | b
  deriving DecidableEq, Repr

/-- The three buses that carry a bus lockout (R103). -/
inductive Bus | bus1 | bus2 | gbus
  deriving DecidableEq, Repr

/-- The two transfer sequencers (chapter 6.1). -/
inductive SeqId | seq1 | seq2
  deriving DecidableEq, Repr

/-- Operating mode (R187). -/
inductive Mode | live | blocked | loop
  deriving DecidableEq, Repr

/-- Type of an order, and of the operator's request (R87). -/
inductive OrdType | opn | close
  deriving DecidableEq, Repr

/-- Alternates of a section; the Scheme record lists GM as GEN (chapter 6.1). -/
inductive Alt | tie | gm
  deriving DecidableEq, Repr

/-- Rights of a manager (R172). -/
inductive Rights | view | setting | operate
  deriving DecidableEq, Repr

/-- Role of a Channel Map row (R16). -/
inductive Role | main | check
  deriving DecidableEq, Repr

/-- Element kinds (chapter 4.2): TOC, IOC, UV, OV, UF, OF, RP. -/
inductive ElemKind | toc | ioc | uv | ov | uf | ovf | rp
  deriving DecidableEq, Repr

/-- Phase scope of an element (R56). -/
inductive Scope | phases | residual
  deriving DecidableEq, Repr

/-- Reset mode of a TOC element (R66). -/
inductive ResetMode | instant | timed
  deriving DecidableEq, Repr

/-- Direction setting of an element, and firm directions (R39, R56). -/
inductive DirSetting | none | forward | reverse
  deriving DecidableEq, Repr

/-- Lockout target of an element (R56, R71). -/
inductive LockTarget | none | breaker | bus (b : Bus)
  deriving DecidableEq, Repr

/-- Retransfer mode of a Scheme record (R109). -/
inductive RetransferMode | opn | fast | soft
  deriving DecidableEq, Repr

/-- The eight frame kinds (chapter 1.8, common header). -/
inductive FrameKind | sample | position | order | genstat | gencmd | manage | answer | notice
  deriving DecidableEq, Repr

/-- The two hold counts of a point phase (R25). -/
inductive HoldKind | missing | clipped
  deriving DecidableEq, Repr

/-- Notice classes in priority order (chapter 8.5). -/
inductive NoticeClass
  | protection | breakerFailure | lockout | position | sequencer | generator | stream | record
  deriving DecidableEq, Repr

/-- Refusal reasons (R175). -/
inductive Reason
  | notPermitted | wrongState | busy | activeGroup | badRow | badValue | lockout | busLockout
  | position | loc | parallel | notSettled | deadDead | deadGbus | grant | conflict
  deriving DecidableEq, Repr

end Sys2Proof
end

