-- ==== Sys2Proof/Tables.lean ====
section
/-!
DEFINITION. The ten configuration tables (chapter 9.4) as plain records: one structure for each kind of row, the
set of tables, an image (tables and stored active group), a row as WRITE_ROW carries it and READ_ROW returns it,
and the arguments of a management request by their named fields (R176).
-/

namespace Sys2Proof

/-- SITE row (R179). `none` is the unset marker of the four fields without a default. -/
structure SiteRow where
  fNom : Option Nat := none
  vn : Option Nat := none
  station : Option Nat := none
  noticeDest : Option Nat := none
  qDead : Nat := 4
  qIndet : Nat := 4
  qLive : Nat := 4
  qHealthy : Nat := 40
  deadPct : Nat := 20
  livePct : Nat := 70
  healthyLo : Nat := 90
  healthyHi : Nat := 110
  freqHalf : Nat := 500
  utilPar : Bool := false
  noticeOn : List Bool := List.replicate 8 true
  stopDelay : Nat := 300
  deriving DecidableEq, Repr

/-- MANAGERS row (R172). -/
structure ManagerRow where
  present : Bool := false
  station : Nat := 1
  rights : Rights := .view
  deriving DecidableEq, Repr

/-- SUBSCRIPTIONS row (R15). -/
structure SubRow where
  station : Nat := 1
  stream : Nat := 0
  count : Nat := 1
  enabled : Bool := false
  deriving DecidableEq, Repr

/-- CHANNELS row (R16). -/
structure ChanRow where
  used : Bool := false
  point : PointId := .cur 0
  phase : Phase := .a
  role : Role := .main
  scale : Nat := 1
  divLimit : Nat := 300
  deriving DecidableEq, Repr

/-- BREAKERS row (R82). `bfUpdates` is the BF time in updates, `none` while the f_nom is unset. -/
structure BreakerRow where
  present : Bool := false
  station : Nat := 1
  vref : Option Nat := none
  busSide : Bus := .bus1
  openLimit : Nat := 100
  closeLimit : Nat := 200
  closingTime : Nat := 150
  bfThreshold : Nat := 50
  bfTime : Nat := 150
  bfUpdates : Option Nat := none
  line : Option Nat := none
  deadDead : Bool := false
  emuOpen : Nat := 50
  emuClose : Nat := 80
  deriving DecidableEq, Repr

/-- CURVES row (R54): breakpoints as (M16, rate); empty when there are none. -/
structure CurveRow where
  points : List (Nat × Nat) := []
  resetRate : Nat := 1
  deriving DecidableEq, Repr

/-- ELEMENTS row (R56). `delayUpd` is the delay in updates, `none` while the f_nom is unset. -/
structure ElementRow where
  enabled : Bool := false
  kind : ElemKind := .toc
  point : PointId := .cur 0
  scope : Scope := .phases
  pickup : Nat := 1
  td : Nat := 5
  curve : Nat := 0
  resetMode : ResetMode := .instant
  delayMs : Nat := 0
  delayUpd : Option Nat := none
  direction : DirSetting := .none
  trip : List Nat := [0]
  lockout : LockTarget := .none
  block : Option SeqId := none
  deriving DecidableEq, Repr

/-- SCHEMES row (R109). -/
structure SchemeRow where
  alternates : List Alt := [.tie, .gm]
  lossQualify : Nat := 1000
  residualPct : Nat := 25
  deadLimit : Nat := 2000
  retransferDelay : Nat := 300
  restoreDelay : Nat := 10
  mode : RetransferMode := .fast
  openFallback : Bool := true
  maxParallel : Nat := 100
  softLimit : Nat := 60
  softRamp : Nat := 2
  softThreshold : Nat := 5
  autoRetransfer : Bool := true
  deriving DecidableEq, Repr

/-- GENERATORS rows 0 to 7 (R139). -/
structure GenRow where
  present : Bool := false
  station : Nat := 1
  rating : Nat := 100
  priority : Nat := 1
  deriving DecidableEq, Repr

/-- GENERATORS row 8, the paralleling settings (R139). -/
structure ParRow where
  voltWinPct : Nat := 5
  slipLimit : Nat := 200
  angleWin : Nat := 1000
  syncWait : Nat := 30
  gain : Nat := 200
  stepLimit : Nat := 10
  deriving DecidableEq, Repr

/-- The ten tables. The fields' defaults are the fresh edit set of R181. -/
structure Tables where
  site : SiteRow := {}
  managers : List ManagerRow := List.replicate 4 {}
  subs : List SubRow := List.replicate 48 {}
  chans : List ChanRow := List.replicate 384 {}
  breakers : List BreakerRow := List.replicate 25 {}
  curves : List CurveRow := List.replicate 8 {}
  elemsA : List ElementRow := List.replicate 64 {}
  elemsB : List ElementRow := List.replicate 64 {}
  schemes : List SchemeRow := List.replicate 2 {}
  gens : List GenRow := List.replicate 8 {}
  par : ParRow := {}
  deriving DecidableEq, Repr

/-- The fresh edit set of R181: nothing present, every field at its default. -/
def Tables.fresh : Tables := {}

/-- Tables with the stored active group: what is in force, and what a settings bank holds (R180, R185). -/
structure Image where
  tables : Tables
  group : Group
  deriving DecidableEq, Repr

/-- Table names (R178). -/
inductive TableId
  | site | managers | subscriptions | channels | breakers | curves | elementsA | elementsB | schemes | generators
  deriving DecidableEq, Repr

/-- One whole row, as WRITE_ROW carries it (values possibly outside their ranges) and READ_ROW returns it. -/
inductive RowData
  | site (r : SiteRow)
  | manager (r : ManagerRow)
  | sub (r : SubRow)
  | chan (r : ChanRow)
  | breaker (r : BreakerRow)
  | curve (r : CurveRow)
  | element (r : ElementRow)
  | scheme (r : SchemeRow)
  | gen (r : GenRow)
  | par (r : ParRow)
  deriving DecidableEq, Repr

/-- Arguments of a management request, by their named fields (R176; the reference gives them no byte layout).
Numbers may lie outside the numbering of their kind (R174 test 5); `none` stands for an enumerated value outside
its list (test 2); `listsOk` says whether every enumerated field of the written row carries a value of its list;
`malformed` stands for arguments of a wrong length. -/
inductive Args
  | absent
  | point (p : PointId)
  | slot (n : Nat)
  | element (g : Option Group) (row : Nat)
  | generator (k : Nat)
  | row (table row : Nat)
  | write (table row : Nat) (data : RowData) (listsOk : Bool)
  | group (g : Option Group)
  | mode (m : Option Mode)
  | operate (slot : Nat) (op : Option OrdType)
  | lockSlot (n : Nat)
  | lockBus (b : Option Bus)
  | clear (targets divergence generators records : Bool)
  | duration (seconds : Nat)
  | sequencer (q : Nat)
  | recordNo (n : Nat)
  | malformed
  deriving DecidableEq, Repr

/-- A received frame (R2): the Ethernet destination and source addresses, whether the frame check sequence is right, the
type field, the bytes after the type field up to the check sequence, and, for a MANAGE frame, the named fields of the
arguments those bytes carry. The check sequence of a frame that is forwarded is right, so that the other fields give every
byte of it. -/
structure EthFrame where
  destMac : BitVec 48
  srcMac : BitVec 48
  fcsOk : Bool := true
  etherType : Nat
  body : List Byte
  args : Args := .absent
  deriving DecidableEq, Repr

end Sys2Proof
end

