-- ==== Sys2Proof/Syntax.lean ====
section
/-!
DEFINITION. The commands of the VN6240: one constructor for each row of spec/opcode_table.json, in the table's
order. Frames carry the port they arrive on; an expiry names the slot, sequencer, generator or channel concerned.
The rows READ_STATUS … RESTART are the Management Unit's taking of the request at the head of its request queue
(R174): their operands stand in that request, which a MANAGE frame brought.
-/

namespace Sys2Proof

/-- The 78 commands (rules as spec/opcode_table.json names them). -/
inductive Instr
  | powerOn
  | linkInitEnd
  | supplyLoss
  | portLinkUp (p : Port)
  | portLinkDown (p : Port)
  | badFrame (p : Port) (f : EthFrame)
  | foreignFrame (p : Port) (f : EthFrame)
  | forwardedFrame (p : Port) (f : EthFrame)
  | sample (p : Port) (f : EthFrame)
  | position (p : Port) (f : EthFrame)
  | genstat (p : Port) (f : EthFrame)
  | manage (p : Port) (f : EthFrame)
  | frameTransmitEnd (p : Port)
  | retiredNumberExpiry
  | duplicateFilterExpiry
  | fallback
  | streamGood (sub : Nat)
  | streamLost (sub : Nat)
  | holdExpiry (pt : PointId) (ph : Phase) (kind : HoldKind)
  | divergentSet (pt : PointId) (ph : Phase)
  | divergentClear (pt : PointId) (ph : Phase)
  | directionMemoryExpiry (slot : Nat) (ph : Phase)
  | trackerEmpty (v : Nat)
  | qualifierDeclare (v : Nat)
  | tocOperate (row : Nat)
  | definiteTimeOperate (row : Nat)
  | tocResetEnd (row : Nat)
  | orderRepeat (slot : Nat)
  | openLimitExpiry (slot : Nat)
  | closeLimitExpiry (slot : Nat)
  | withdrawResend (slot : Nat)
  | travelTimeout (slot : Nat)
  | positionSilence (slot : Nat)
  | operatorWindowExpiry (slot : Nat)
  | bfOperate (slot : Nat)
  | lockoutStoreWriteEnd
  | directTripRelease (slot : Nat)
  | startupTimerExpiry (q : SeqId)
  | lossTimerExpiry (q : SeqId)
  | deadTimerExpiry (q : SeqId)
  | retransferTimerExpiry (q : SeqId)
  | parallelTimerExpiry (q : SeqId)
  | softLimitExpiry (q : SeqId)
  | restoreTimerExpiry (q : SeqId)
  | inhibitEnd
  | stopTimerExpiry
  | statusLoss (gen : Nat)
  | syncFire (channel : Nat)
  | syncWaitLimit (slot : Nat)
  | noticeSend
  | readStatus
  | readPoint
  | readBreaker
  | readElement
  | readGenerator
  | readRow
  | writeRow
  | enterConfig
  | commit
  | discard
  | discardRead
  | selectGroup
  | setMode
  | operate
  | resetLockout
  | clear
  | inhibitTransfer
  | park
  | resume
  | abort
  | retransferNow
  | readRecord
  | discardRecord
  | restart
  | warmRestart
  | settingsWriteEnd (readBackOk : Bool)
  | loadingEnd
  | emulatedMoveDue (slot : Nat)
  deriving DecidableEq, Repr

end Sys2Proof
end

