-- ==== Sys2Proof/Runtime.lean ====
section
/-!
DEFINITION. The runtime records of the nine blocks, as plain data: the parts State is put together from
(Sys2Proof/Machine/State.lean), the payloads of the frames the part sends by their named fields, and the messages
the blocks pass to one another inside one command. Each record's field defaults are its power-on values.
-/

namespace Sys2Proof

/-! ## Intake (chapter 2) -/

/-- Stream states (R24). -/
inductive StreamState | idle | acquiring | good | degraded | lost
  deriving DecidableEq, Repr

/-- Point quality, worst first (R32). -/
inductive Quality | invalid | degraded | suspect | good
  deriving DecidableEq, Repr

/-- A sample set: the channel values of one SAMPLE frame (R17). -/
structure SampleSet where
  index : Nat
  sync : Bool
  values : List Int
  deriving DecidableEq, Repr

/-- Stream record of one Subscription Table row (R33). Outcomes are newest first, `true` for delivered. -/
structure StreamRec where
  state : StreamState := .idle
  buffer : List SampleSet := []
  last : List Int := List.replicate 8 0
  sync : Bool := true
  delRun : Nat := 0
  subRun : Nat := 0
  outcomes : List Bool := []
  latest : Option Nat := none
  arrRun : Nat := 0
  deriving DecidableEq, Repr

/-- Record of one phase of one point (R33). The history is newest first; `level` holds the 32 values RMS is formed from,
which stand still in a total loss of sample data (R53; log 59). -/
structure PhaseRec where
  hist : List Int := List.replicate 32 0
  level : List Int := List.replicate 32 0
  divergent : Bool := false
  divRun : Nat := 0
  agrRun : Nat := 0
  missHold : Nat := 0
  clipHold : Nat := 0
  deriving DecidableEq, Repr

/-- The Intake Unit. `filled` is the model's own count of filled history places (log 7). -/
structure Intake where
  streams : List StreamRec := List.replicate 48 {}
  k : Option Nat := none
  count : Nat := 0
  filled : Nat := 0
  lastProc : Option Nat := none
  cur : List (Four PhaseRec) := List.replicate 25 ⟨{}, {}, {}, {}⟩
  volt : List (Four PhaseRec) := List.replicate 13 ⟨{}, {}, {}, {}⟩
  curQ : List Quality := List.replicate 25 .invalid
  voltQ : List Quality := List.replicate 13 .invalid
  deriving DecidableEq, Repr

/-! ## Measurement (chapter 3) -/

/-- Published direction (R39). -/
inductive Dir | forward | reverse | unknown
  deriving DecidableEq, Repr

/-- Raw classes and declared states (R49). -/
inductive VClass | dead | indeterminate | live | healthy
  deriving DecidableEq, Repr

/-- Direction memory of one phase (R40): `firm` holds FORWARD, REVERSE or none. -/
structure DirMem where
  firm : Option Dir := none
  lowRun : Nat := 0
  deriving DecidableEq, Repr

/-- Measurement Table entry of a current point with its direction memory. `rms.n` is the residual RMS; P is
`none` when INVALID. -/
structure CurMeas where
  quality : Quality := .invalid
  rms : Four Nat := ⟨0, 0, 0, 0⟩
  power : Option Int := none
  dir : Four Dir := ⟨.unknown, .unknown, .unknown, .unknown⟩
  sat : Four Bool := ⟨false, false, false, false⟩
  mem : Four DirMem := ⟨{}, {}, {}, {}⟩
  deriving DecidableEq, Repr

/-- Measurement Table entry of a voltage point with its tracker and qualifier. `freq` is `none` when INVALID;
`latest` and `sum4` are `none` when not formed (log 16). -/
structure VoltMeas where
  quality : Quality := .invalid
  rms : Four Nat := ⟨0, 0, 0, 0⟩
  freq : Option Nat := none
  latest : Option Nat := some 0
  sum4 : Option Nat := some 0
  times : List Nat := []
  accepted : Nat := 0
  raw : VClass := .indeterminate
  run : Nat := 0
  declared : VClass := .indeterminate
  deriving DecidableEq, Repr

/-- Thresholds formed when a Site Record comes into force (R48), in volts and mHz. -/
structure Thresholds where
  dead : Nat := 0
  live : Nat := 0
  healthyLo : Nat := 0
  healthyHi : Nat := 0
  dir10 : Nat := 0
  dir2 : Nat := 0
  freqLo : Nat := 0
  freqHi : Nat := 0
  deriving DecidableEq, Repr

/-- The Measurement Unit. -/
structure Meas where
  cur : List CurMeas := List.replicate 25 {}
  volt : List VoltMeas := List.replicate 13 {}
  thr : Thresholds := {}
  deriving DecidableEq, Repr

/-! ## Protection (chapter 4) -/

/-- Element states (chapter 4.4). -/
inductive ElemState | idle | timing | operated | resetting | blocked
  deriving DecidableEq, Repr

/-- Runtime slot of a row index (R73, R79). `acc` is the accumulator or the counter. `operGroup` is the model's own
note of the group whose row operated, which the trigger names after a group switch carried the slot over (log 48). -/
structure RtSlot where
  state : ElemState := .idle
  frozen : Option ElemState := none
  acc : Nat := 0
  pickupIdx : Option Nat := none
  operIdx : Option Nat := none
  operGroup : Option Group := none
  peaks : Four Nat := ⟨0, 0, 0, 0⟩
  phases : Four Bool := ⟨false, false, false, false⟩
  deriving DecidableEq, Repr

/-- A latched target: operate index and processed count at latching (R72). -/
structure Target where
  operIdx : Nat
  latchedAt : Nat
  deriving DecidableEq, Repr

/-- The Protection Unit's runtime state. -/
structure Prot where
  active : Group := .a
  pendingGroup : Option Group := none
  slots : List RtSlot := List.replicate 64 {}
  targetsA : List (Option Target) := List.replicate 64 none
  targetsB : List (Option Target) := List.replicate 64 none
  block1 : Bool := false
  block2 : Bool := false
  operated : List (Option Group) := List.replicate 64 none
  deriving DecidableEq, Repr

/-! ## Order Arbiter (chapter 5) -/

/-- Breaker positions (R85, R86). -/
inductive Pos | opn | closed | travel | faulty | unknown
  deriving DecidableEq, Repr

/-- Request sources in rank order (R87). -/
inductive Source | prot | bft | schO | oprO | schC | oprC
  deriving DecidableEq, Repr

/-- Requesters (chapter 5.3). -/
inductive Requester
  | seq (q : SeqId)
  | par
  | prot
  | bf (slot : Nat)
  | manager (station tag : Nat)
  deriving DecidableEq, Repr

/-- What a requester is told: a result, or a refusal with its reason (chapter 5.3). -/
inductive Told
  | done | noChange | fail | preempted | syncTimeout | blocked | conflict | withdrawn | lockout | busLockout
  | parallel
  | refused (r : Reason)
  deriving DecidableEq, Repr

/-- Phase of an order (R87). -/
inductive OrdPhase | syncWait | issued
  deriving DecidableEq, Repr

/-- The order in service (R87). `nextRepeat` is the time of the next repeat (R88). -/
structure Order where
  type : OrdType
  causes : List Source
  tag : Nat
  phase : OrdPhase
  issueTime : Option Nat
  requesters : List Requester
  acked : Bool := false
  grantHeld : Bool := false
  nextRepeat : Nat := 0
  deriving DecidableEq, Repr

/-- Withdraw in progress (R97). -/
structure Withdraw where
  tag : Nat
  cause : Source
  remaining : Nat
  next : Nat
  deriving DecidableEq, Repr

/-- Last result (R87). -/
structure LastResult where
  type : OrdType
  tag : Nat
  causes : List Source
  result : Told
  deriving DecidableEq, Repr

/-- Setters of a lockout (R103). -/
inductive Setter
  | element (g : Group) (row : Nat)
  | bf (slot : Nat)
  deriving DecidableEq, Repr

/-- A lockout with its setters (R103). -/
structure Lockout where
  isSet : Bool := false
  setters : List Setter := []
  deriving DecidableEq, Repr

/-- Breaker-failure states (R100). -/
inductive BFState | idle | timing | operated
  deriving DecidableEq, Repr

/-- A contact pair as reported (R85). -/
structure Contacts where
  openMade : Bool
  closedMade : Bool
  deriving DecidableEq, Repr

/-- Everything the Arbiter holds for one slot (R107), without its Breaker Table row. `lineOn` is the time at which
the direct trip line the row names was energized. -/
structure ArbSlot where
  position : Pos := .unknown
  prevPair : Option Contacts := none
  acceptedPair : Option Contacts := none
  lastFrame : Option Nat := none
  travelAt : Option Nat := none
  localCtl : Bool := false
  ready : Bool := false
  lastTag : Option Nat := none
  order : Option Order := none
  withdraw : Option Withdraw := none
  lastResult : Option LastResult := none
  lock : Lockout := {}
  bf : BFState := .idle
  bfTimer : Nat := 0
  window : Option (OrdType × Nat) := none
  lineOn : Option Nat := none
  deriving DecidableEq, Repr

/-- The Order Arbiter: its slots and the bus lockouts of BUS1, BUS2 and GBUS. -/
structure Arb where
  slots : List ArbSlot := List.replicate 25 {}
  bus1 : Lockout := {}
  bus2 : Lockout := {}
  gbus : Lockout := {}
  deriving DecidableEq, Repr

/-- What one copy of the lockout store holds (R104). -/
structure LockoutSet where
  slots : List Lockout := List.replicate 25 {}
  bus1 : Lockout := {}
  bus2 : Lockout := {}
  gbus : Lockout := {}
  deriving DecidableEq, Repr

/-! ## Transfer Sequencers (chapter 6) -/

/-- STARTING and the sixteen states of chapter 6.3. -/
inductive SeqState
  | starting | preferred | lossPending | sourceOpening | deadWait | genWait | altClosing | onAlternate
  | returnWatch | returnSync | parallelFast | parallelSoft | returnOpening | returnClosing | deadBus | lockedOut
  | parked
  deriving DecidableEq, Repr

/-- An awaited request (R111, R145): slot and type, with the tag of the order that carries it. -/
structure Awaited where
  slot : Nat
  type : OrdType
  tag : Option Nat
  deriving DecidableEq, Repr

/-- Return kinds (R125). -/
inductive ReturnKind | fast | soft
  deriving DecidableEq, Repr

/-- One sequencer (chapter 6.2). A running timer holds the wall time at which it expires. -/
structure Seq where
  state : SeqState := .starting
  pendingPark : Bool := false
  alt : Option Alt := none
  spentTie : Bool := false
  spentGm : Bool := false
  awaited : Option Awaited := none
  startup : Option Nat := none
  loss : Option Nat := none
  dead : Option Nat := none
  retransfer : Option Nat := none
  restore : Option Nat := none
  parallel : Option Nat := none
  softLimit : Option Nat := none
  lastLoad : Nat := 0
  snapshot : Nat := 0
  retReady : Bool := false
  kind : ReturnKind := .fast
  busProven : Bool := false
  inhibitHold : Bool := false
  overrun : Bool := false
  demand : Bool := false
  residual : Nat := 0
  deriving DecidableEq, Repr

/-- Both sequencers, the TIE claim and the end of the transfer inhibit. -/
structure Seqs where
  seq1 : Seq := {}
  seq2 : Seq := {}
  claim : Option SeqId := none
  inhibit : Option Nat := none
  deriving DecidableEq, Repr

/-! ## Paralleling Unit (chapter 7) -/

/-- Generator states (chapter 7.3). -/
inductive GenState | off | starting | ready | closing | online | unloading | failed | manual
  deriving DecidableEq, Repr

/-- Fail causes (R143, R145). -/
inductive FailCause | controller | statusLost | close | opn
  deriving DecidableEq, Repr

/-- Generator record (R160). `manualMode` is mode MANUAL of the last status. -/
structure Gen where
  state : GenState := .off
  running : Bool := false
  ready : Bool := false
  fault : Bool := false
  manualMode : Bool := false
  lastStat : Option Nat := none
  lost : Bool := false
  filter : Int := 0
  bias : Int := 0
  awaited : Option Awaited := none
  cause : Option FailCause := none
  startSent : Bool := false
  deriving DecidableEq, Repr

/-- The dead-bus grant when held: the generator, and the requester of the close that holds it (R148, R149). `entered` is the
model's own note that the generator was READY when the grant was taken and entered CLOSING (log 69). -/
structure Grant where
  gen : Nat
  requester : Requester
  entered : Bool
  deriving DecidableEq, Repr

/-- A sync channel in use (R151). `pair` is the angle and slip handed over at the last update that formed them,
`none` when INVALID or not yet formed (R47). -/
structure Channel where
  slot : Nat
  ref : Nat
  inc : Nat
  closing : Nat
  fired : Bool := false
  hold : Nat := 0
  start : Nat := 0
  pair : Option (Int × Int) := none
  deriving DecidableEq, Repr

/-- A queued sync request (R151). -/
structure SyncReq where
  slot : Nat
  ref : Nat
  inc : Nat
  closing : Nat
  arrival : Nat
  deriving DecidableEq, Repr

/-- A running soft unload (R157). -/
structure Unload where
  owner : SeqId
  ttot : Int
  step : Nat
  ratingSum : Nat
  deriving DecidableEq, Repr

/-- The Paralleling Unit. `gens` holds G1 to G8 in order. -/
structure Par where
  gens : List Gen := List.replicate 8 {}
  demand : Bool := false
  stopTimer : Option Nat := none
  stopPending : Bool := false
  grant : Option Grant := none
  channels : List (Option Channel) := List.replicate 4 none
  queue : List SyncReq := []
  unload : Option Unload := none
  freeCap : Int := 0
  gbusP : Int := 0
  voltWin : Nat := 0
  deriving DecidableEq, Repr

/-! ## Record and Notice Unit (chapter 8) -/

/-- Trigger kinds (R163). -/
inductive TrigKind | element | bf | overrun
  deriving DecidableEq, Repr

/-- Outcomes of a breaker entry (R162). -/
inductive EntryOutcome | pending | done | noChange | fail | withdrawn | blocked | abandoned
  deriving DecidableEq, Repr

/-- Element list entry (R162). -/
structure ElemEntry where
  group : Group
  row : Nat
  kind : ElemKind
  operIdx : Nat
  deriving DecidableEq, Repr

/-- Breaker list entry (R162). -/
structure BrkEntry where
  slot : Nat
  tag : Option Nat
  outcome : EntryOutcome
  completion : Option Nat
  deriving DecidableEq, Repr

/-- BF part entry (R162). -/
structure BfEntry where
  slot : Nat
  causes : List Source
  tag : Option Nat
  backups : List Nat
  operIdx : Nat
  deriving DecidableEq, Repr

/-- Overrun part (R162). -/
structure OverrunPart where
  seq : SeqId
  slot : Nat
  index : Nat
  deriving DecidableEq, Repr

/-- A disturbance record (R162). `elems = []` and `bfPart = []` stand for the absent parts; `entered` is the
model's own list of the slots the record has entered (R166), `latest` its own list of the elements whose latest trigger the
record took (R73; log 19). -/
structure Record where
  number : Nat
  complete : Bool := false
  kind : TrigKind
  firstTime : Nat
  elems : List ElemEntry := []
  brks : List BrkEntry := []
  awaited : List (Nat × Option Nat) := []
  entered : List Nat := []
  latest : List (Group × Nat) := []
  phases : Four Bool := ⟨false, false, false, false⟩
  peaks : Four Nat := ⟨0, 0, 0, 0⟩
  pickupIdx : Nat
  operIdx : Nat
  clearance : Option Nat := none
  bfPart : List BfEntry := []
  overrun : Option OverrunPart := none
  seq1 : SeqState
  seq2 : SeqState
  mode : Mode
  truncated : Bool := false
  deriving DecidableEq, Repr

/-- A trigger with the data its own chapter gives (R71, R102, R127). -/
inductive Trigger
  | element (e : ElemEntry) (trip : List Nat) (phases : Four Bool) (peaks : Four Nat) (pickup : Nat)
  | bf (e : BfEntry)
  | overrun (o : OverrunPart)
  deriving DecidableEq, Repr

/-- Kinds of the last record event (R170). -/
inductive RecEvent | created | merged | completed | removedOverflow | discarded | cleared
  deriving DecidableEq, Repr

/-- The Record and Notice Unit. -/
structure Rec where
  queue : List Record := []
  nextNumber : Nat := 1
  bfView : List BFState := List.replicate 25 .idle
  pendingNotices : List NoticeClass := []
  lastSend : Option Nat := none
  lastEvent : Option (Nat × RecEvent) := none
  deriving DecidableEq, Repr

/-! ## Management (chapters 9 and 10) -/

/-- Part state (R180–R184). -/
inductive PartState
  | loading
  | unconfigured
  | config (fromService : Bool)
  | service (starting : Bool)
  deriving DecidableEq, Repr

/-- A management request (R173). -/
structure Request where
  src : Nat
  tag : Nat
  kind : Nat
  args : Args
  deriving DecidableEq, Repr

/-- Breaker emulator of one slot (R189). -/
structure Emu where
  pos : Pos
  move : Option (OrdType × Nat) := none
  deriving DecidableEq, Repr

/-- A request whose answer awaits a settings-memory write (R185), with the answer's status. -/
structure HeldAnswer where
  src : Nat
  tag : Nat
  kind : Nat
  clamped : Bool
  deriving DecidableEq, Repr

/-- A settings-memory write in progress (R185). -/
structure Writing where
  bank : Bool
  gen : Nat
  image : Image
  held : List HeldAnswer
  waiting : Bool := false
  waitHeld : List HeldAnswer := []
  deriving DecidableEq, Repr

/-- The Management Unit without its non-volatile memory. -/
structure Mgmt where
  part : PartState := .loading
  image : Option Image := none
  edit : Option Tables := none
  requests : List Request := []
  mode : Mode := .live
  emu : List (Option Emu) := List.replicate 25 none
  write : Option Writing := none
  goodBank : Option Bool := none
  lastGen : Nat := 0
  fault : Bool := false
  restart : Option (Nat × Nat) := none
  discard : Option (Nat × Nat) := none
  serviceAt : Option Nat := none
  deriving DecidableEq, Repr

/-- One bank of the settings memory (R180, R185): never written, an image with its generation count and CRC-32,
or contents that fail the check, with the generation count that was being written. -/
inductive Bank
  | empty
  | holds (recognized : Bool) (gen : Nat) (image : Image) (crc : BitVec 32)
  | damaged (gen : Nat)
  deriving DecidableEq, Repr

/-- One copy of the lockout store (R104). -/
inductive StoreCopy
  | empty
  | holds (gen : Nat) (content : LockoutSet) (crc : BitVec 32)
  | damaged
  deriving DecidableEq, Repr

/-- Non-volatile memory with the lockout store's write state. `nextCopy` is the copy the next write goes to,
`storeWrite` the contents being written, `storeWaiting` a change taken during the write, `restoreWait` a restore that
waits for the writes to end (R104). That `storeGen` stands at 0 while no copy has been written, so that the first copy
written carries 1, and that the count is a natural number that never wraps are DESIGN CHOICE (log 93). -/
structure NonVol where
  bank0 : Bank := .empty
  bank1 : Bank := .empty
  copy0 : StoreCopy := .empty
  copy1 : StoreCopy := .empty
  nextCopy : Bool := false
  storeGen : Nat := 0
  storeWrite : Option LockoutSet := none
  storeWaiting : Bool := false
  restoreWait : Bool := false
  deriving DecidableEq, Repr

/-! ## Payloads of the frames the part sends, by their named fields -/

/-- A sequencer as READ_STATUS reports it (R110): timers by remaining time. -/
structure SeqView where
  state : SeqState
  pendingPark : Bool
  alt : Option Alt
  spentTie : Bool
  spentGm : Bool
  retReady : Bool
  snapshot : Nat
  lastLoad : Nat
  startup : Option Nat
  loss : Option Nat
  dead : Option Nat
  retransfer : Option Nat
  restore : Option Nat
  parallel : Option Nat
  softLimit : Option Nat
  deriving DecidableEq, Repr

/-- READ_STATUS (R177, R110). -/
structure StatusView where
  part : PartState
  mode : Mode
  active : Group
  pendingGroup : Option Group
  fault : Bool
  queued : Nat
  streams : List (Nat × StreamState)
  indexSet : Bool
  targets : List (Group × Nat × Target)
  seq1 : SeqView
  seq2 : SeqView
  claim : Option SeqId
  inhibitLeft : Option Nat
  pendingNotices : List NoticeClass
  openRecords : Nat
  completeRecords : Nat
  deriving DecidableEq, Repr

/-- READ_POINT of a voltage point: its Measurement Table entry (chapter 3.1) with the run that R50 publishes, without the
tracker. -/
structure VoltView where
  quality : Quality
  rms : Four Nat
  freq : Option Nat
  latest : Option Nat
  sum4 : Option Nat
  raw : VClass
  run : Nat
  declared : VClass
  deriving DecidableEq, Repr

/-- READ_POINT of a current point: its Measurement Table entry, without the direction memory. -/
structure CurView where
  quality : Quality
  rms : Four Nat
  power : Option Int
  dir : Four Dir
  sat : Four Bool
  deriving DecidableEq, Repr

/-- The order in service as READ_BREAKER shows it (R99). -/
structure OrderView where
  type : OrdType
  causes : List Source
  tag : Nat
  phase : OrdPhase
  issueTime : Option Nat
  requesters : List Requester
  acked : Bool
  deriving DecidableEq, Repr

/-- READ_BREAKER (R99, R190). `emulated` is present in LOOP. -/
structure BreakerView where
  real : Pos
  emulated : Option Pos
  localCtl : Bool
  ready : Bool
  lastTag : Option Nat
  order : Option OrderView
  lastResult : Option LastResult
  lock : Lockout
  buses : List (Bus × Lockout)
  bf : BFState
  bfTimer : Nat
  line : Option Nat
  energized : Bool
  deriving DecidableEq, Repr

/-- READ_GENERATOR naming Gk (R144). -/
structure GenView where
  row : GenRow
  state : GenState
  cause : Option FailCause
  running : Bool
  ready : Bool
  fault : Bool
  manualMode : Bool
  lost : Bool
  age : Option Nat
  power : Option Int
  filter : Int
  bias : Int
  startSent : Bool
  awaited : Option Awaited
  channel : Option Nat
  queuePlace : Option Nat
  deriving DecidableEq, Repr

/-- READ_GENERATOR naming generator 0 (R146). -/
structure GenBusView where
  demand : Bool
  stopLeft : Option Nat
  stopPending : Bool
  grant : Option Nat
  channels : List (Option Channel)
  queue : List SyncReq
  unload : Option Unload
  freeCap : Int
  gbusP : Int
  deriving DecidableEq, Repr

/-- READ_RECORD: a record without its first trigger time and awaited slots (R167). -/
structure RecordView where
  number : Nat
  complete : Bool
  kind : TrigKind
  elems : List ElemEntry
  brks : List BrkEntry
  phases : Four Bool
  peaks : Four Nat
  pickupIdx : Nat
  operIdx : Nat
  clearance : Option Nat
  bfPart : List BfEntry
  overrun : Option OverrunPart
  seq1 : SeqState
  seq2 : SeqState
  mode : Mode
  truncated : Bool
  deriving DecidableEq, Repr

/-- Answer payloads (R175, R177). -/
inductive AnswerPayload
  | nothing
  | failedCheck (table : TableId) (row : Nat)
  | status (v : StatusView)
  | volt (v : VoltView)
  | cur (v : CurView)
  | breaker (v : BreakerView)
  | element (row : ElementRow) (target : Option Target) (slot : Option RtSlot)
  | generator (v : GenView)
  | genBus (v : GenBusView)
  | row (r : RowData)
  | record (r : Option RecordView) (openRecords completeRecords : Nat)
  deriving DecidableEq, Repr

/-- Answer status (R175). -/
inductive Status | done | doneClamped | refused (r : Reason)
  deriving DecidableEq, Repr

/-- A slot in the POSITION snapshot (R170): the order as type, tag and phase, the last result as type, tag and
result. -/
structure PosView where
  slot : Nat
  position : Pos
  localCtl : Bool
  ready : Bool
  order : Option (OrdType × Nat × OrdPhase)
  lastResult : Option (OrdType × Nat × Told)
  deriving DecidableEq, Repr

/-- A sequencer in the SEQUENCER snapshot (R170). -/
structure SeqSnap where
  seq : SeqId
  state : SeqState
  pendingPark : Bool
  alt : Option Alt
  retReady : Bool
  deriving DecidableEq, Repr

/-- Notice snapshots (R170), one constructor for each class. -/
inductive Snapshot
  | protection (active : Group) (pendingGroup : Option Group) (operated : List (Nat × Group))
      (targets : List (Group × Nat × Nat))
  | breakerFailure (slots : List (Nat × BFState × Nat))
  | lockout (slots : List (Nat × Nat)) (buses : List (Bus × Nat))
  | position (slots : List PosView)
  | sequencer (part : PartState) (mode : Mode) (seqs : List SeqSnap) (claim : Option SeqId) (inhibitLeft : Nat)
  | generator (demand : Bool) (stopLeft : Option Nat) (stopPending : Bool) (grant : Option Nat) (freeCap : Int)
      (unload : Option SeqId) (gens : List (Nat × GenState × Int)) (channels : List (Nat × Bool))
  | stream (indexSet : Bool) (streams : List (Nat × StreamState))
  | record (openRecords completeRecords : Nat) (oldest : Option Nat) (last : Option (Nat × RecEvent))
  deriving DecidableEq, Repr

/-- What an ORDER frame orders (chapter 1.8). -/
inductive OrderCode | opn | close | withdraw
  deriving DecidableEq, Repr

/-- Payload of a frame the part originates (chapter 1.8). -/
inductive OwnPayload
  | order (slot : Nat) (code : OrderCode) (tag : Nat) (cause : Source)
  | gencmd (gen : Nat) (start : Bool) (bias : Int)
  | answer (tag kind : Nat) (status : Status) (payload : AnswerPayload)
  | notice (c : NoticeClass) (snap : Snapshot)
  deriving DecidableEq, Repr

/-- A frame the part originates: destination and source station, and payload (R10). -/
structure OwnFrame where
  dest : Nat
  src : Nat
  payload : OwnPayload
  deriving DecidableEq, Repr

/-- A frame in an egress queue: forwarded unchanged, or the part's own (R8). -/
inductive QFrame
  | fwd (f : EthFrame)
  | own (f : OwnFrame)
  deriving DecidableEq, Repr

/-! ## Link Unit (chapter 1) -/

/-- The three egress queues (R8). -/
inductive Egress | urgent | stream | bulk
  deriving DecidableEq, Repr

/-- One port: link state, egress queues and frame in transmission (R1, R8, R9). -/
structure PortState where
  up : Bool := false
  urgent : List QFrame := []
  stream : List QFrame := []
  bulk : List QFrame := []
  tx : Option QFrame := none
  deriving DecidableEq, Repr

/-- A duplicate filter entry (R7). -/
structure DupEntry where
  src : Nat
  tag : Nat
  arrival : Nat
  deriving DecidableEq, Repr

/-- The Link Unit. `running` is RUNNING against BYPASS; `retired` is the retired number with its time. -/
structure Link where
  running : Bool := false
  p1 : PortState := {}
  p2 : PortState := {}
  station : Option Nat := none
  retired : Option (Nat × Nat) := none
  dup : List DupEntry := []
  deriving DecidableEq, Repr

/-! ## Messages inside one command -/

/-- What one block publishes or tells to another while a command is carried out (00_scope.md, "Block diagram"). -/
inductive Msg
  | told (r : Requester) (slot : Nat) (type : OrdType) (tag : Option Nat) (t : Told)
  | closeOutcome (slot : Nat) (t : Told)
  | posChanged (slot : Nat) (was now : Pos)
  | busLockSet (b : Bus)
  | busLockCleared (b : Bus)
  deriving DecidableEq, Repr

end Sys2Proof
end

