-- ==== Sys2Proof/Config.lean ====
section
/-!
DEFINITION. What an implementation of the VN6240 fixes and the reference does not give: opaque constants, so that
no proof can see their values. The free values are applied to the counter `State.free` (log 5).
-/

namespace Sys2Proof

/-- A free truth value: what an interrupted write of the lockout store leaves (R104; log 12). -/
opaque Config.freeBit : Nat → Bool

/-- A free number: the order of commands that fall due together (log 2), and the outcome of a record's slot that
R165 does not list (log 5). -/
opaque Config.freeNat : Nat → Nat

/-- The common scale of a phase A that no MAIN row maps, where a residual voltage is to be brought to it (R37; log 22). -/
opaque Config.unmappedScale : Nat

/-- The fixed Ethernet address of each port (R10). -/
opaque Config.portAddress : Port → BitVec 48

/-- The bytes an image and its generation count are stored as (R185; log 15). -/
opaque Config.imageBytes : Nat → Image → List Byte

/-- The bytes a copy of the lockout store and its generation count are stored as (R104; log 15). -/
opaque Config.lockoutBytes : Nat → LockoutSet → List Byte

/-- The bytes of an answer payload, which follow the ANSWER head (chapter 1.8; log 15). -/
opaque Config.answerBytes : AnswerPayload → List Byte

/-- The bytes of a notice snapshot (chapter 1.8; log 15). -/
opaque Config.snapshotBytes : Snapshot → List Byte

end Sys2Proof
end

