-- ==== Sys2Proof/Machine/FrameFormat.lean ====
section
/-!
DEFINITION. Frame formats (chapter 1.8): reading the common header and the SAMPLE, POSITION, GENSTAT and MANAGE
payloads from the bytes of a received frame, the checks of R2, R3 and R6 that concern the frame alone, and the
bytes of the frames the part builds (R10).
-/

namespace Sys2Proof.Machine

/-- The byte at an offset counted from the first byte after the Ethernet type field; 0 beyond the frame. -/
def byteAt (body : List Byte) (i : Nat) : Nat := (body.getD i 0).toNat

/-- A two-byte field, most significant byte first (chapter 1.8). -/
def word16At (body : List Byte) (i : Nat) : Nat := byteAt body i * 256 + byteAt body (i + 1)

/-- Two's complement reading of a two-byte field. -/
def signed16 (n : Nat) : Int := if n < 32768 then (n : Int) else (n : Int) - 65536

/-- The two bytes of a field, most significant first. -/
def word16Bytes (n : Nat) : List Byte := [BitVec.ofNat 8 (n / 256), BitVec.ofNat 8 n]

/-- The vendor frame type (R2). -/
def vendorType : Nat := 0x9A31

/-- Length of a frame from the first byte of the destination address to the last of the check sequence: 12 address
bytes, 2 type bytes, the body and 4 bytes of check sequence (R2). -/
def frameLength (f : EthFrame) : Nat := f.body.length + 18

/-- The checks of R2: check sequence right, 64 to 1,518 bytes. -/
def frameSound (f : EthFrame) : Bool :=
  f.fcsOk && decide (64 ≤ frameLength f) && decide (frameLength f ≤ 1518)

/-- Frame kind codes of the common header. -/
def kindOfCode (n : Nat) : Option FrameKind :=
  match n with
  | 1 => some .sample
  | 2 => some .position
  | 3 => some .order
  | 4 => some .genstat
  | 5 => some .gencmd
  | 6 => some .manage
  | 7 => some .answer
  | 8 => some .notice
  | _ => none

/-- The code of a frame kind. -/
def kindCode : FrameKind → Nat
  | .sample => 1
  | .position => 2
  | .order => 3
  | .genstat => 4
  | .gencmd => 5
  | .manage => 6
  | .answer => 7
  | .notice => 8

/-- The common header of a vendor frame as received. -/
structure Header where
  kind : FrameKind
  dest : Nat
  src : Nat
  payloadLen : Nat
  deriving DecidableEq, Repr

/-- R3: layout version 0x01, one of the eight kinds, source 1 to 65,534, payload length at most 1,492 and at most
the bytes that follow the header. -/
def headerCheck (body : List Byte) : Option Header :=
  match kindOfCode (byteAt body 1) with
  | none => none
  | some k =>
    if byteAt body 0 = 1 ∧ 8 ≤ body.length ∧ 1 ≤ word16At body 4 ∧ word16At body 4 ≤ 65534 ∧
        word16At body 6 ≤ 1492 ∧ word16At body 6 ≤ body.length - 8 then
      some ⟨k, word16At body 2, word16At body 4, word16At body 6⟩
    else none

/-- What reception makes of a frame (R2, R3): dropped at the port, foreign (malformed vendor frames among them), or
a well-formed vendor frame. -/
inductive FrameClass
  | bad
  | foreign
  | vendor (h : Header)
  deriving DecidableEq, Repr

/-- R2 and R3. -/
def frameClass (f : EthFrame) : FrameClass :=
  if frameSound f then
    if f.etherType = vendorType then
      match headerCheck f.body with
      | some h => .vendor h
      | none => .foreign
    else .foreign
  else .bad

/-- A SAMPLE payload by its fields. -/
structure SamplePayload where
  stream : Nat
  sync : Bool
  index : Nat
  values : List Int
  deriving DecidableEq, Repr

/-- Values of channels `i`, `i + 1`, … of a SAMPLE frame. -/
def sampleValues (body : List Byte) (count : Nat) : List Int :=
  (List.range count).map fun i => signed16 (word16At body (13 + 2 * i))

/-- SAMPLE payload: length 5 + 2 × channel count, stream 0 to 3, channel count 1 to 8 (R6, chapter 1.8). -/
def samplePayload (h : Header) (body : List Byte) : Option SamplePayload :=
  if byteAt body 8 ≤ 3 ∧ 1 ≤ byteAt body 12 ∧ byteAt body 12 ≤ 8 ∧ h.payloadLen = 5 + 2 * byteAt body 12 then
    some ⟨byteAt body 8, byteAt body 9 % 2 = 1, word16At body 10, sampleValues body (byteAt body 12)⟩
  else none

/-- A POSITION payload by its fields. -/
structure PositionPayload where
  slot : Nat
  contacts : Contacts
  localCtl : Bool
  ready : Bool
  tag : Nat
  deriving DecidableEq, Repr

/-- POSITION payload: length 3, slot 0 to 24; bits 0 to 3 of the contact byte (chapter 1.8). -/
def positionPayload (h : Header) (body : List Byte) : Option PositionPayload :=
  if h.payloadLen = 3 ∧ byteAt body 8 ≤ 24 then
    let c := byteAt body 9
    some ⟨byteAt body 8, ⟨c % 2 = 1, c / 2 % 2 = 1⟩, c / 4 % 2 = 1, c / 8 % 2 = 1, byteAt body 10⟩
  else none

/-- A GENSTAT payload by its fields. -/
structure GenstatPayload where
  gen : Nat
  running : Bool
  ready : Bool
  fault : Bool
  manualMode : Bool
  deriving DecidableEq, Repr

/-- GENSTAT payload: length 5, generator 1 to 8, flag and mode bytes 0 or 1 (chapter 1.8). -/
def genstatPayload (h : Header) (body : List Byte) : Option GenstatPayload :=
  if h.payloadLen = 5 ∧ 1 ≤ byteAt body 8 ∧ byteAt body 8 ≤ 8 ∧ byteAt body 9 ≤ 1 ∧ byteAt body 10 ≤ 1 ∧
      byteAt body 11 ≤ 1 ∧ byteAt body 12 ≤ 1 then
    some ⟨byteAt body 8, byteAt body 9 = 1, byteAt body 10 = 1, byteAt body 11 = 1, byteAt body 12 = 1⟩
  else none

/-- The head of a MANAGE payload: request tag and request kind code; valid when at least 3 bytes long (R6). -/
def managePayload (h : Header) (f : EthFrame) : Option Request :=
  if 3 ≤ h.payloadLen then some ⟨h.src, word16At f.body 8, byteAt f.body 10, f.args⟩ else none

/-! ## Frames the part builds (R10) -/

/-- Rank of a source; the lower number ranks higher (00_scope.md). -/
def rank : Source → Nat
  | .prot => 1
  | .bft => 2
  | .schO => 3
  | .oprO => 4
  | .schC => 5
  | .oprC => 6

/-- Reason codes (R175). -/
def reasonCode : Reason → Nat
  | .notPermitted => 1
  | .wrongState => 2
  | .busy => 3
  | .activeGroup => 4
  | .badRow => 5
  | .badValue => 6
  | .lockout => 7
  | .busLockout => 8
  | .position => 9
  | .loc => 10
  | .parallel => 11
  | .notSettled => 12
  | .deadDead => 13
  | .deadGbus => 14
  | .grant => 15
  | .conflict => 16

/-- Status code of an ANSWER frame (chapter 1.8). -/
def statusCode : Status → Nat
  | .done => 0
  | .doneClamped => 1
  | .refused _ => 2

/-- Reason byte of an ANSWER frame: 0 unless the status is REFUSED (chapter 1.8). -/
def statusReason : Status → Nat
  | .refused r => reasonCode r
  | _ => 0

/-- Code of a notice class (chapter 1.8). -/
def noticeCode : NoticeClass → Nat
  | .protection => 1
  | .breakerFailure => 2
  | .lockout => 3
  | .position => 4
  | .sequencer => 5
  | .generator => 6
  | .stream => 7
  | .record => 8

/-- Code of an order (chapter 1.8). -/
def orderCode : OrderCode → Nat
  | .opn => 1
  | .close => 2
  | .withdraw => 3

/-- Frame kind of an originated payload. -/
def ownKind : OwnPayload → FrameKind
  | .order .. => .order
  | .gencmd .. => .gencmd
  | .answer .. => .answer
  | .notice .. => .notice

/-- Payload bytes of an originated frame (chapter 1.8). -/
def ownPayloadBytes : OwnPayload → List Byte
  | .order slot code tag cause =>
    [BitVec.ofNat 8 slot, BitVec.ofNat 8 (orderCode code), BitVec.ofNat 8 tag, BitVec.ofNat 8 (rank cause)]
  | .gencmd gen start bias =>
    [BitVec.ofNat 8 gen, if start then 1 else 0] ++ word16Bytes (bias % 65536).toNat
  | .answer tag kind status payload =>
    word16Bytes tag ++ [BitVec.ofNat 8 kind, BitVec.ofNat 8 (statusCode status),
      BitVec.ofNat 8 (statusReason status)] ++ Config.answerBytes payload
  | .notice c snap => BitVec.ofNat 8 (noticeCode c) :: Config.snapshotBytes snap

/-- Bytes of an originated frame after the Ethernet type field: common header, payload, and zero bytes up to the
minimum frame length (R10). -/
def ownBody (f : OwnFrame) : List Byte :=
  let payload := ownPayloadBytes f.payload
  let frame := [1, BitVec.ofNat 8 (kindCode (ownKind f.payload))] ++ word16Bytes f.dest ++ word16Bytes f.src ++
    word16Bytes payload.length ++ payload
  frame ++ List.replicate (46 - frame.length) 0

/-- An originated frame as a port sends it: broadcast destination address, the port's own source address, type
0x9A31, body (R10). -/
structure WireFrame where
  destMac : BitVec 48
  srcMac : BitVec 48
  etherType : Nat
  body : List Byte
  deriving DecidableEq, Repr

/-- R10: the frame a port sends for an originated frame. -/
def wireFrame (p : Port) (f : OwnFrame) : WireFrame :=
  ⟨BitVec.allOnes 48, Config.portAddress p, vendorType, ownBody f⟩

end Sys2Proof.Machine
end

