-- ==== Sys2Proof/Machine/State.lean ====
section
/-!
DEFINITION. The state of the part: one record for each of the nine blocks, the non-volatile memories, the wall
clock, and the queue of waiting commands. `State.reset` is the application of supply to a part out of its box.
-/

namespace Sys2Proof.Machine

/-- No command of this part faults: what the reference calls a fault is a bit of state (R185). Safe: the type is
empty, so nothing can raise it. -/
inductive Fault
  deriving DecidableEq, Repr

/-- Refusals of the model. -/
inductive Refusal
  /-- Raised by an arm of `exec` that has no meaning yet; no arm raises it. Safe. -/
  | notModelled (mnemonic : String)
  deriving DecidableEq, Repr

/-- The whole part (00_scope.md, "Block diagram"). `free` counts the free values used, `mail` holds the messages
between blocks while one command is carried out, `pending` the commands that wait. -/
structure State where
  now : Nat := 0
  free : Nat := 0
  supply : Bool := true
  link : Link := {}
  intake : Intake := {}
  meas : Meas := {}
  prot : Prot := {}
  arb : Arb := {}
  seqs : Seqs := {}
  par : Par := {}
  records : Rec := {}
  mgmt : Mgmt := {}
  nv : NonVol := {}
  mail : List Msg := []
  pending : List Instr := []
  deriving DecidableEq, Repr

/-- Supply has just been applied to a part whose non-volatile memories were never written (R12, R33, R51, R79,
R107, R137, R160, R171, R173, R185, R187). -/
def State.reset : State := {}

end Sys2Proof.Machine
end

