-- ==== Sys2Proof/Machine/Ops.lean ====
section
/-!
DEFINITION. Named operations over the state: one update for each block, access to slots, points, generators and
sequencers by number, the arithmetic of the Conventions (00_scope.md), the sides of a slot, and what the blocks read
of one another (tables in force, effective positions, declared states).
-/

namespace Sys2Proof.Machine

/-! ## Arithmetic of the Conventions -/

/-- A duration of `n` milliseconds in the microseconds of the wall clock. -/
def ms (n : Nat) : Nat := n * 1000

/-- A duration of `n` seconds in the microseconds of the wall clock. -/
def secs (n : Nat) : Nat := n * 1000000

/-- "Brought to the nearer limit" for natural numbers. -/
def clampNat (lo hi n : Nat) : Nat := if n < lo then lo else if hi < n then hi else n

/-- "Takes the nearer limit" for signed quantities. -/
def clampInt (lo hi x : Int) : Int := if x < lo then lo else if hi < x then hi else x

/-- Ceiling of a quotient of natural numbers. -/
def ceilDiv (a b : Nat) : Nat := (a + b - 1) / b

/-- Milliseconds in updates: ceil(ms × f_nom × 4 / 1000) (00_scope.md, "Two timebases"). -/
def msToUpdates (fNom t : Nat) : Nat := ceilDiv (t * fNom * 4) 1000

/-- An angle brought into −18,000 to +17,999 centidegrees (R47). -/
def wrapAngle (x : Int) : Int := (x + 18000) % 36000 - 18000

/-- How far index `j` lies ahead of index `k`, modulo 65,536 (00_scope.md, "Station numbers and sequence
indices"). -/
def aheadBy (j k : Nat) : Nat := (j + 65536 - k % 65536) % 65536

/-- One step of the square root by binary digits. -/
def sqrtStep (n r b : Nat) : Nat := if (r + 2 ^ b) * (r + 2 ^ b) ≤ n then r + 2 ^ b else r

/-- floor(√n) for n below 2^64 (R36). -/
def floorSqrt (n : Nat) : Nat :=
  [31, 30, 29, 28, 27, 26, 25, 24, 23, 22, 21, 20, 19, 18, 17, 16, 15, 14, 13, 12, 11, 10, 9, 8, 7, 6, 5, 4, 3, 2,
    1, 0].foldl (sqrtStep n) 0

/-- One bit of the reflected CRC-32 (R180). -/
def crcBit (c : BitVec 32) : BitVec 32 := if c.getLsbD 0 then (c >>> 1) ^^^ 0xEDB88320#32 else c >>> 1

/-- One byte of the reflected CRC-32. -/
def crcByte (c : BitVec 32) (b : Byte) : BitVec 32 :=
  crcBit (crcBit (crcBit (crcBit (crcBit (crcBit (crcBit (crcBit (c ^^^ b.setWidth 32))))))))

/-- The CRC-32 of R180: reflected, polynomial 0x04C11DB7, initial value and final complement 0xFFFFFFFF. -/
def crc32 (bytes : List Byte) : BitVec 32 := ~~~(bytes.foldl crcByte 0xFFFFFFFF#32)

/-- Replaces entry `i` of a list by `f` of it; nothing where there is no entry. -/
def modAt {α : Type} (l : List α) (i : Nat) (f : α → α) : List α :=
  match l, i with
  | [], _ => []
  | x :: xs, 0 => f x :: xs
  | x :: xs, k + 1 => x :: modAt xs k f

/-! ## One update for each block -/

def State.modLink (s : State) (f : Link → Link) : State := { s with link := f s.link }
def State.modIntake (s : State) (f : Intake → Intake) : State := { s with intake := f s.intake }
def State.modMeas (s : State) (f : Meas → Meas) : State := { s with meas := f s.meas }
def State.modProt (s : State) (f : Prot → Prot) : State := { s with prot := f s.prot }
def State.modArb (s : State) (f : Arb → Arb) : State := { s with arb := f s.arb }
def State.modSeqs (s : State) (f : Seqs → Seqs) : State := { s with seqs := f s.seqs }
def State.modPar (s : State) (f : Par → Par) : State := { s with par := f s.par }
def State.modRecords (s : State) (f : Rec → Rec) : State := { s with records := f s.records }
def State.modMgmt (s : State) (f : Mgmt → Mgmt) : State := { s with mgmt := f s.mgmt }
def State.modNv (s : State) (f : NonVol → NonVol) : State := { s with nv := f s.nv }

/-- A message is added behind those that wait (log 4). -/
def State.post (s : State) (m : Msg) : State := { s with mail := s.mail ++ [m] }

/-- The counter of free values moves on (log 5). -/
def State.useFree (s : State) : State := { s with free := s.free + 1 }

/-! ## Slots, points, streams, elements, generators, sequencers -/

/-- The Arbiter's state of a slot. -/
def State.slot (s : State) (n : Nat) : ArbSlot := s.arb.slots.getD n {}

/-- A slot's state replaced by `f` of it. -/
def State.modSlot (s : State) (n : Nat) (f : ArbSlot → ArbSlot) : State :=
  s.modArb fun a => { a with slots := modAt a.slots n f }

/-- The Measurement Table entry of a current point. -/
def State.curMeas (s : State) (n : Nat) : CurMeas := s.meas.cur.getD n {}

/-- The Measurement Table entry of a voltage point. -/
def State.voltMeas (s : State) (v : Nat) : VoltMeas := s.meas.volt.getD v {}

/-- The runtime slot of an element row index. -/
def State.rtSlot (s : State) (i : Nat) : RtSlot := s.prot.slots.getD i {}

/-- A runtime slot replaced by `f` of it. -/
def State.modRt (s : State) (i : Nat) (f : RtSlot → RtSlot) : State :=
  s.modProt fun p => { p with slots := modAt p.slots i f }

/-- The record of generator Gk, `k` from 1 to 8. -/
def State.gen (s : State) (k : Nat) : Gen := s.par.gens.getD (k - 1) {}

/-- The record of generator Gk replaced by `f` of it; nothing for `k` = 0. -/
def State.modGen (s : State) (k : Nat) (f : Gen → Gen) : State :=
  if k = 0 then s else s.modPar fun p => { p with gens := modAt p.gens (k - 1) f }

/-- A sequencer's record. -/
def State.seq (s : State) (q : SeqId) : Seq :=
  match q with
  | .seq1 => s.seqs.seq1
  | .seq2 => s.seqs.seq2

/-- A sequencer's record replaced by `f` of it. -/
def State.modSeq (s : State) (q : SeqId) (f : Seq → Seq) : State :=
  match q with
  | .seq1 => s.modSeqs fun x => { x with seq1 := f x.seq1 }
  | .seq2 => s.modSeqs fun x => { x with seq2 := f x.seq2 }

/-- A bus lockout. -/
def State.busLock (s : State) (b : Bus) : Lockout :=
  match b with
  | .bus1 => s.arb.bus1
  | .bus2 => s.arb.bus2
  | .gbus => s.arb.gbus

/-- A bus lockout replaced. -/
def State.setBusLock (s : State) (b : Bus) (l : Lockout) : State :=
  match b with
  | .bus1 => s.modArb fun a => { a with bus1 := l }
  | .bus2 => s.modArb fun a => { a with bus2 := l }
  | .gbus => s.modArb fun a => { a with gbus := l }

/-! ## Tables in force -/

/-- The tables in force; the fresh tables, in which nothing is present, when there are none (R34, R52, R108). -/
def State.tbl (s : State) : Tables :=
  match s.mgmt.image with
  | some im => im.tables
  | none => Tables.fresh

/-- The Site Record in force. -/
def State.site (s : State) : SiteRow := s.tbl.site

/-- f_nom of the Site Record in force; every committed Site Record has one (R179). -/
def State.fNom (s : State) : Nat := s.site.fNom.getD 50

/-- The Breaker Table row of a slot. -/
def State.brk (s : State) (n : Nat) : BreakerRow := s.tbl.breakers.getD n {}

/-- The Generator Table row of Gk; a row that is not present for any other number. -/
def State.genRow (s : State) (k : Nat) : GenRow := if k = 0 then {} else s.tbl.gens.getD (k - 1) {}

/-- The Scheme record of a sequencer. -/
def State.scheme (s : State) (q : SeqId) : SchemeRow :=
  match q with
  | .seq1 => s.tbl.schemes.getD 0 {}
  | .seq2 => s.tbl.schemes.getD 1 {}

/-- The Element Table of a group. -/
def elemTable (t : Tables) (g : Group) : List ElementRow :=
  match g with
  | .a => t.elemsA
  | .b => t.elemsB

/-- An element row in force. -/
def State.elemRow (s : State) (g : Group) (i : Nat) : ElementRow := (elemTable s.tbl g).getD i {}

/-- Whether a Site Record is in force for notices: not in LOADING or UNCONFIGURED (R171). -/
def State.siteInForce (s : State) : Bool :=
  s.mgmt.image.isSome &&
    (match s.mgmt.part with
     | .loading | .unconfigured => false
     | _ => true)

/-- The part state is SERVICE. -/
def State.inService (s : State) : Bool :=
  match s.mgmt.part with
  | .service _ => true
  | _ => false

/-- The part state is CONFIG. -/
def State.inConfig (s : State) : Bool :=
  match s.mgmt.part with
  | .config _ => true
  | _ => false

/-- The blocks run on tables in force: SERVICE, or CONFIG entered from SERVICE (chapter 9.5). -/
def State.blocksRun (s : State) : Bool :=
  match s.mgmt.part with
  | .service _ => true
  | .config fromService => fromService
  | _ => false

/-! ## The lineup (00_scope.md) -/

/-- The breaker slot of an incomer, of a generator main, and of the TIE (chapter 6.1). -/
def incSlot : SeqId → Nat
  | .seq1 => 0
  | .seq2 => 1

def gmSlot : SeqId → Nat
  | .seq1 => 3
  | .seq2 => 4

def tieSlot : Nat := 2

/-- Slot of an alternate of a section. -/
def altSlot (q : SeqId) : Alt → Nat
  | .tie => tieSlot
  | .gm => gmSlot q

/-- The other sequencer. -/
def otherSeq : SeqId → SeqId
  | .seq1 => .seq2
  | .seq2 => .seq1

/-- Utility point and bus point of a section, and its bus (chapter 6.1). -/
def utilPoint : SeqId → Nat
  | .seq1 => 0
  | .seq2 => 1

def busPoint : SeqId → Nat
  | .seq1 => 2
  | .seq2 => 3

def secBus : SeqId → Bus
  | .seq1 => .bus1
  | .seq2 => .bus2

/-- Generator of a GEN breaker slot (slot 4 + k for Gk). -/
def genOfSlot (n : Nat) : Option Nat := if 5 ≤ n ∧ n ≤ 12 then some (n - 4) else none

/-- Slot of the breaker of Gk. -/
def genSlot (k : Nat) : Nat := 4 + k

/-- Voltage point of a bus section as a feeder's bus side. -/
def busVolt : Bus → Nat
  | .bus1 => 2
  | .bus2 => 3
  | .gbus => 4

/-- The voltage points of side 1 and side 2 of a slot; a feeder has only its bus side (chapter 5.5). -/
def State.sides (s : State) (n : Nat) : Nat × Option Nat :=
  match n with
  | 0 => (0, some 2)
  | 1 => (1, some 3)
  | 2 => (2, some 3)
  | 3 => (4, some 2)
  | 4 => (4, some 3)
  | k => if k ≤ 12 then (k, some 4) else (busVolt (s.brk k).busSide, none)

/-- The sides of a slot that are buses (R102). -/
def State.busSides (s : State) (n : Nat) : List Bus :=
  match n with
  | 0 => [.bus1]
  | 1 => [.bus2]
  | 2 => [.bus1, .bus2]
  | 3 => [.gbus, .bus1]
  | 4 => [.gbus, .bus2]
  | k => if k ≤ 12 then [.gbus] else [(s.brk k).busSide]

/-- All breaker slots, 0 to 24. -/
def allSlots : List Nat := List.range 25

/-- All generators, 1 to 8. -/
def allGens : List Nat := [1, 2, 3, 4, 5, 6, 7, 8]

/-- Declared state of a voltage point (R50). -/
def State.declared (s : State) (v : Nat) : VClass := (s.voltMeas v).declared

/-- "Live" means declared LIVE or HEALTHY (chapter 5.5). -/
def isLive : VClass → Bool
  | .live | .healthy => true
  | _ => false

/-! ## Positions (R190) -/

/-- The emulated position and move of a slot in LOOP. -/
def State.emuOf (s : State) (n : Nat) : Option Emu := s.mgmt.emu.getD n none

/-- The position the blocks read: the emulated one in LOOP, the real one otherwise (R190). -/
def State.pos (s : State) (n : Nat) : Pos :=
  match s.mgmt.mode, s.emuOf n with
  | .loop, some e => e.pos
  | _, _ => (s.slot n).position

/-- The transfer inhibit is active until its end time (R136). -/
def State.inhibitActive (s : State) : Bool :=
  match s.seqs.inhibit with
  | some e => decide (s.now < e)
  | none => false

/-- A timer, held as its expiry time, has run out. -/
def timerDue (s : State) (t : Option Nat) : Bool :=
  match t with
  | some d => decide (d ≤ s.now)
  | none => false

/-- Remaining time of a running timer. -/
def remaining (s : State) (t : Option Nat) : Option Nat := t.map (· - s.now)

end Sys2Proof.Machine
end

