-- ==== Sys2Proof/Machine/Operands.lean ====
section
/-!
DEFINITION. Operands of the management requests: what WRITE_ROW does to a row (clamping, conversion, structural
tests: R15, R16, R54, R56, R82, R109, R139, R172, R178, R179), the checks of COMMIT (R182 and the rules it names), and
the shape and numbering of request arguments (R174, R176).
-/

namespace Sys2Proof.Machine

/-! ## Clamping (R178) -/

/-- R179. -/
def clampSite (r : SiteRow) : SiteRow :=
  { r with
    vn := r.vn.map (clampNat 1000 25000), station := r.station.map (clampNat 1 65534)
    noticeDest := r.noticeDest.map (clampNat 1 65535)
    qDead := clampNat 1 255 r.qDead, qIndet := clampNat 1 255 r.qIndet, qLive := clampNat 1 255 r.qLive
    qHealthy := clampNat 1 255 r.qHealthy, deadPct := clampNat 5 40 r.deadPct, livePct := clampNat 30 90 r.livePct
    healthyLo := clampNat 80 99 r.healthyLo, healthyHi := clampNat 101 120 r.healthyHi
    freqHalf := clampNat 100 3000 r.freqHalf, stopDelay := clampNat 10 3600 r.stopDelay }

/-- R172. -/
def clampManager (r : ManagerRow) : ManagerRow := { r with station := clampNat 1 65534 r.station }

/-- R15. -/
def clampSub (r : SubRow) : SubRow :=
  { r with station := clampNat 1 65534 r.station, stream := clampNat 0 3 r.stream, count := clampNat 1 8 r.count }

/-- R16. -/
def clampChan (r : ChanRow) : ChanRow :=
  { r with scale := clampNat 1 65535 r.scale, divLimit := clampNat 1 32767 r.divLimit }

/-- R82. -/
def clampBreaker (r : BreakerRow) : BreakerRow :=
  { r with
    station := clampNat 1 65534 r.station, openLimit := clampNat 20 1000 r.openLimit
    closeLimit := clampNat 20 1000 r.closeLimit, closingTime := clampNat 20 500 r.closingTime
    bfThreshold := clampNat 1 65535 r.bfThreshold, bfTime := clampNat 20 1000 r.bfTime
    emuOpen := clampNat 10 1000 r.emuOpen, emuClose := clampNat 10 1000 r.emuClose }

/-- R54. -/
def clampCurve (r : CurveRow) : CurveRow :=
  { points := r.points.map fun p => (clampNat 16 640 p.1, clampNat 1 1000000 p.2)
    resetRate := clampNat 1 1000000 r.resetRate }

/-- R56: the pickup range of a kind. -/
def clampPickup (k : ElemKind) (n : Nat) : Nat :=
  match k with
  | .toc | .ioc | .uv | .ov => clampNat 1 65535 n
  | .uf | .ovf => clampNat 40000 70000 n
  | .rp => clampNat 1 2000000 n

/-- R56. -/
def clampElement (r : ElementRow) : ElementRow :=
  { r with pickup := clampPickup r.kind r.pickup, td := clampNat 5 1500 r.td, delayMs := clampNat 0 60000 r.delayMs }

/-- R109. -/
def clampScheme (r : SchemeRow) : SchemeRow :=
  { r with
    lossQualify := clampNat 100 10000 r.lossQualify, residualPct := clampNat 5 50 r.residualPct
    deadLimit := clampNat 200 10000 r.deadLimit, retransferDelay := clampNat 10 1800 r.retransferDelay
    restoreDelay := clampNat 1 600 r.restoreDelay, maxParallel := clampNat 20 500 r.maxParallel
    softLimit := clampNat 10 600 r.softLimit, softRamp := clampNat 1 20 r.softRamp
    softThreshold := clampNat 1 20 r.softThreshold }

/-- R139. -/
def clampGen (r : GenRow) : GenRow :=
  { r with station := clampNat 1 65534 r.station, rating := clampNat 100 10000 r.rating, priority := clampNat 1 8 r.priority }

/-- R139. -/
def clampPar (r : ParRow) : ParRow :=
  { voltWinPct := clampNat 1 20 r.voltWinPct, slipLimit := clampNat 10 1000 r.slipLimit
    angleWin := clampNat 100 3000 r.angleWin, syncWait := clampNat 5 300 r.syncWait
    gain := clampNat 1 1000 r.gain, stepLimit := clampNat 1 50 r.stepLimit }

/-- R178: each numeric field outside its range is brought to the nearer limit. -/
def clampRow : RowData → RowData
  | .site r => .site (clampSite r)
  | .manager r => .manager (clampManager r)
  | .sub r => .sub (clampSub r)
  | .chan r => .chan (clampChan r)
  | .breaker r => .breaker (clampBreaker r)
  | .curve r => .curve (clampCurve r)
  | .element r => .element (clampElement r)
  | .scheme r => .scheme (clampScheme r)
  | .gen r => .gen (clampGen r)
  | .par r => .par (clampPar r)

/-! ## Conversion to updates (R56, R82) -/

/-- R82: the BF time in updates; unset while the f_nom is. -/
def convertBreaker (fNom : Option Nat) (r : BreakerRow) : BreakerRow :=
  { r with bfUpdates := fNom.map fun f => msToUpdates f r.bfTime }

/-- R56: the delay in updates; unset while the f_nom is. -/
def convertElement (fNom : Option Nat) (r : ElementRow) : ElementRow :=
  { r with delayUpd := fNom.map fun f => msToUpdates f r.delayMs }

/-- R178: each field converted to updates is converted. -/
def convertRow (fNom : Option Nat) : RowData → RowData
  | .breaker r => .breaker (convertBreaker fNom r)
  | .element r => .element (convertElement fNom r)
  | d => d

/-- R56, R82: at a successful COMMIT every BF time and every delay is converted again. -/
def convertTables (t : Tables) : Tables :=
  { t with breakers := t.breakers.map (convertBreaker t.site.fNom), elemsA := t.elemsA.map (convertElement t.site.fNom)
           elemsB := t.elemsB.map (convertElement t.site.fNom) }

/-! ## Structural tests at writing (R178) -/

/-- A point lies among C0 to C24, V0 to V12. -/
def pointInList : PointId → Bool
  | .cur n => decide (n < 25)
  | .volt v => decide (v < 13)

/-- A list with no entry twice. -/
def noTwice {α : Type} [DecidableEq α] : List α → Bool
  | [] => true
  | x :: xs => !decide (x ∈ xs) && noTwice xs

/-- R178: the structural tests that apply at writing in any state (R54, R109, enumerated values). DESIGN CHOICE (log 60): a
curve number, a trip slot and a direct trip line number count as enumerated values, refused outside 0 to 7, 0 to 24 and 0 to 3;
how many slots a trip list holds is left to the element checks, which pass over a row that is not enabled. -/
def rowStructure : RowData → Bool
  | .site r =>
    match r.fNom with
    | some f => decide (f = 50 ∨ f = 60)
    | none => true
  | .manager _ | .sub _ | .gen _ | .par _ => true
  | .chan r => pointInList r.point
  | .breaker r =>
    (match r.vref with
     | some v => decide (v < 13)
     | none => true) &&
    (match r.line with
     | some l => decide (l < 4)
     | none => true) && decide (r.busSide ≠ .gbus)
  | .curve r => decide (r.points.length ≠ 1) && decide (r.points.length ≤ 24)
  | .element r => pointInList r.point && decide (r.curve < 8) && r.trip.all fun n => decide (n < 25)
  | .scheme r => noTwice r.alternates

/-! ## Element checks (R57) -/

/-- A kind that measures a current point. -/
def currentKind : ElemKind → Bool
  | .toc | .ioc | .rp => true
  | .uv | .ov | .uf | .ovf => false

/-- A TOC or IOC element. -/
def overcurrentKind : ElemKind → Bool
  | .toc | .ioc => true
  | .uv | .ov | .uf | .ovf | .rp => false

/-- R57: the point is of the kind's type. -/
def pointOfKind (r : ElementRow) : Bool :=
  match r.point with
  | .cur _ => currentKind r.kind
  | .volt _ => !currentKind r.kind

/-- R57: the breaker of a current point is present and names a voltage reference. -/
def hasReference (t : Tables) (p : PointId) : Bool :=
  match p with
  | .cur n => (t.breakers.getD n {}).present && (t.breakers.getD n {}).vref.isSome
  | .volt _ => false

/-- R57: the structural checks of an enabled element row. -/
def elementOk (t : Tables) (r : ElementRow) : Bool :=
  pointOfKind r && (overcurrentKind r.kind || decide (r.scope = .phases)) &&
    (overcurrentKind r.kind || decide (r.direction = .none)) &&
    (!((overcurrentKind r.kind && decide (r.direction ≠ .none)) || decide (r.kind = .rp)) ||
      hasReference t r.point) &&
    (decide (r.kind ≠ .toc) || !(t.curves.getD r.curve {}).points.isEmpty) &&
    decide (1 ≤ r.trip.length) && decide (r.trip.length ≤ 4) && noTwice r.trip &&
    r.trip.all fun n => (t.breakers.getD n {}).present

/-! ## COMMIT (R182) -/

/-- The first row number of a table that fails a check. -/
def firstBad (n : Nat) (bad : Nat → Bool) : Option Nat := (List.range n).find? bad

/-- R179. -/
def siteBad (r : SiteRow) : Bool :=
  r.fNom.isNone || r.vn.isNone || r.station.isNone || r.noticeDest.isNone || decide (r.livePct ≤ r.deadPct) ||
    decide (r.healthyLo < r.livePct)

/-- R172: a present row names a station already named, or the part's own. -/
def managerBad (t : Tables) (i : Nat) : Bool :=
  let r := t.managers.getD i {}
  r.present && (decide (t.site.station = some r.station) ||
    (List.range i).any fun j => (t.managers.getD j {}).present && decide ((t.managers.getD j {}).station = r.station))

/-- R172: no present row carries OPERATE. -/
def noOperator (t : Tables) : Bool := !t.managers.any fun r => r.present && decide (r.rights = .operate)

/-- R15: an enabled row names a stream an earlier enabled row names. -/
def subBad (t : Tables) (i : Nat) : Bool :=
  let r := t.subs.getD i {}
  r.enabled && (List.range i).any fun j =>
    let x := t.subs.getD j {}
    x.enabled && decide (x.station = r.station) && decide (x.stream = r.stream)

/-- The used Channel Map rows of enabled subscriptions. -/
def liveChans (t : Tables) : List (Nat × ChanRow) :=
  (t.chans.zipIdx.filter fun x => x.1.used && (t.subs.getD (x.2 / 8) {}).enabled).map fun x => (x.2, x.1)

/-- R16: an offending row. -/
def chanBad (t : Tables) (rows : List (Nat × ChanRow)) (x : Nat × ChanRow) : Bool :=
  let r := x.2
  decide ((t.subs.getD (x.1 / 8) {}).count ≤ x.1 % 8) ||
    (match r.point, r.phase with
     | .volt _, .n => true
     | _, _ => false) ||
    (rows.any fun y => decide (y.1 ≠ x.1 ∧ y.2.point = r.point ∧ y.2.phase = r.phase ∧ y.2.role = r.role)) ||
    (decide (r.role = .check) &&
      !rows.any fun y => decide (y.2.point = r.point ∧ y.2.phase = r.phase ∧ y.2.role = .main))

/-- R83. -/
def breakerBad (t : Tables) (i : Nat) : Bool :=
  let r := t.breakers.getD i {}
  r.present && (decide (t.site.station = some r.station) ||
    (r.line.isSome && (List.range i).any fun j =>
      (t.breakers.getD j {}).present && decide ((t.breakers.getD j {}).line = r.line)))

/-- R109: an alternate whose breaker is not present. -/
def schemeBad (t : Tables) (i : Nat) : Bool :=
  let r := t.schemes.getD i {}
  (decide (Alt.tie ∈ r.alternates) && !(t.breakers.getD 2 {}).present) ||
    (decide (Alt.gm ∈ r.alternates) && !(t.breakers.getD (3 + i) {}).present)

/-- R140. -/
def genBad (t : Tables) (i : Nat) : Bool :=
  let r := t.gens.getD i {}
  let b := t.breakers.getD (5 + i) {}
  r.present && ((List.range i).any (fun j => (t.gens.getD j {}).present && decide ((t.gens.getD j {}).priority = r.priority)) ||
    decide (t.site.station = some r.station) || !b.present || b.vref.isNone)

/-- M16 values strictly ascending. -/
def ascending : List (Nat × Nat) → Bool
  | [] => true
  | [_] => true
  | x :: y :: rest => decide (x.1 < y.1) && ascending (y :: rest)

/-- R55. -/
def curveBad (r : CurveRow) : Bool :=
  match r.points with
  | [] => false
  | p :: rest => rest.isEmpty || decide (p.1 ≠ 16) || !ascending (p :: rest)

/-- R58. -/
def elementBad (t : Tables) (l : List ElementRow) (i : Nat) : Bool := (l.getD i {}).enabled && !elementOk t (l.getD i {})

/-- R182: the first check that fails names its table and row. DESIGN CHOICE (log 97): the rows of MANAGERS are checked before
the want of an OPERATE row. -/
def commitCheck (t : Tables) : Option (TableId × Nat) :=
  if siteBad t.site then some (.site, 0)
  else
    match firstBad 4 (managerBad t) with
    | some i => some (.managers, i)
    | none =>
      if noOperator t then some (.managers, 0)
      else
        match firstBad 48 (subBad t) with
        | some i => some (.subscriptions, i)
        | none =>
          match (liveChans t).find? (chanBad t (liveChans t)) with
          | some x => some (.channels, x.1)
          | none =>
            match firstBad 25 (breakerBad t) with
            | some i => some (.breakers, i)
            | none =>
              match firstBad 2 (schemeBad t) with
              | some i => some (.schemes, i)
              | none =>
                match firstBad 8 (genBad t) with
                | some i => some (.generators, i)
                | none =>
                  match firstBad 8 (fun i => curveBad (t.curves.getD i {})) with
                  | some i => some (.curves, i)
                  | none =>
                    match firstBad 64 (elementBad t t.elemsA) with
                    | some i => some (.elementsA, i)
                    | none => (firstBad 64 (elementBad t t.elemsB)).map fun i => (.elementsB, i)

/-! ## Rows of the tables (R177, R178) -/

/-- Table codes. -/
def tableOfCode (n : Nat) : Option TableId :=
  match n with
  | 1 => some .site
  | 2 => some .managers
  | 3 => some .subscriptions
  | 4 => some .channels
  | 5 => some .breakers
  | 6 => some .curves
  | 7 => some .elementsA
  | 8 => some .elementsB
  | 9 => some .schemes
  | 10 => some .generators
  | _ => none

/-- Number of rows of a table. -/
def rowCount : TableId → Nat
  | .site => 1
  | .managers => 4
  | .subscriptions => 48
  | .channels => 384
  | .breakers => 25
  | .curves => 8
  | .elementsA => 64
  | .elementsB => 64
  | .schemes => 2
  | .generators => 9

/-- A table and row within the numbering. -/
def tableRow (table row : Nat) : Option TableId :=
  match tableOfCode table with
  | some t => if row < rowCount t then some t else none
  | none => none

/-- The data of a write is a row of the table named. -/
def rowFits (t : TableId) (row : Nat) (d : RowData) : Bool :=
  match t, d with
  | .site, .site r => decide (r.noticeOn.length = 8)
  | .managers, .manager _ => true
  | .subscriptions, .sub _ => true
  | .channels, .chan _ => true
  | .breakers, .breaker _ => true
  | .curves, .curve _ => true
  | .elementsA, .element _ => true
  | .elementsB, .element _ => true
  | .schemes, .scheme _ => true
  | .generators, .gen _ => decide (row < 8)
  | .generators, .par _ => decide (row = 8)
  | _, _ => false

/-- A table row replaced. -/
def putRow (t : TableId) (row : Nat) (d : RowData) (x : Tables) : Tables :=
  match t, d with
  | .site, .site r => { x with site := r }
  | .managers, .manager r => { x with managers := modAt x.managers row fun _ => r }
  | .subscriptions, .sub r => { x with subs := modAt x.subs row fun _ => r }
  | .channels, .chan r => { x with chans := modAt x.chans row fun _ => r }
  | .breakers, .breaker r => { x with breakers := modAt x.breakers row fun _ => r }
  | .curves, .curve r => { x with curves := modAt x.curves row fun _ => r }
  | .elementsA, .element r => { x with elemsA := modAt x.elemsA row fun _ => r }
  | .elementsB, .element r => { x with elemsB := modAt x.elemsB row fun _ => r }
  | .schemes, .scheme r => { x with schemes := modAt x.schemes row fun _ => r }
  | .generators, .gen r => { x with gens := modAt x.gens row fun _ => r }
  | .generators, .par r => { x with par := r }
  | _, _ => x

/-- R56, R82, R178: the edit set after a write; while its f_nom is unset, no value in updates is set. DESIGN CHOICE (log 84):
a value lost with f_nom stays unset when f_nom is written again, until its own row is written or a COMMIT converts it. -/
def editRow (t : TableId) (row : Nat) (d : RowData) (x : Tables) : Tables :=
  let y := putRow t row d x
  if t = .site ∧ y.site.fNom = none then convertTables y else y

/-- A table row. -/
def getRow (t : TableId) (row : Nat) (x : Tables) : RowData :=
  match t with
  | .site => .site x.site
  | .managers => .manager (x.managers.getD row {})
  | .subscriptions => .sub (x.subs.getD row {})
  | .channels => .chan (x.chans.getD row {})
  | .breakers => .breaker (x.breakers.getD row {})
  | .curves => .curve (x.curves.getD row {})
  | .elementsA => .element (x.elemsA.getD row {})
  | .elementsB => .element (x.elemsB.getD row {})
  | .schemes => .scheme (x.schemes.getD row {})
  | .generators => if row = 8 then .par x.par else .gen (x.gens.getD row {})

/-! ## Request arguments (R174 tests 2 and 5, R176) -/

/-- Request kinds. -/
inductive Kind
  | readStatus | readPoint | readBreaker | readElement | readGenerator | readRow | writeRow | enterConfig | commit
  | discard | selectGroup | setMode | operate | resetLockout | clear | inhibitTransfer | park | resume | abort
  | retransferNow | readRecord | discardRecord | restart
  deriving DecidableEq, Repr

/-- R176: request kind codes 0x01 to 0x17. -/
def kindCodeOf : Kind → Nat
  | .readStatus => 1
  | .readPoint => 2
  | .readBreaker => 3
  | .readElement => 4
  | .readGenerator => 5
  | .readRow => 6
  | .writeRow => 7
  | .enterConfig => 8
  | .commit => 9
  | .discard => 10
  | .selectGroup => 11
  | .setMode => 12
  | .operate => 13
  | .resetLockout => 14
  | .clear => 15
  | .inhibitTransfer => 16
  | .park => 17
  | .resume => 18
  | .abort => 19
  | .retransferNow => 20
  | .readRecord => 21
  | .discardRecord => 22
  | .restart => 23

/-- R176: the right of a kind. -/
def rightOf : Kind → Rights
  | .readStatus | .readPoint | .readBreaker | .readElement | .readGenerator | .readRow | .readRecord => .view
  | .writeRow | .enterConfig | .commit | .discard | .selectGroup | .discardRecord => .setting
  | .setMode | .operate | .resetLockout | .clear | .inhibitTransfer | .park | .resume | .abort | .retransferNow
  | .restart => .operate

/-- R176: the part states in which a kind is taken. -/
structure TakenIn where
  unconfigured : Bool
  config : Bool
  configTables : Bool
  service : Bool
  deriving DecidableEq, Repr

/-- R176, the column "Taken in": `config` is CONFIG however entered, `configTables` CONFIG entered from SERVICE. -/
def takenIn : Kind → TakenIn
  | .readStatus | .enterConfig | .resetLockout | .clear | .readRecord | .discardRecord | .restart =>
    ⟨true, true, true, true⟩
  | .readPoint | .readBreaker | .readElement | .readGenerator | .operate => ⟨false, false, true, true⟩
  | .readRow | .writeRow | .inhibitTransfer | .park => ⟨false, true, true, true⟩
  | .commit => ⟨false, true, true, false⟩
  | .discard => ⟨false, false, true, false⟩
  | .selectGroup | .setMode | .resume | .abort | .retransferNow => ⟨false, false, false, true⟩

/-- R174 test 4. -/
def takenNow (k : Kind) (p : PartState) : Bool :=
  match p with
  | .loading => false
  | .unconfigured => (takenIn k).unconfigured
  | .config fromService => if fromService then (takenIn k).configTables else (takenIn k).config
  | .service _ => (takenIn k).service

/-- R172: OPERATE includes SET, SET includes VIEW. -/
def includesRight (have_ need : Rights) : Bool :=
  match have_, need with
  | .operate, _ => true
  | .setting, .operate => false
  | .setting, _ => true
  | .view, .view => true
  | .view, _ => false

/-- R174 test 2: the arguments have the length and the enumerated values the kind requires. -/
def argsShape (k : Kind) (a : Args) : Bool :=
  match k, a with
  | .readStatus, .absent | .enterConfig, .absent | .commit, .absent | .discard, .absent | .readRecord, .absent
  | .restart, .absent => true
  | .readPoint, .point _ => true
  | .readBreaker, .slot _ => true
  | .readElement, .element _ _ => true
  | .readGenerator, .generator _ => true
  | .readRow, .row _ _ => true
  | .writeRow, .write table row d _ =>
    match tableRow table row with
    | some t => rowFits t row d
    | none => true
  | .selectGroup, .group g => g.isSome
  | .setMode, .mode m => m.isSome
  | .operate, .operate _ op => op.isSome
  | .resetLockout, .lockSlot _ => true
  | .resetLockout, .lockBus _ => true
  | .clear, .clear t d g r => t || d || g || r
  | .inhibitTransfer, .duration _ => true
  | .park, .sequencer _ | .resume, .sequencer _ | .abort, .sequencer _ | .retransferNow, .sequencer _ => true
  | .discardRecord, .recordNo _ => true
  | _, _ => false

/-- R174 test 5: each object the arguments name lies within the numbering of its kind. -/
def argsNumbered : Args → Bool
  | .point p => pointInList p
  | .slot n => decide (n < 25)
  | .element g row => g.isSome && decide (row < 64)
  | .generator k => decide (k ≤ 8)
  | .row table row => (tableRow table row).isSome
  | .write table row _ _ => (tableRow table row).isSome
  | .operate n _ => decide (n < 25)
  | .lockSlot n => decide (n < 25)
  | .lockBus b => b.isSome
  | .sequencer q => decide (q = 1 ∨ q = 2)
  | .absent | .group _ | .mode _ | .clear _ _ _ _ | .duration _ | .recordNo _ | .malformed => true

end Sys2Proof.Machine
end

