-- ==== Sys2Proof/Machine/Link.lean ====
section
/-!
DEFINITION. The Link Unit (chapter 1): ports and egress queues, the forwarding decision, the station number, the
duplicate filter, the frames the part originates, and the Link Unit's own commands.
-/

namespace Sys2Proof.Machine

/-! ## Ports and queues -/

/-- The state of a port. -/
def portOf (l : Link) : Port → PortState
  | .p1 => l.p1
  | .p2 => l.p2

/-- A port's state replaced by `f` of it. -/
def modPort (l : Link) (p : Port) (f : PortState → PortState) : Link :=
  match p with
  | .p1 => { l with p1 := f l.p1 }
  | .p2 => { l with p2 := f l.p2 }

/-- The port a frame was not received on. -/
def oppositePort : Port → Port
  | .p1 => .p2
  | .p2 => .p1

/-- The frames of an egress queue. -/
def queueOf (ps : PortState) : Egress → List QFrame
  | .urgent => ps.urgent
  | .stream => ps.stream
  | .bulk => ps.bulk

/-- An egress queue replaced. -/
def setQueue (ps : PortState) (q : Egress) (l : List QFrame) : PortState :=
  match q with
  | .urgent => { ps with urgent := l }
  | .stream => { ps with stream := l }
  | .bulk => { ps with bulk := l }

/-- R8: capacities in frames. -/
def capacity : Egress → Nat
  | .urgent => 8
  | .stream => 32
  | .bulk => 16

/-- R9: a port that is UP and not sending takes the head of URGENT, else of STREAM, else of BULK. -/
def takeNext (ps : PortState) : PortState :=
  match ps.up, ps.tx with
  | true, none =>
    match ps.urgent, ps.stream, ps.bulk with
    | f :: rest, _, _ => { ps with urgent := rest, tx := some f }
    | [], f :: rest, _ => { ps with stream := rest, tx := some f }
    | [], [], f :: rest => { ps with bulk := rest, tx := some f }
    | [], [], [] => ps
  | _, _ => ps

/-- R1, R8: a frame directed to a port that is DOWN, or to a full queue, is dropped; otherwise it joins the tail. -/
def joinQueue (q : Egress) (f : QFrame) (ps : PortState) : PortState :=
  if ps.up ∧ (queueOf ps q).length < capacity q then
    takeNext (setQueue ps q (queueOf ps q ++ [f]))
  else ps

/-- A frame is directed to a port's queue; nothing leaves in BYPASS (R12). -/
def enqueue (p : Port) (q : Egress) (f : QFrame) (s : State) : State :=
  if s.link.running then s.modLink fun l => modPort l p (joinQueue q f) else s

/-- R8: the queue of a forwarded well-formed frame. -/
def forwardQueue : FrameKind → Egress
  | .sample | .position | .genstat => .stream
  | .order | .gencmd | .manage | .answer | .notice => .bulk

/-- R8: the queue of an originated frame. -/
def ownQueue : OwnPayload → Egress
  | .order .. => .urgent
  | .gencmd .. => .stream
  | .answer .. | .notice .. => .bulk

/-- R4, R10: a block originates a frame; one copy is placed on each port, with the station number in force as
source. Without a station number there is no frame to build, which no block meets (R6, R12). -/
def originate (dest : Nat) (payload : OwnPayload) (s : State) : State :=
  match s.link.station with
  | none => s
  | some n =>
    enqueue .p2 (ownQueue payload) (.own ⟨dest, n, payload⟩)
      (enqueue .p1 (ownQueue payload) (.own ⟨dest, n, payload⟩) s)

/-! ## Station number (R4) -/

/-- The commissioning number. -/
def commissioningNumber : Nat := 65534

/-- R4: the number is set; a different former number is retired at this wall time. -/
def setStation (n : Nat) (s : State) : State :=
  s.modLink fun l =>
    match l.station with
    | some old => if old = n then l else { l with station := some n, retired := some (old, s.now) }
    | none => { l with station := some n }

/-- R4: the retired number counts until 1,000 ms after its retirement. -/
def retiredNumber (s : State) : Option Nat :=
  match s.link.retired with
  | some (n, t) => if s.now < t + ms 1000 then some n else none
  | none => none

/-! ## The forwarding decision (R5) -/

/-- What R5 makes of a frame: forwarded to the opposite port, and offered for inward copy. -/
structure Decision where
  forwarded : Bool
  offered : Bool
  deriving DecidableEq, Repr

/-- R5, by the first row that applies. -/
def forwarding (s : State) (h : Header) : Decision :=
  match s.link.station with
  | none => ⟨true, false⟩
  | some own =>
    if h.src = own ∨ retiredNumber s = some h.src then ⟨false, false⟩
    else if h.dest = own then ⟨false, true⟩
    else if h.dest = 65535 then ⟨true, true⟩
    else ⟨true, false⟩

/-- Whether a port receives frames: RUNNING and the port UP (R1, R12). -/
def receiving (s : State) (p : Port) : Bool := s.link.running && (portOf s.link p).up

/-- R5: the frame is forwarded where the decision says so. -/
def forwardVendor (p : Port) (f : EthFrame) (h : Header) (s : State) : State :=
  if (forwarding s h).forwarded then enqueue (oppositePort p) (forwardQueue h.kind) (.fwd f) s else s

/-- R6: no inward copy in LOADING; otherwise when R5 offers the frame. -/
def offeredInward (s : State) (h : Header) : Bool :=
  (forwarding s h).offered && !decide (s.mgmt.part = .loading)

/-! ## Duplicate filter (R7) -/

/-- Entries younger than 500 ms. -/
def purgeDup (now : Nat) (l : List DupEntry) : List DupEntry := l.filter fun e => decide (now < e.arrival + ms 500)

/-- R7: the frame's source and tag are in the filter. -/
def isDuplicate (s : State) (src tag : Nat) : Bool :=
  (purgeDup s.now s.link.dup).any fun e => decide (e.src = src ∧ e.tag = tag)

/-- R7: a new entry; with 8 entries held the oldest is removed. -/
def addDup (src tag : Nat) (s : State) : State :=
  s.modLink fun l =>
    let kept := purgeDup s.now l.dup
    { l with dup := (if kept.length < 8 then kept else kept.drop 1) ++ [⟨src, tag, s.now⟩] }

/-! ## Commands of the Link Unit -/

/-- PORT_LINK_UP (R1): the port goes to UP with empty queues; DOWN throughout BYPASS. -/
def execPortLinkUp (p : Port) (s : State) : Host.Outcome State Fault Refusal :=
  .next (if s.link.running ∧ (portOf s.link p).up = false then s.modLink fun l => modPort l p fun _ => { up := true }
    else s)

/-- PORT_LINK_DOWN (R1): the frame in transmission is abandoned and the three queues are emptied. -/
def execPortLinkDown (p : Port) (s : State) : Host.Outcome State Fault Refusal :=
  .next (s.modLink fun l => modPort l p fun _ => {})

/-- BAD_FRAME (R2): dropped at the port, neither forwarded nor copied. -/
def execBadFrame (_p : Port) (_f : EthFrame) (s : State) : Host.Outcome State Fault Refusal := .next s

/-- FOREIGN_FRAME (R2, R3): forwarded unchanged to the opposite port's BULK queue. -/
def execForeignFrame (p : Port) (f : EthFrame) (s : State) : Host.Outcome State Fault Refusal :=
  .next (if receiving s p ∧ frameClass f = .foreign then enqueue (oppositePort p) .bulk (.fwd f) s else s)

/-- FORWARDED_FRAME (R5, R6): an ORDER, GENCMD, ANSWER or NOTICE frame is forwarded, consumed or discarded. -/
def execForwardedFrame (p : Port) (f : EthFrame) (s : State) : Host.Outcome State Fault Refusal :=
  .next (match receiving s p, frameClass f with
    | true, .vendor h =>
      if h.kind = .order ∨ h.kind = .gencmd ∨ h.kind = .answer ∨ h.kind = .notice then forwardVendor p f h s else s
    | _, _ => s)

/-- FRAME_TRANSMIT_END (R9): the port takes its next frame. -/
def execFrameTransmitEnd (p : Port) (s : State) : Host.Outcome State Fault Refusal :=
  .next (s.modLink fun l => modPort l p fun ps => takeNext { ps with tx := none })

/-- RETIRED_NUMBER_EXPIRY (R4). -/
def execRetiredNumberExpiry (s : State) : Host.Outcome State Fault Refusal :=
  .next (match s.link.retired with
    | some (_, t) => if t + ms 1000 ≤ s.now then s.modLink fun l => { l with retired := none } else s
    | none => s)

/-- DUPLICATE_FILTER_EXPIRY (R7): entries that are 500 ms old are removed. -/
def execDuplicateFilterExpiry (s : State) : Host.Outcome State Fault Refusal :=
  .next (s.modLink fun l => { l with dup := purgeDup s.now l.dup })

end Sys2Proof.Machine
end

