-- ==== Sys2Proof/Machine/Flags.lean ====
section
/-!
DEFINITION. The notice conditions (chapter 8.5): which classes are pending, the snapshot of each class (R170), and
NOTICE_SEND (R169). The other blocks report a change of a condition with `note`.
-/

namespace Sys2Proof.Machine

/-- R168: the Site Record in force enables the class. -/
def noticeEnabled (s : State) (c : NoticeClass) : Bool := s.site.noticeOn.getD (noticeCode c - 1) true

/-- R168, R171: a change of a class's condition is reported. -/
def note (c : NoticeClass) (s : State) : State :=
  if s.siteInForce ∧ noticeEnabled s c ∧ c ∉ s.records.pendingNotices then
    s.modRecords fun r => { r with pendingNotices := r.pendingNotices ++ [c] }
  else s

/-- The classes in priority order, highest first. -/
def noticeOrder : List NoticeClass :=
  [.protection, .breakerFailure, .lockout, .position, .sequencer, .generator, .stream, .record]

/-- R169: the highest-priority class in the pending set. -/
def highestNotice (s : State) : Option NoticeClass :=
  noticeOrder.find? fun c => decide (c ∈ s.records.pendingNotices)

/-- R169: a NOTICE is due. -/
def noticeDue (s : State) : Bool :=
  !s.records.pendingNotices.isEmpty &&
    (match s.records.lastSend with
     | none => true
     | some t => decide (t + ms 10 ≤ s.now))

/-- Remaining time of a running timer in whole seconds, a begun second counted as one (log 18). -/
def secondsLeft (s : State) (t : Option Nat) : Option Nat := (remaining s t).map fun r => ceilDiv r 1000000

/-- Latched targets of one group in ascending order of row. -/
def latchedIn (l : List (Option Target)) (g : Group) : List (Group × Nat × Target) :=
  (List.range 64).filterMap fun i =>
    match l.getD i none with
    | some t => some (g, i, t)
    | none => none

/-- R170: latched targets of both groups, in ascending order of row. DESIGN CHOICE (log 91): of two targets of one row, that of
group A comes first. -/
def latchedTargets (s : State) : List (Group × Nat × Target) :=
  (List.range 64).flatMap fun i =>
    (match s.prot.targetsA.getD i none with
     | some t => [(Group.a, i, t)]
     | none => []) ++
    (match s.prot.targetsB.getD i none with
     | some t => [(Group.b, i, t)]
     | none => [])

/-- Row indices whose operated indication is asserted, with the group of each. -/
def operatedRows (s : State) : List (Nat × Group) :=
  (List.range 64).filterMap fun i => (s.prot.operated.getD i none).map fun g => (i, g)

/-- Stream states of the enabled subscriptions. -/
def enabledStreams (s : State) : List (Nat × StreamState) :=
  (List.range 48).filterMap fun r =>
    if (s.tbl.subs.getD r {}).enabled then some (r, (s.intake.streams.getD r {}).state) else none

/-- Number of OPEN records. -/
def openRecords (s : State) : Nat := (s.records.queue.filter fun r => !r.complete).length

/-- Number of COMPLETE records. -/
def completeRecords (s : State) : Nat := (s.records.queue.filter fun r => r.complete).length

/-- The oldest COMPLETE record (R167). -/
def oldestComplete (s : State) : Option Record := s.records.queue.find? fun r => r.complete

/-- A sequencer in the SEQUENCER snapshot. -/
def seqSnap (s : State) (q : SeqId) : SeqSnap :=
  let x := s.seq q
  ⟨q, x.state, x.pendingPark, x.alt, x.retReady⟩

/-- A present slot in the POSITION snapshot. -/
def posView (s : State) (n : Nat) : PosView :=
  let a := s.slot n
  { slot := n, position := s.pos n, localCtl := a.localCtl, ready := a.ready
    order := a.order.map fun o => (o.type, o.tag, o.phase)
    lastResult := a.lastResult.map fun r => (r.type, r.tag, r.result) }

/-- The slot of each channel in use and whether the channel has fired, in ascending order of slot (R170). -/
def channelStates (s : State) : List (Nat × Bool) :=
  allSlots.flatMap fun n => s.par.channels.filterMap fun c =>
    match c with
    | some ch => if ch.slot = n then some (n, ch.fired) else none
    | none => none

/-- R170: the snapshot of a class from the state as it stands. -/
def snapshot (s : State) : NoticeClass → Snapshot
  | .protection =>
    .protection s.prot.active s.prot.pendingGroup (operatedRows s)
      ((latchedTargets s).map fun (g, i, t) => (g, i, t.operIdx))
  | .breakerFailure =>
    .breakerFailure (allSlots.filterMap fun n =>
      if (s.slot n).bf = .idle then none else some (n, (s.slot n).bf, (s.slot n).bfTimer))
  | .lockout =>
    .lockout
      (allSlots.filterMap fun n =>
        if (s.slot n).lock.isSet then some (n, (s.slot n).lock.setters.length) else none)
      ([Bus.bus1, .bus2, .gbus].filterMap fun b =>
        if (s.busLock b).isSet then some (b, (s.busLock b).setters.length) else none)
  | .position => .position ((allSlots.filter fun n => (s.brk n).present).map (posView s))
  | .sequencer =>
    .sequencer s.mgmt.part s.mgmt.mode [seqSnap s .seq1, seqSnap s .seq2] s.seqs.claim
      (if s.inhibitActive then (secondsLeft s s.seqs.inhibit).getD 0 else 0)
  | .generator =>
    .generator s.par.demand (secondsLeft s s.par.stopTimer) s.par.stopPending (s.par.grant.map fun g => g.gen)
      s.par.freeCap (s.par.unload.map fun u => u.owner)
      ((allGens.filter fun k => (s.genRow k).present).map fun k => (k, (s.gen k).state, (s.gen k).bias))
      (channelStates s)
  | .stream => .stream s.intake.k.isSome (enabledStreams s)
  | .record =>
    .record (openRecords s) (completeRecords s) ((oldestComplete s).map fun r => r.number) s.records.lastEvent

/-- R169: one NOTICE of the highest-priority pending class. -/
def sendNotice (s : State) : State :=
  match noticeDue s, highestNotice s with
  | true, some c =>
    originate (s.site.noticeDest.getD 65535) (.notice c (snapshot s c))
      (s.modRecords fun r =>
        { r with pendingNotices := r.pendingNotices.filter (fun x => decide (x ≠ c)), lastSend := some s.now })
  | _, _ => s

/-- NOTICE_SEND (R169); nothing is sent in LOADING or UNCONFIGURED (R171). -/
def execNoticeSend (s : State) : Host.Outcome State Fault Refusal :=
  .next (if s.siteInForce then sendNotice s else s)

end Sys2Proof.Machine
end

