-- ==== Sys2Proof/Machine/Records.lean ====
section
/-!
DEFINITION. The Disturbance Record Queue (chapter 8.1 to 8.4, R171): triggers, breaker entries, completion, reading
and removal.
-/

namespace Sys2Proof.Machine

/-- A change of the RECORD condition, with the event it carries (R163, R166, R167). -/
def recordEvent (number : Nat) (ev : RecEvent) (s : State) : State :=
  note .record (s.modRecords fun r => { r with lastEvent := some (number, ev) })

/-- The larger value of each phase. -/
def maxFour (x y : Four Nat) : Four Nat := ⟨max x.a y.a, max x.b y.b, max x.c y.c, max x.n y.n⟩

/-- The union of two sets of phases. -/
def orFour (x y : Four Bool) : Four Bool := ⟨x.a || y.a, x.b || y.b, x.c || y.c, x.n || y.n⟩

/-- R162: the peak of a phase that is not involved is 0. -/
def involvedPeaks (phases : Four Bool) (peaks : Four Nat) : Four Nat :=
  let keep := fun (b : Bool) (n : Nat) => if b then n else 0
  ⟨keep phases.a peaks.a, keep phases.b peaks.b, keep phases.c peaks.c, keep phases.n peaks.n⟩

/-- R164: phases and peaks join a record, the larger value of each phase; a phase the record does not hold as involved
keeps no peak (R162; log 70). -/
def addPeaks (phases : Four Bool) (peaks : Four Nat) (r : Record) : Record :=
  let all := orFour r.phases phases
  { r with phases := all, peaks := involvedPeaks all (maxFour r.peaks peaks) }

/-! ## Completion (R166) -/

/-- The slots in a record's breaker list and those it has entered. -/
def slotsOf (r : Record) : List Nat := (r.brks.map fun b => b.slot) ++ r.entered

/-- R166, the three conditions. -/
def readyToComplete (s : State) (r : Record) : Bool :=
  r.awaited.isEmpty &&
    (slotsOf r).all fun n =>
      match s.records.bfView.getD n .idle with
      | .idle => true
      | .timing => false
      | .operated => r.bfPart.any fun e => decide (e.slot = n)

/-- R162: the outcomes that carry a completion index. -/
def carriesIndex : EntryOutcome → Bool
  | .done | .noChange => true
  | .pending | .fail | .withdrawn | .blocked | .abandoned => false

/-- A breaker entry that lets the clearance index be set (R166). -/
def cleared (b : BrkEntry) : Bool := carriesIndex b.outcome

/-- R166: the largest completion index when every entry is DONE or NO_CHANGE and nothing was truncated. DESIGN CHOICE
(log 81): absent in a record without a breaker entry. -/
def clearanceOf (r : Record) : Option Nat :=
  if r.brks.all cleared ∧ r.truncated = false then (r.brks.filterMap fun b => b.completion).max? else none

/-- A record becomes COMPLETE. -/
def completeRecord (r : Record) : Record := { r with complete := true, clearance := clearanceOf r }

/-- R166: every OPEN record whose conditions hold becomes COMPLETE. -/
def testRecords (s : State) : State :=
  let ready := fun r : Record => !r.complete && readyToComplete s r
  match (s.records.queue.filter ready).getLast? with
  | none => s
  | some last =>
    recordEvent last.number .completed
      (s.modRecords fun x => { x with queue := x.queue.map fun r => if ready r then completeRecord r else r })

/-! ## Breaker entries (R165) -/

/-- R162: an entry joins the breaker list, or is left out with the truncated flag when it holds eight. -/
def addBreaker (b : BrkEntry) (r : Record) : Record :=
  if r.brks.length < 8 then { r with brks := r.brks ++ [b] } else { r with truncated := true }

/-- R165: an awaited slot. -/
def awaitSlot (n : Nat) (tag : Option Nat) (r : Record) : Record := { r with awaited := r.awaited ++ [(n, tag)] }

/-- R162: the six outcomes of a breaker entry whose slot is not awaited, numbered for the free value of a last result
R165 does not list (log 5). -/
def freeOutcome (n : Nat) : EntryOutcome :=
  match n % 6 with
  | 1 => .done
  | 2 => .noChange
  | 3 => .fail
  | 4 => .withdrawn
  | 5 => .blocked
  | _ => .abandoned

/-- R165: the outcome taken from a last result. -/
def outcomeOfLast (free : Nat) (t : Told) : EntryOutcome :=
  match t with
  | .done => .done
  | .fail => .fail
  | .withdrawn => .withdrawn
  | .blocked => .blocked
  | _ => freeOutcome (Config.freeNat free)

/-- R165: a slot named by a trigger is entered from the Arbiter's state. DESIGN CHOICE (log 83): in LOOP the position read is
the emulated one. -/
def enterSlot (s : State) (r : Record) (n : Nat) : Record :=
  if r.awaited.any (fun x => decide (x.1 = n)) || r.brks.any (fun b => decide (b.slot = n)) then r
  else
    let r := { r with entered := if n ∈ r.entered then r.entered else r.entered ++ [n] }
    let a := s.slot n
    match a.order with
    | some o =>
      match o.type with
      | .opn => awaitSlot n (some o.tag) (addBreaker ⟨n, some o.tag, .pending, none⟩ r)
      | .close => awaitSlot n none (addBreaker ⟨n, none, .pending, none⟩ r)
    | none =>
      if s.pos n = .opn then addBreaker ⟨n, none, .noChange, some s.intake.count⟩ r
      else
        match a.lastResult with
        | none => addBreaker ⟨n, none, .abandoned, none⟩ r
        | some l =>
          let oc := outcomeOfLast s.free l.result
          addBreaker ⟨n, some l.tag, oc, if carriesIndex oc then some s.intake.count else none⟩ r

/-- A slot whose entry takes a free outcome (log 5). -/
def usesFree (s : State) (n : Nat) : Bool :=
  match (s.slot n).order, (s.slot n).lastResult with
  | none, some l =>
    decide (s.pos n ≠ .opn) &&
      (match l.result with
       | .done | .fail | .withdrawn | .blocked => false
       | _ => true)
  | _, _ => false

/-! ## Triggers (R163, R164) -/

/-- The slots a trigger names. -/
def triggerSlots : Trigger → List Nat
  | .element _ trip _ _ _ => trip
  | .bf e => e.backups
  | .overrun o => [o.slot]

/-- R164: the element joins the element list. -/
def addElement (e : ElemEntry) (r : Record) : Record :=
  if r.elems.any fun x => decide (x.group = e.group ∧ x.row = e.row) then r
  else if r.elems.length < 8 then { r with elems := r.elems ++ [e] }
  else { r with truncated := true }

/-- R164: what a trigger adds to its record, its slots apart. -/
def addTrigger (t : Trigger) (r : Record) : Record :=
  match t with
  | .element e _ phases peaks pickup =>
    let r := addPeaks phases peaks (addElement e r)
    { r with pickupIdx := min r.pickupIdx pickup, operIdx := min r.operIdx e.operIdx
             latest := r.latest ++ [(e.group, e.row)] }
  | .bf e =>
    let r := if r.bfPart.length < 4 then { r with bfPart := r.bfPart ++ [e] } else { r with truncated := true }
    { r with pickupIdx := min r.pickupIdx e.operIdx, operIdx := min r.operIdx e.operIdx }
  | .overrun o =>
    let r := if r.overrun.isNone then { r with overrun := some o } else { r with truncated := true }
    { r with pickupIdx := min r.pickupIdx o.index, operIdx := min r.operIdx o.index }

/-- R164: a trigger adds to its record, and its slots are entered. -/
def mergeTrigger (s : State) (t : Trigger) (r : Record) : Record :=
  (triggerSlots t).foldl (enterSlot s) (addTrigger t r)

/-- R163, R164: a new record for a trigger, before the trigger is added to it. -/
def newRecord (s : State) (t : Trigger) : Record :=
  let (kind, pickup, oper) : TrigKind × Nat × Nat :=
    match t with
    | .element e _ _ _ p => (.element, p, e.operIdx)
    | .bf e => (.bf, e.operIdx, e.operIdx)
    | .overrun o => (.overrun, o.index, o.index)
  { number := s.records.nextNumber, kind := kind, firstTime := s.now, pickupIdx := pickup, operIdx := oper
    seq1 := s.seqs.seq1.state, seq2 := s.seqs.seq2.state, mode := s.mgmt.mode }

/-- R163 case 1: the OPEN records that hold the failed slot of a BF trigger. -/
def holdsSlot (t : Trigger) (r : Record) : Bool :=
  match t with
  | .bf e =>
    !r.complete && (r.awaited.any (fun x => decide (x.1 = e.slot)) || r.brks.any fun b => decide (b.slot = e.slot))
  | _ => false

/-- R163 case 2: the OPEN records created within 1,000 ms. -/
def inWindow (s : State) (r : Record) : Bool := !r.complete && decide (s.now ≤ r.firstTime + ms 1000)

/-- R163: the records a trigger may be merged into, those of case 1 before those of case 2. -/
def mayTake (s : State) (t : Trigger) : Record → Bool :=
  if s.records.queue.any (holdsSlot t) then holdsSlot t else inWindow s

/-- R163: the record a trigger is merged into, the one created last where several qualify. -/
def mergeTarget (s : State) (t : Trigger) : Option Record := (s.records.queue.filter (mayTake s t)).getLast?

/-- The last entry of a list that satisfies `p`, and no other, replaced by `f` of it. -/
def modLast {α : Type} (p : α → Bool) (f : α → α) : List α → List α
  | [] => []
  | x :: rest => if rest.any p then x :: modLast p f rest else if p x then f x :: rest else x :: rest

/-- R73: the element of a new trigger is no longer one whose latest trigger this record took (log 19). -/
def leaveElement (t : Trigger) (r : Record) : Record :=
  match t with
  | .element e _ _ _ _ => { r with latest := r.latest.filter fun x => decide (x ≠ (e.group, e.row)) }
  | .bf _ | .overrun _ => r

/-- R163: the next record number, from 65,535 back to 1. -/
def nextRecordNumber (n : Nat) : Nat := if 65535 ≤ n then 1 else n + 1

/-- R163 case 3: with 16 records held, the head is removed. -/
def makeRoom (s : State) : State :=
  if 16 ≤ s.records.queue.length then
    match s.records.queue with
    | [] => s
    | r :: rest => recordEvent r.number .removedOverflow (s.modRecords fun x => { x with queue := rest })
  else s

/-- R163 to R166: a trigger is taken. -/
def takeTrigger (t : Trigger) (s : State) : State :=
  let s := if (triggerSlots t).any (usesFree s) then s.useFree else s
  match mergeTarget s t with
  | some r =>
    testRecords <| recordEvent r.number .merged <| s.modRecords fun x =>
      { x with queue := modLast (mayTake s t) (mergeTrigger s t) (x.queue.map (leaveElement t)) }
  | none =>
    let r := mergeTrigger s t (newRecord s t)
    let s := makeRoom s
    testRecords <| recordEvent r.number .created <| s.modRecords fun x =>
      { x with queue := x.queue.map (leaveElement t) ++ [r], nextNumber := nextRecordNumber x.nextNumber }

/-! ## Reports from the other blocks -/

/-- R165: the outcome a reported result stands for. -/
def outcomeOfReport (t : Told) : EntryOutcome :=
  match t with
  | .done => .done
  | .noChange => .noChange
  | .fail => .fail
  | .blocked => .blocked
  | _ => .withdrawn

/-- R165: a record awaits the report of slot `n` with `tag`. -/
def awaits (n tag : Nat) (r : Record) : Bool :=
  !r.complete && r.awaited.any fun x => decide (x.1 = n ∧ (x.2 = none ∨ x.2 = some tag))

/-- R165: the Arbiter's report that an open with PROT or BFT has ended. -/
def reportOpenEnd (n tag : Nat) (t : Told) (s : State) : State :=
  let oc := outcomeOfReport t
  let settle := fun b : BrkEntry =>
    if b.slot = n then { b with outcome := oc, completion := if carriesIndex oc then some s.intake.count else b.completion }
    else b
  let take := fun r : Record =>
    if awaits n tag r then
      { r with brks := r.brks.map settle, awaited := r.awaited.filter fun x => decide (x.1 ≠ n) }
    else r
  testRecords (s.modRecords fun x => { x with queue := x.queue.map take })

/-- R166: the Arbiter hands over a change of a slot's BF state. -/
def reportBf (n : Nat) (b : BFState) (s : State) : State :=
  testRecords <| note .breakerFailure <| s.modRecords fun x => { x with bfView := modAt x.bfView n fun _ => b }

/-- R164, R73: an OPEN record that holds an element and took its latest trigger (log 19). -/
def holdsLatest (g : Group) (row : Nat) (r : Record) : Bool :=
  !r.complete && decide ((g, row) ∈ r.latest) && r.elems.any fun e => decide (e.group = g ∧ e.row = row)

/-- R164, R73: the final peaks and phases of an element that leaves OPERATED, against its latest trigger. They are discarded
where its record is COMPLETE or has left the queue. -/
def finalPeaks (g : Group) (row : Nat) (phases : Four Bool) (peaks : Four Nat) (s : State) : State :=
  s.modRecords fun x =>
    { x with queue := x.queue.map fun r => if holdsLatest g row r then addPeaks phases peaks r else r }

/-- R171: a PENDING entry takes an outcome at a reset. -/
def settlePending (oc : EntryOutcome) (b : BrkEntry) : BrkEntry :=
  if b.outcome = .pending then { b with outcome := oc } else b

/-- R171: an OPEN record at a reset: PENDING entries take the outcome, nothing is awaited, no clearance index. -/
def closeRecord (oc : EntryOutcome) (r : Record) : Record :=
  if r.complete then r
  else { r with brks := r.brks.map (settlePending oc), awaited := [], complete := true, clearance := none }

/-- R171: every OPEN record is completed and the BF views become IDLE. -/
def closeRecords (oc : EntryOutcome) (s : State) : State :=
  let done := s.modRecords fun x =>
    { x with queue := x.queue.map (closeRecord oc), bfView := List.replicate 25 .idle }
  match (s.records.queue.filter fun r => !r.complete).getLast? with
  | some r => recordEvent r.number .completed done
  | none => done

/-- R171: the pending set keeps only the classes the Site Record now in force enables. -/
def keepEnabledNotices (s : State) : State :=
  s.modRecords fun x => { x with pendingNotices := x.pendingNotices.filter fun c => noticeEnabled s c }

/-! ## Reading and removal (R167) -/

/-- A record as READ_RECORD returns it. -/
def recordView (r : Record) : RecordView :=
  { number := r.number, complete := r.complete, kind := r.kind, elems := r.elems, brks := r.brks
    phases := r.phases, peaks := r.peaks, pickupIdx := r.pickupIdx, operIdx := r.operIdx
    clearance := r.clearance, bfPart := r.bfPart, overrun := r.overrun, seq1 := r.seq1, seq2 := r.seq2
    mode := r.mode, truncated := r.truncated }

/-- R167: the oldest COMPLETE record, whose number is `n`, leaves the queue. -/
def discardRecord (n : Nat) (s : State) : State :=
  recordEvent n .discarded (s.modRecords fun x => { x with queue := x.queue.eraseP fun r => r.complete })

/-- R167: every COMPLETE record is removed; one event if any was. -/
def clearRecords (s : State) : State :=
  match (s.records.queue.filter fun r => r.complete).getLast? with
  | some r => recordEvent r.number .cleared (s.modRecords fun x => { x with queue := x.queue.filter fun y => !y.complete })
  | none => s

end Sys2Proof.Machine
end

