-- ==== Sys2Proof/Machine/ParCore.lean ====
section
/-!
DEFINITION. What the Order Arbiter asks of the Paralleling Unit (chapters 7.5, 7.7): the dead-bus grant, the sync
channels and the sync queue.
-/

namespace Sys2Proof.Machine

/-- A generator changes state; each change is a change of the GENERATOR condition (R144). -/
def setGenState (k : Nat) (st : GenState) (s : State) : State :=
  if (s.gen k).state = st then s else note .generator (s.modGen k fun g => { g with state := st })

/-- R149, R151: a READY generator enters CLOSING. -/
def readyToClosing (k : Nat) (s : State) : State := if (s.gen k).state = .ready then setGenState k .closing s else s

/-- The generator of a GEN breaker, READY, enters CLOSING when its breaker is assigned a channel (R151). -/
def channelTaken (slot : Nat) (s : State) : State :=
  match genOfSlot slot with
  | some k => readyToClosing k s
  | none => s

/-! ## Channels and queue (R151, R153) -/

/-- The free channel with the lowest number. -/
def freeChannel (s : State) : Option Nat :=
  (List.range 4).find? fun i => (s.par.channels.getD i none).isNone

/-- R151: the channel of a request: MATCHING, hold count 0, start time the arrival time. -/
def channelFor (r : SyncReq) : Channel :=
  { slot := r.slot, ref := r.ref, inc := r.inc, closing := r.closing, start := r.arrival }

/-- A request is assigned to a channel: MATCHING, hold count 0, start time the arrival time (R151). -/
def assignChannel (i : Nat) (r : SyncReq) (s : State) : State :=
  note .generator <| channelTaken r.slot <| s.modPar fun p =>
    { p with channels := modAt p.channels i fun _ => some (channelFor r) }

/-- R153: the oldest queued request takes a freed channel. -/
def refillChannel (i : Nat) (s : State) : State :=
  match s.par.queue with
  | [] => s
  | r :: rest => assignChannel i r (s.modPar fun p => { p with queue := rest })

/-- The channel a breaker occupies. -/
def channelOf (s : State) (slot : Nat) : Option Nat :=
  (List.range 4).find? fun i =>
    match s.par.channels.getD i none with
    | some c => decide (c.slot = slot)
    | none => false

/-- Whether a breaker waits in the sync queue. -/
def isQueued (s : State) (slot : Nat) : Bool := s.par.queue.any fun r => decide (r.slot = slot)

/-- R153: the channel or queue place of a breaker is freed. -/
def dropPlace (slot : Nat) (s : State) : State :=
  match channelOf s slot with
  | some i =>
    refillChannel i <| note .generator <| s.modPar fun p => { p with channels := modAt p.channels i fun _ => none }
  | none =>
    if isQueued s slot then s.modPar fun p => { p with queue := p.queue.filter fun r => decide (r.slot ≠ slot) } else s

/-- R151: incoming and reference points of a sync request are those of side 1 and side 2. -/
def syncReqFor (s : State) (slot : Nat) : SyncReq :=
  ⟨slot, (s.sides slot).2.getD 0, (s.sides slot).1, (s.brk slot).closingTime, s.now⟩

/-- R151: a sync request takes the lowest free channel or joins the tail of the queue. -/
def syncRequest (slot : Nat) (s : State) : State :=
  let s := dropPlace slot s
  match freeChannel s with
  | some i => assignChannel i (syncReqFor s slot) s
  | none => s.modPar fun p => { p with queue := p.queue ++ [syncReqFor s slot] }

/-! ## The dead-bus grant (R148, R149) -/

/-- R149: the answer to the Arbiter's asking for the grant for Gk: the state with the grant taken, or none. DESIGN CHOICE
(log 79, log 80): neither a generator that is not present (R139) nor one in MANUAL (R143) keeps a close of its breaker from
the grant. -/
def askGrant (k : Nat) (r : Requester) (s : State) : Option State :=
  match s.par.grant with
  | some g => if g.gen = k then some (s.modPar fun p => { p with grant := some { g with requester := r } }) else none
  | none =>
    if s.declared 4 = .dead then
      let entered := decide ((s.gen k).state = .ready)
      some (readyToClosing k (note .generator (s.modPar fun p => { p with grant := some ⟨k, r, entered⟩ })))
    else none

/-- R148: the grant is released. -/
def releaseGrant (s : State) : State :=
  if s.par.grant.isNone then s else note .generator (s.modPar fun p => { p with grant := none })

/-- R149: the grant moved its generator to CLOSING as it was taken. -/
def grantEntered (s : State) : Bool := s.par.grant.any fun g => g.entered

/-- R148, R149, R153: the Arbiter tells the unit that a close has ended. Its place is freed, the grant it held is released,
and the generator of another requester's close that held a channel, or the grant as a generator that was READY, is moved by
its outcome (R145). -/
def closeEnded (slot : Nat) (r : Requester) (grantHeld : Bool) (t : Told) (s : State) : State :=
  let held := (grantHeld && grantEntered s) || (channelOf s slot).isSome
  let s := dropPlace slot s
  let s := if grantHeld then releaseGrant s else s
  if held = true ∧ (genOfSlot slot).isSome = true ∧ r ≠ .par then s.post (.closeOutcome slot t) else s

end Sys2Proof.Machine
end

