-- ==== Sys2Proof/Machine/Arbiter.lean ====
section
/-!
DEFINITION. The Order Arbiter (chapter 5, with R188 to R190): requests and orders, withdrawals, breaker failure,
lockouts and their store, direct trip lines, positions, the breaker emulator's moves, and the Arbiter's own commands.
-/

namespace Sys2Proof.Machine

/-- What a requester hears at once: a refusal, NO_CHANGE, or that its request was taken with a tag (chapter 5.3). -/
inductive Reply
  | refused (r : Reason)
  | noChange
  | taken (tag : Nat)
  deriving DecidableEq, Repr

/-! ## Causes and frames (R87, R88) -/

/-- The source of higher rank. -/
def higher (x y : Source) : Source := if rank y < rank x then y else x

/-- R87: the cause of an order is the source of highest rank in its cause set. -/
def causeOf (l : List Source) : Source :=
  match l with
  | [] => .oprC
  | x :: xs => xs.foldl higher x

/-- PROT or BFT. -/
def protective (c : Source) : Bool := c = .prot || c = .bft

/-- R87: a new order takes the tag that follows the last order tag, modulo 256. -/
def nextTag (a : ArbSlot) : Nat :=
  match a.lastTag with
  | none => 0
  | some t => (t + 1) % 256

/-- ORDER code of a type. -/
def codeOf : OrdType → OrderCode
  | .opn => .opn
  | .close => .close

/-- R88, R188, R189: an ORDER frame leaves only in LIVE. -/
def sendFrame (n : Nat) (code : OrderCode) (tag : Nat) (cause : Source) (s : State) : State :=
  if s.mgmt.mode = .live then originate (s.brk n).station (.order n code tag cause) s else s

/-- R88: the frame of the order in service, with the present cause. -/
def sendOrder (n : Nat) (s : State) : State :=
  match (s.slot n).order with
  | some o => sendFrame n (codeOf o.type) o.tag (causeOf o.causes) s
  | none => s

/-! ## The breaker emulator's moves (R189) -/

/-- A slot's emulated state replaced by `f` of it. -/
def modEmu (n : Nat) (f : Emu → Emu) (s : State) : State :=
  s.modMgmt fun m => { m with emu := modAt m.emu n fun e => e.map f }

/-- R189: in LOOP an order that becomes ISSUED sets its slot's pending move. -/
def setMove (n : Nat) (t : OrdType) (s : State) : State :=
  if s.mgmt.mode = .loop then
    modEmu n (fun e => { e with move := some (t, s.now + ms (match t with
      | .opn => (s.brk n).emuOpen
      | .close => (s.brk n).emuClose)) }) s
  else s

/-- R189: an order that leaves service cancels its pending move. -/
def cancelMove (n : Nat) (s : State) : State :=
  if s.mgmt.mode = .loop then modEmu n (fun e => { e with move := none }) s else s

/-! ## Direct trip lines (R106) -/

/-- R106: in LIVE the line the present row names energizes; a line already energized keeps its time. -/
def energizeLine (n : Nat) (s : State) : State :=
  if s.mgmt.mode = .live ∧ (s.brk n).present = true ∧ (s.brk n).line.isSome = true ∧ (s.slot n).lineOn = none then
    s.modSlot n fun a => { a with lineOn := some s.now }
  else s

/-- R106: an open with PROT or BFT in its cause set is in service. -/
def protectiveOpen (a : ArbSlot) : Bool :=
  match a.order with
  | some o => o.type = .opn && o.causes.any protective
  | none => false

/-- R106: the line is to be de-energized: 100 ms have passed and no such open is in service. -/
def lineReleasable (s : State) (n : Nat) : Bool :=
  match (s.slot n).lineOn with
  | some t => decide (t + ms 100 ≤ s.now) && !protectiveOpen (s.slot n)
  | none => false

/-- R106: the line de-energizes once both conditions hold. -/
def releaseLine (n : Nat) (s : State) : State :=
  if lineReleasable s n then s.modSlot n fun a => { a with lineOn := none } else s

/-! ## Withdrawals and orders leaving service (R87, R95, R97) -/

/-- R97: a WITHDRAW is started; it replaces one in progress. -/
def startWithdraw (n tag : Nat) (cause : Source) (s : State) : State :=
  sendFrame n .withdraw tag cause
    (s.modSlot n fun a => { a with withdraw := some ⟨tag, cause, 2, s.now + ms 10⟩ })

/-- R87: the order is gone from its slot, and its result stands there. -/
def removeOrder (n : Nat) (o : Order) (t : Told) (s : State) : State :=
  note .position (cancelMove n (s.modSlot n fun a =>
    { a with order := none, lastResult := some ⟨o.type, o.tag, o.causes, t⟩ }))

/-- R87: every requester of the order is told its result. -/
def tellAll (n : Nat) (o : Order) (t : Told) (s : State) : State :=
  o.requesters.foldl (fun s r => s.post (.told r n o.type (some o.tag) t)) s

/-- R95, R96, R106: what else follows when an order has left service. The Paralleling Unit is told of a close, the Record
and Notice Unit of an open with PROT or BFT. -/
def afterService (n : Nat) (o : Order) (t : Told) (s : State) : State :=
  match o.type with
  | .close => closeEnded n (o.requesters.headD .prot) o.grantHeld t s
  | .opn => if o.causes.any protective then reportOpenEnd n o.tag t (releaseLine n s) else releaseLine n s

/-- R87: the order leaves service with a result, told to every requester. -/
def leaveService (n : Nat) (t : Told) (s : State) : State :=
  match (s.slot n).order with
  | none => s
  | some o => afterService n o t (tellAll n o t (removeOrder n o t s))

/-- R91, R95: a close in service ends without completing; if it was ISSUED a WITHDRAW is started. -/
def endClose (n : Nat) (t : Told) (s : State) : State :=
  match (s.slot n).order with
  | some o =>
    match o.type with
    | .opn => s
    | .close =>
      let s := leaveService n t s
      match o.phase with
      | .issued => startWithdraw n o.tag (causeOf o.causes) s
      | .syncWait => s
  | none => s

/-- R95: a requester withdraws its own close. -/
def withdrawOwn (n : Nat) (r : Requester) (s : State) : State :=
  match (s.slot n).order with
  | some o => if o.type = .close ∧ r ∈ o.requesters then endClose n .withdrawn s else s
  | none => s

/-! ## Breaker failure starts (R100) -/

/-- R100, R188: breaker failure starts on an IDLE slot, but not in BLOCKED. -/
def startBf (n : Nat) (s : State) : State :=
  if s.mgmt.mode ≠ .blocked ∧ (s.slot n).bf = .idle then
    reportBf n .timing (s.modSlot n fun a => { a with bf := .timing, bfTimer := 0 })
  else s

/-- R100, R106: what PROT or BFT brings to an open that held neither. -/
def startProtective (n : Nat) (src : Source) (s : State) : State :=
  if protective src then energizeLine n (startBf n s) else s

/-! ## Opens (R89 to R91) -/

/-- R87, R88: the order becomes ISSUED at this moment and is sent. -/
def issue (n : Nat) (s : State) : State :=
  match (s.slot n).order with
  | none => s
  | some o =>
    sendOrder n <| setMove n o.type <| s.modSlot n fun a =>
      { a with order := some { o with phase := .issued, issueTime := some s.now, nextRepeat := s.now + ms 10 } }

/-- R87: an order goes in service with a new tag. -/
def putOrder (n : Nat) (t : OrdType) (src : Source) (r : Requester) (s : State) : State :=
  note .position <| s.modSlot n fun a =>
    { a with
      lastTag := some (nextTag a)
      order := some { type := t, causes := [src], tag := nextTag a
                      phase := (match t with
                        | .opn => .issued
                        | .close => .syncWait)
                      issueTime := none, requesters := [r] } }

/-- R89: an open goes in service and is sent at once. -/
def putOpen (n : Nat) (src : Source) (r : Requester) (s : State) : State :=
  startProtective n src (issue n (putOrder n .opn src r s))

/-- R90: the open in service gains a source and a requester. DESIGN CHOICE (log 62): a requester that joins again stands
among the requesters once for each of its requests, and is told once for each. -/
def joinOpen (n : Nat) (o : Order) (src : Source) (r : Requester) (s : State) : State :=
  let joined := s.modSlot n fun a =>
    { a with order := some { o with causes := if src ∈ o.causes then o.causes else o.causes ++ [src]
                                    requesters := o.requesters ++ [r] } }
  if o.causes.any protective then joined else startProtective n src joined

/-- R98: the operator window entry holds an accepted request. -/
def setWindow (n : Nat) (src : Source) (s : State) : State :=
  match src with
  | .oprO => s.modSlot n fun a => { a with window := some (.opn, s.now) }
  | .oprC => s.modSlot n fun a => { a with window := some (.close, s.now) }
  | _ => s

/-- R98: an accepted request of the opposite type lies less than 500 ms back. -/
def windowConflict (s : State) (n : Nat) (src : Source) : Bool :=
  match src, (s.slot n).window with
  | .oprO, some (.close, t) => decide (s.now < t + ms 500)
  | .oprC, some (.opn, t) => decide (s.now < t + ms 500)
  | _, _ => false

/-- R98: the earlier request's close, if still in service, leaves with CONFLICT. -/
def endConflictingClose (n : Nat) (s : State) : State :=
  match (s.slot n).order with
  | some o => if o.type = .close ∧ .oprC ∈ o.causes then endClose n .conflict s else s
  | none => s

/-- R89 to R91: an open-type request. -/
def raiseOpen (src : Source) (r : Requester) (n : Nat) (s : State) : State × Reply :=
  if (s.brk n).present = false then (s, .refused .badRow)
  else if (s.slot n).localCtl = true ∧ (src = .schO ∨ src = .oprO) then (s, .refused .loc)
  else if windowConflict s n src then (endConflictingClose n s, .refused .conflict)
  else
    let s := setWindow n src s
    match (s.slot n).order with
    | some o =>
      match o.type with
      | .opn => (joinOpen n o src r s, .taken o.tag)
      | .close =>
        let s := endClose n .preempted s
        (putOpen n src r s, .taken (nextTag (s.slot n)))
    | none =>
      if s.pos n = .opn then (s, .noChange) else (putOpen n src r s, .taken (nextTag (s.slot n)))

/-! ## Closes (R92 to R94) -/

/-- R92: a breaker of the interlock counts as closed. -/
def countsClosed (s : State) (n : Nat) : Bool :=
  s.pos n = .closed || s.pos n = .travel ||
    (match (s.slot n).order with
     | some o => o.type = .close
     | none => false)

/-- The other two breakers of the three-source interlock. -/
def interlockOthers : Nat → List Nat
  | 0 => [1, 2]
  | 1 => [0, 2]
  | 2 => [0, 1]
  | _ => []

/-- R92: the close would leave INC-A, INC-B and TIE all closed, and paralleling is not permitted. -/
def interlockFails (s : State) (n : Nat) : Bool :=
  decide (n < 3) && (interlockOthers n).all (countsClosed s) && !s.site.utilPar

/-- Declared states of the sides that have a voltage point. -/
def sideStates (s : State) (n : Nat) : List VClass :=
  match s.sides n with
  | (x, some y) => [s.declared x, s.declared y]
  | (x, none) => [s.declared x]

/-- A bus lockout is set on a bus that is a side of the breaker. -/
def busLocked (s : State) (n : Nat) : Bool := (s.busSides n).any fun b => (s.busLock b).isSet

/-- R92: the ladder; the reason of the first row that refuses, else whether the breaker is CLOSED already. -/
def closeLadder (s : State) (n : Nat) : Reply :=
  let a := s.slot n
  let row := s.brk n
  if a.order.isSome then .refused .busy
  else if s.inConfig then .refused .wrongState
  else if a.lock.isSet then .refused .lockout
  else if busLocked s n then .refused .busLockout
  else if s.pos n = .faulty ∨ s.pos n = .unknown ∨ s.pos n = .travel then .refused .position
  else if a.localCtl then .refused .loc
  else if s.pos n = .closed then .noChange
  else if interlockFails s n then .refused .parallel
  else if .indeterminate ∈ sideStates s n then .refused .notSettled
  else if (sideStates s n).all (fun c => c = .dead) ∧ row.deadDead = false then .refused .deadDead
  else if 13 ≤ n ∧ isLive (s.declared (s.sides n).1) = false ∧ row.deadDead = false then .refused .deadDead
  else if (n = 3 ∨ n = 4) ∧ isLive (s.declared 4) = false then .refused .deadGbus
  else .taken (nextTag a)

/-- R93: both sides have a voltage point and are live. -/
def bothLive (s : State) (n : Nat) : Bool :=
  match s.sides n with
  | (x, some y) => isLive (s.declared x) && isLive (s.declared y)
  | (_, none) => false

/-- R93: the close in service is marked grant held. -/
def markGrant (n : Nat) (s : State) : State :=
  s.modSlot n fun a => { a with order := a.order.map fun o => { o with grantHeld := true } }

/-- R93: an accepted close goes in service and is routed by its sides. -/
def routeClose (src : Source) (r : Requester) (n : Nat) (s : State) : State × Reply :=
  let tag := nextTag (s.slot n)
  let s := putOrder n .close src r s
  if bothLive s n then (syncRequest n s, .taken tag)
  else
    match genOfSlot n, s.declared 4 with
    | some k, .dead =>
      match askGrant k r s with
      | some s => (issue n (markGrant n s), .taken tag)
      | none =>
        (note .position (s.modSlot n fun a =>
          { a with order := none, lastResult := some ⟨.close, tag, [src], .refused .grant⟩ }), .refused .grant)
    | _, _ => (issue n s, .taken tag)

/-- R92, R93, R98: a close-type request. -/
def raiseClose (src : Source) (r : Requester) (n : Nat) (s : State) : State × Reply :=
  if (s.brk n).present = false then (s, .refused .badRow)
  else if windowConflict s n src then (endConflictingClose n s, .refused .conflict)
  else
    match closeLadder s n with
    | .refused reason => (s, .refused reason)
    | .noChange => (setWindow n src s, .noChange)
    | .taken _ =>
      match routeClose src r n s with
      | (s, .refused reason) => (s, .refused reason)
      | (s, reply) => (setWindow n src s, reply)

/-- A close of the slot is in SYNC_WAIT. -/
def inSyncWait (s : State) (n : Nat) : Bool :=
  match (s.slot n).order with
  | some o => o.type = .close && o.phase = .syncWait
  | none => false

/-- R94: a sync channel fires for the breaker; the interlock is tested again. The close itself counts for its own
breaker only, so it does not fail its own test. -/
def fireClose (n : Nat) (s : State) : State :=
  if inSyncWait s n then
    if interlockFails s n then leaveService n .parallel s else note .position (issue n s)
  else s

/-- R94: a sync timeout for the breaker. -/
def timeoutClose (n : Nat) (s : State) : State :=
  if inSyncWait s n then leaveService n .syncTimeout s else s

/-! ## Completion and positions (R84 to R86, R96) -/

/-- The position an order asks for. -/
def orderedPos : OrdType → Pos
  | .opn => .opn
  | .close => .closed

/-- R96: an ISSUED order whose ordered state the position equals completes. -/
def testCompletion (n : Nat) (s : State) : State :=
  match (s.slot n).order with
  | some o => if o.phase = .issued ∧ s.pos n = orderedPos o.type then leaveService n .done s else s
  | none => s

/-- R85: the table of contact pairs. -/
def posOfContacts (c : Contacts) : Pos :=
  match c.openMade, c.closedMade with
  | true, false => .opn
  | false, true => .closed
  | false, false => .travel
  | true, true => .faulty

/-- R85, R86, R190: the real position changes; outside LOOP it is published. -/
def setRealPos (n : Nat) (p : Pos) (s : State) : State :=
  let old := (s.slot n).position
  if old = p then s
  else
    let s := note .position (s.modSlot n fun a =>
      { a with position := p, travelAt := if p = .travel then some s.now else none })
    if s.mgmt.mode = .loop then s else s.post (.posChanged n old p)

/-- R85: the contact pair of a valid frame. -/
def takeContacts (n : Nat) (c : Contacts) (s : State) : State :=
  let a := s.slot n
  if a.prevPair = some c then
    if a.acceptedPair = some c then s
    else setRealPos n (posOfContacts c) (s.modSlot n fun a => { a with acceptedPair := some c })
  else s.modSlot n fun a => { a with prevPair := some c }

/-- R84: a POSITION payload is valid for its slot. -/
def positionValid (s : State) (src : Nat) (p : PositionPayload) : Bool :=
  (s.brk p.slot).present && decide ((s.brk p.slot).station = src)

/-- R84 steps 1 and 2. -/
def takeFlags (p : PositionPayload) (s : State) : State :=
  let a := s.slot p.slot
  let s' := s.modSlot p.slot fun a => { a with lastFrame := some s.now, localCtl := p.localCtl, ready := p.ready }
  if a.localCtl = p.localCtl ∧ a.ready = p.ready then s' else note .position s'

/-- R84 steps 3 and 4. An order has been sent when it is ISSUED in LIVE (R188, R189). -/
def takeTag (p : PositionPayload) (s : State) : State :=
  s.modSlot p.slot fun a =>
    { a with
      lastTag := (match a.lastTag with
        | none => some p.tag
        | some t => some t)
      order := a.order.map fun o =>
        if o.phase = .issued ∧ s.mgmt.mode = .live ∧ o.tag = p.tag then { o with acked := true } else o }

/-- R84: a valid POSITION frame. Completion by a real position is tested in LIVE only (R188, R190). -/
def takePosition (p : PositionPayload) (s : State) : State :=
  let s := takeContacts p.slot p.contacts (takeTag p (takeFlags p s))
  if s.mgmt.mode = .live then testCompletion p.slot s else s

/-! ## The lockout store (R104) -/

/-- The lockouts in force. -/
def lockoutsInForce (s : State) : LockoutSet :=
  ⟨s.arb.slots.map fun a => a.lock, s.arb.bus1, s.arb.bus2, s.arb.gbus⟩

/-- R104: a change of any lockout is written, or waits for the write in progress. -/
def writeLockouts (s : State) : State :=
  s.modNv fun v =>
    if v.storeWrite.isSome then { v with storeWaiting := true }
    else { v with storeWrite := some (lockoutsInForce s) }

/-- R104: a copy is valid when its CRC-32 matches. -/
def copyValid : StoreCopy → Option (Nat × LockoutSet)
  | .holds g c crc => if crc = crc32 (Config.lockoutBytes g c) then some (g, c) else none
  | .empty => none
  | .damaged => none

/-- R104: the copy a restore takes: generation, contents, and whether it is copy 1. -/
def takenCopy (v : NonVol) : Option (Nat × LockoutSet × Bool) :=
  match copyValid v.copy0, copyValid v.copy1 with
  | some (g, c), none => some (g, c, false)
  | none, some (g, c) => some (g, c, true)
  | some (g, c), some (h, d) => if h < g then some (g, c, false) else some (h, d, true)
  | none, none => none

/-- The lockouts in force replaced by a stored set. -/
def applyLockouts (x : LockoutSet) (s : State) : State :=
  s.modArb fun a =>
    { a with slots := a.slots.mapIdx fun i y => { y with lock := x.slots.getD i {} }
             bus1 := x.bus1, bus2 := x.bus2, gbus := x.gbus }

/-- R104: the lockouts the store gives, and the copy the next write goes to. -/
def readStore (s : State) : State :=
  match takenCopy s.nv with
  | some (g, c, one) =>
    applyLockouts c (s.modNv fun v => { v with storeGen := g, nextCopy := !one, restoreWait := false })
  | none => applyLockouts {} (s.modNv fun v => { v with restoreWait := false })

/-- R104: the lockouts in force are restored from the store; a change they undergo is reported. -/
def restoreNow (s : State) : State :=
  if lockoutsInForce (readStore s) = lockoutsInForce s then readStore s else note .lockout (readStore s)

/-- R104: a restore is made after any write in progress or waiting has ended. -/
def restoreLockouts (s : State) : State :=
  if s.nv.storeWrite.isSome then s.modNv fun v => { v with restoreWait := true } else restoreNow s

/-- R104: a whole copy is written, with the next generation count. The first copy of a store that never held one carries 1,
and the count never wraps (log 93). -/
def storeCopy (content : LockoutSet) (v : NonVol) : NonVol :=
  let g := v.storeGen + 1
  let copy := StoreCopy.holds g content (crc32 (Config.lockoutBytes g content))
  { v with copy0 := if v.nextCopy then v.copy0 else copy
           copy1 := if v.nextCopy then copy else v.copy1
           nextCopy := !v.nextCopy, storeGen := g }

/-- R104: the write in progress ends; a waiting change is written next, and a restore that waits is made. -/
def endStoreWrite (s : State) : State :=
  match s.nv.storeWrite with
  | none => s
  | some content =>
    let s := s.modNv (storeCopy content)
    if s.nv.storeWaiting then
      s.modNv fun v => { v with storeWrite := some (lockoutsInForce s), storeWaiting := false }
    else
      let s := s.modNv fun v => { v with storeWrite := none }
      if s.nv.restoreWait then restoreNow s else s

/-! ## Lockouts (R103, R105) -/

/-- R103: a lockout with one more setter, which is not added twice. -/
def addSetter (x : Setter) (l : Lockout) : Lockout :=
  ⟨true, if x ∈ l.setters then l.setters else l.setters ++ [x]⟩

/-- R103: a change of a lockout is written to the store and reported. -/
def lockoutChanged (s : State) : State := note .lockout (writeLockouts s)

/-- R103: the breaker lockout of a slot is set. -/
def setSlotLockout (n : Nat) (x : Setter) (s : State) : State :=
  let s := if addSetter x (s.slot n).lock = (s.slot n).lock then s
    else lockoutChanged (s.modSlot n fun a => { a with lock := addSetter x a.lock })
  endClose n .lockout s

/-- R103: the bus lockout of a bus is set and published; closes on its breakers leave service. DESIGN CHOICE (log 73): in
ascending order of slot. -/
def setBusLockout (b : Bus) (x : Setter) (s : State) : State :=
  let old := s.busLock b
  let s := if addSetter x old = old then s else lockoutChanged (s.setBusLock b (addSetter x old))
  let s := allSlots.foldl (fun s n => if b ∈ s.busSides n then endClose n .busLockout s else s) s
  if old.isSet then s else s.post (.busLockSet b)

/-- R105: a setter is active: its row's operated indication is asserted, or its slot's BF is TIMING or OPERATED. -/
def setterActive (s : State) : Setter → Bool
  | .element _ row => (s.prot.operated.getD row none).isSome
  | .bf n => decide ((s.slot n).bf ≠ .idle)

/-! ## Breaker-failure test and operation (R101, R102) -/

/-- R101: the breaker carries current; with the point INVALID the test is not made. -/
def carriesCurrent (s : State) (n : Nat) : Bool :=
  let m := s.curMeas n
  decide (m.quality ≠ .invalid) && decide ((s.brk n).bfThreshold ≤ max m.rms.a (max m.rms.b m.rms.c))

/-- BF time of a slot in updates. -/
def bfUpdates (s : State) (n : Nat) : Nat :=
  match (s.brk n).bfUpdates with
  | some u => u
  | none => msToUpdates s.fNom (s.brk n).bfTime

/-- R102 step 3: bus by bus, the present slots other than `n` that have the bus as a side, each once (log 23). -/
def backupsOf (s : State) (n : Nat) : List Nat :=
  (s.busSides n).foldl (fun l b => l ++ allSlots.filter fun m =>
    (s.brk m).present && decide (m ≠ n) && decide (b ∈ s.busSides m) && decide (m ∉ l)) []

/-- R87: cause set and tag of the last order to leave service, when it was an open. -/
def lastOpen (a : ArbSlot) : List Source × Option Nat :=
  match a.lastResult with
  | some l => if l.type = .opn then (l.causes, some l.tag) else ([], none)
  | none => ([], none)

/-- R102: cause set and tag of the failed slot's open: the open in service, else the last that left it. -/
def openOf (a : ArbSlot) : List Source × Option Nat :=
  match a.order with
  | some o => if o.type = .opn then (o.causes, some o.tag) else lastOpen a
  | none => lastOpen a

/-- R102: breaker failure of a slot operates. -/
def operateBf (n : Nat) (s : State) : State :=
  let o := openOf (s.slot n)
  let s := reportBf n .operated (s.modSlot n fun a => { a with bf := .operated })
  let s := setSlotLockout n (.bf n) s
  let s := (s.busSides n).foldl (fun s b => setBusLockout b (.bf n) s) s
  let backups := backupsOf s n
  let s := backups.foldl (fun s m => (raiseOpen .bft (.bf n) m s).1) s
  takeTrigger (.bf ⟨n, o.1, o.2, backups, s.intake.count⟩) s

/-- R101: the BF test of one slot. -/
def testBf (n : Nat) (s : State) : State :=
  if carriesCurrent s n ∨ s.pos n ≠ .opn then
    if (s.slot n).bf = .timing then
      let s := s.modSlot n fun a => { a with bfTimer := a.bfTimer + 1 }
      if bfUpdates s n ≤ (s.slot n).bfTimer then operateBf n s else s
    else s
  else reportBf n .idle (s.modSlot n fun a => { a with bf := .idle, bfTimer := 0 })

/-- R101: at each measurement update, every slot whose BF is TIMING or OPERATED is tested. DESIGN CHOICE (log 61): the
slots are those not IDLE as the tests begin, taken in ascending order; one whose BF a backup trip of this update starts is
tested first at the next. -/
def testAllBf (s : State) : State :=
  (allSlots.filter fun n => decide ((s.slot n).bf ≠ .idle)).foldl (fun s n => testBf n s) s

/-! ## Part states (R107, R108) -/

/-- R108: entering CONFIG withdraws every close in service. DESIGN CHOICE (log 74): in ascending order of slot, after the
sequencers have withdrawn their own. -/
def withdrawAllCloses (s : State) : State := allSlots.foldl (fun s n => endClose n .withdrawn s) s

/-- R108: a slot at COMMIT and DISCARD: an order in service leaves WITHDRAWN as last result; tags and last results
are kept. -/
def commitSlot (a : ArbSlot) : ArbSlot :=
  { lastTag := a.lastTag, lock := a.lock
    lastResult := (match a.order with
      | some o => some ⟨o.type, o.tag, o.causes, .withdrawn⟩
      | none => a.lastResult) }

/-- What the POSITION condition sees of a slot. -/
def positionChanged (x y : ArbSlot) : Bool :=
  !(decide (x.position = y.position) && x.localCtl == y.localCtl && x.ready == y.ready && decide (x.order = y.order))

/-- R108: the Arbiter at COMMIT and DISCARD, its changes reported under the Site Record then in force. -/
def commitArb (s : State) : State :=
  let old := s.arb.slots
  let s := s.modArb fun a => { a with slots := a.slots.map commitSlot }
  let s := if old.any fun a => positionChanged a (commitSlot a) then note .position s else s
  let s := if old.any fun a => decide (a.bf ≠ .idle) then note .breakerFailure s else s
  restoreLockouts s

/-! ## Commands of the Arbiter -/

/-- The order of a slot when it is ISSUED and of the type named. -/
def issuedOf (s : State) (n : Nat) (t : OrdType) : Option Order :=
  match (s.slot n).order with
  | some o => if o.phase = .issued ∧ o.type = t then some o else none
  | none => none

/-- R96: the issue time lies a limit back. -/
def limitPassed (s : State) (o : Order) (limit : Nat) : Bool :=
  match o.issueTime with
  | some t => decide (t + ms limit ≤ s.now)
  | none => false

/-- R88: the next repeat of the order in service is due. -/
def repeatDue (s : State) (n : Nat) : Bool :=
  match (s.slot n).order with
  | some o => o.phase = .issued && decide (o.nextRepeat ≤ s.now)
  | none => false

/-- R96: an ISSUED open has passed its open limit. -/
def openLimitDue (s : State) (n : Nat) : Bool :=
  match issuedOf s n .opn with
  | some o => limitPassed s o (s.brk n).openLimit
  | none => false

/-- R96: an ISSUED close has passed its close limit. -/
def closeLimitDue (s : State) (n : Nat) : Bool :=
  match issuedOf s n .close with
  | some o => limitPassed s o (s.brk n).closeLimit
  | none => false

/-- R97: the next send of the withdraw in progress is due. -/
def withdrawDue (s : State) (n : Nat) : Bool :=
  match (s.slot n).withdraw with
  | some w => decide (w.next ≤ s.now)
  | none => false

/-- R86: the position has been TRAVEL for the larger of the slot's limits. -/
def travelDue (s : State) (n : Nat) : Bool :=
  match (s.slot n).position, (s.slot n).travelAt with
  | .travel, some t => decide (t + ms (max (s.brk n).openLimit (s.brk n).closeLimit) ≤ s.now)
  | _, _ => false

/-- R86: 50 ms have passed without a valid frame. -/
def silenceDue (s : State) (n : Nat) : Bool :=
  match (s.slot n).lastFrame with
  | some t => (s.brk n).present && decide (t + ms 50 ≤ s.now)
  | none => false

/-- R98: the window entry is 500 ms old. -/
def windowDue (s : State) (n : Nat) : Bool :=
  match (s.slot n).window with
  | some (_, t) => decide (t + ms 500 ≤ s.now)
  | none => false

/-- R189: the pending move of a slot is due. -/
def moveDue (s : State) (n : Nat) : Option OrdType :=
  match s.mgmt.mode, s.emuOf n with
  | .loop, some e =>
    match e.move with
    | some (t, due) => if due ≤ s.now then some t else none
    | none => none
  | _, _ => none

/-- R88: the frame of an ISSUED order is originated again. -/
def repeatOrder (n : Nat) (s : State) : State :=
  sendOrder n (s.modSlot n fun a =>
    { a with order := a.order.map fun o => { o with nextRepeat := o.nextRepeat + ms 10 } })

/-- R96, R188: an open passes its limit. -/
def failOpen (n : Nat) (s : State) : State :=
  leaveService n (if s.mgmt.mode = .blocked then .blocked else .fail) s

/-- R96, R188: a close passes its limit; outside BLOCKED a WITHDRAW is started. -/
def failClose (n : Nat) (s : State) : State :=
  match (s.slot n).order with
  | some o =>
    if s.mgmt.mode = .blocked then leaveService n .blocked s
    else startWithdraw n o.tag (causeOf o.causes) (leaveService n .fail s)
  | none => s

/-- R97: one more WITHDRAW is sent; the withdraw in progress is cleared after the third. DESIGN CHOICE (log 92): whether a
frame is built is decided by the mode at each send (R188), so that the sends left after a return to LIVE build theirs. -/
def resendWithdraw (n : Nat) (s : State) : State :=
  match (s.slot n).withdraw with
  | some w =>
    sendFrame n .withdraw w.tag w.cause (s.modSlot n fun a =>
      { a with withdraw := if w.remaining ≤ 1 then none
          else some { w with remaining := w.remaining - 1, next := w.next + ms 10 } })
  | none => s

/-- R86: the position becomes UNKNOWN and the tracking and flags are cleared. -/
def silencePosition (n : Nat) (s : State) : State :=
  let a := s.slot n
  let s := setRealPos n .unknown s
  let s := if a.localCtl ∨ a.ready then note .position s else s
  s.modSlot n fun a =>
    { a with prevPair := none, acceptedPair := none, lastFrame := none, travelAt := none, localCtl := false, ready := false }

/-- R189: the emulated position takes the ordered state, and completion is tested on it. -/
def takeMove (n : Nat) (t : OrdType) (s : State) : State :=
  let old := s.pos n
  let p := orderedPos t
  let s := modEmu n (fun _ => { pos := p, move := none }) s
  let s := if old = p then s else (note .position s).post (.posChanged n old p)
  testCompletion n s

end Sys2Proof.Machine
end

