-- ==== Sys2Proof/Machine/Par.lean ====
section
/-!
DEFINITION. The Paralleling Unit (chapter 7): generator states, the start demand, the grant, the sync criteria, load
sharing, soft unload and free capacity.
-/

namespace Sys2Proof.Machine

/-! ## Generators (R143 to R145) -/

/-- Position of the breaker of Gk. -/
def genPos (s : State) (k : Nat) : Pos := s.pos (genSlot k)

/-- P of Gk, `none` when INVALID. -/
def genPower (s : State) (k : Nat) : Option Int := (s.curMeas (genSlot k)).power

/-- P of Gk with a negative or INVALID value counting as 0 (R157, R159). -/
def genLoad (s : State) (k : Nat) : Int := max 0 ((genPower s k).getD 0)

/-- The present generators, G1 to G8. -/
def presentGens (s : State) : List Nat := allGens.filter fun k => (s.genRow k).present

/-- Sum over a list of generators. -/
def sumOver (l : List Nat) (f : Nat → Int) : Int := l.foldl (fun acc k => acc + f k) 0

/-- Filter and bias become 0. -/
def zeroBias (k : Nat) (s : State) : State := s.modGen k fun g => { g with filter := 0, bias := 0 }

/-- The awaited request is cleared. -/
def clearAwaited (k : Nat) (s : State) : State := s.modGen k fun g => { g with awaited := none }

/-- R144: an OFF generator in AUTO without a controller fault starts while the demand is RAISED. -/
def startIfDemanded (k : Nat) (s : State) : State :=
  let g := s.gen k
  if s.par.demand ∧ g.state = .off ∧ g.manualMode = false ∧ g.fault = false then
    let s := setGenState k .starting s
    if g.running ∧ g.ready then setGenState k .ready s else s
  else s

/-- R144: entry to OFF; filter and bias become 0. -/
def enterOff (k : Nat) (s : State) : State := startIfDemanded k (zeroBias k (setGenState k .off s))

/-- R144, R157: entry to ONLINE, or UNLOADING while a soft unload is running. -/
def enterOnline (k : Nat) (s : State) : State :=
  setGenState k (if s.par.unload.isSome then .unloading else .online) s

/-- R145: a request raised by this unit ended at once; it is read with the other outcomes. -/
def parAtOnce (k : Nat) (t : OrdType) (told : Told) (s : State) : State :=
  (s.modGen k fun g => { g with awaited := some ⟨genSlot k, t, none⟩ }).post (.told .par (genSlot k) t none told)

/-- R145: an SCH-O on the breaker of Gk. -/
def raiseGenOpen (k : Nat) (s : State) : State :=
  match raiseOpen .schO .par (genSlot k) s with
  | (s, .taken tag) => s.modGen k fun g => { g with awaited := some ⟨genSlot k, .opn, some tag⟩ }
  | (s, .noChange) => parAtOnce k .opn .noChange s
  | (s, .refused r) => parAtOnce k .opn (.refused r) s

/-- R148: the grant is released if Gk holds it. -/
def releaseGrantOf (k : Nat) (s : State) : State :=
  match s.par.grant with
  | some g => if g.gen = k then releaseGrant s else s
  | none => s

/-- R145, R148: an SCH-C on the breaker of Gk; a refused close releases the grant. -/
def raiseGenClose (k : Nat) (s : State) : State :=
  match raiseClose .schC .par (genSlot k) s with
  | (s, .taken tag) => s.modGen k fun g => { g with awaited := some ⟨genSlot k, .close, some tag⟩ }
  | (s, .noChange) => releaseGrantOf k (parAtOnce k .close .noChange s)
  | (s, .refused r) => releaseGrantOf k (parAtOnce k .close (.refused r) s)

/-- R143, R145: the generator enters FAILED. Any close of it is withdrawn, and an SCH-O is raised unless its breaker is
OPEN. A FAILED generator stays as it is, its fail cause with it (log 20). -/
def enterFailed (k : Nat) (cause : FailCause) (s : State) : State :=
  if (s.gen k).state = .failed then s
  else
    let s := zeroBias k (setGenState k .failed (s.modGen k fun g => { g with cause := some cause }))
    let s := clearAwaited k (endClose (genSlot k) .withdrawn s)
    if genPos s k = .opn then s else raiseGenOpen k s

/-- R143: the generator enters MANUAL. DESIGN CHOICE (log 95): one that comes from FAILED keeps its fail cause, in MANUAL and
in the state that follows it, until CLEAR or a new failure. -/
def enterManual (k : Nat) (s : State) : State :=
  let s := endClose (genSlot k) .withdrawn (zeroBias k (setGenState k .manual s))
  match (s.gen k).awaited with
  | some w => if w.type = .close then clearAwaited k s else s
  | none => s

/-- R145: this unit withdraws its own close of Gk. -/
def withdrawGenClose (k : Nat) (s : State) : State := clearAwaited k (withdrawOwn (genSlot k) .par s)

/-- R143: the first row that applies to the last status, `none` when no row does. DESIGN CHOICE (log 78): the first row
takes a generator to MANUAL from FAILED too, although its status was lost (R141). -/
def statusRow (k : Nat) (s : State) : Option State :=
  let g := s.gen k
  let up := g.running && g.ready
  if g.manualMode ∧ g.state ≠ .manual then some (enterManual k s)
  else if g.manualMode = false ∧ g.state = .manual then
    some (if genPos s k = .closed then enterOnline k s else enterOff k s)
  else if (g.fault ∨ g.lost) ∧ g.state ≠ .failed ∧ g.state ≠ .manual then
    some (enterFailed k (if g.fault then .controller else .statusLost) s)
  else if up = true ∧ g.state = .starting then some (setGenState k .ready s)
  else if up = false ∧ g.state = .ready then some (setGenState k .starting s)
  else if up = false ∧ g.state = .closing then some (setGenState k .starting (withdrawGenClose k s))
  else none

/-- R143: the table is applied again on the same status until no row applies. Eight applications are more than any
status calls for. -/
def settleStatus (k : Nat) (s : State) : State :=
  let again := fun s => (statusRow k s).getD s
  again (again (again (again (again (again (again (again s)))))))

/-- R145: the outcome of a close of Gk. -/
def closeResult (k : Nat) (t : Told) (s : State) : State :=
  match t with
  | .done | .noChange => s
  | .fail | .preempted => enterFailed k .close s
  | _ => if (s.gen k).state = .closing then setGenState k .ready s else s

/-- R145: the outcome of an open of Gk. -/
def openResult (k : Nat) (t : Told) (s : State) : State :=
  match t with
  | .fail => enterFailed k .opn s
  | _ => s

/-- R145: the unit is told the outcome of its own request; one that is not awaited is ignored. -/
def parTold (slot : Nat) (type : OrdType) (tag : Option Nat) (t : Told) (s : State) : State :=
  match genOfSlot slot with
  | none => s
  | some k =>
    if (s.gen k).awaited = some ⟨slot, type, tag⟩ then
      let s := clearAwaited k s
      match type with
      | .close => closeResult k t s
      | .opn => openResult k t s
    else s

/-- R148, R153: the outcome of another requester's close that held the grant or a channel. -/
def otherClose (slot : Nat) (t : Told) (s : State) : State :=
  match genOfSlot slot with
  | some k => if (s.genRow k).present then closeResult k t s else s
  | none => s

/-! ## Soft unload (R157, R158) -/

/-- R158: the soft unload ends. -/
def endUnload (s : State) : State :=
  match s.par.unload with
  | none => s
  | some _ =>
    let s := note .generator (s.modPar fun p => { p with unload := none })
    allGens.foldl (fun s k => if (s.gen k).state = .unloading then setGenState k .online s else s) s

/-- R158: the owner tells the unit to end the unload. -/
def endUnloadOf (q : SeqId) (s : State) : State :=
  match s.par.unload with
  | some u => if u.owner = q then endUnload s else s
  | none => s

/-- Sharing updates per second (R157). -/
def sharingRate (s : State) : Nat := if s.fNom = 60 then 30 else 25

/-- The ONLINE generators in AUTO. -/
def onlineAuto (s : State) : List Nat :=
  (presentGens s).filter fun k => decide ((s.gen k).state = .online) && !(s.gen k).manualMode

/-- R157: a soft unload begins if none runs and the other section's GM is OPEN. -/
def beginUnload (q : SeqId) (ramp : Nat) (s : State) : State :=
  if s.par.unload.isNone ∧ s.pos (gmSlot (otherSeq q)) = .opn then
    let members := onlineAuto s
    let sum := members.foldl (fun acc k => acc + (s.genRow k).rating) 0
    let u : Unload := ⟨q, sumOver members (genLoad s), max 1 (ceilDiv (sum * ramp) (100 * sharingRate s)), sum⟩
    let s := note .generator (s.modPar fun p => { p with unload := some u })
    members.foldl (fun s k => setGenState k .unloading s) s
  else s

/-! ## Positions (R144, R158) -/

/-- R144: a published position moves a generator that is not FAILED or MANUAL. -/
def genPosition (k : Nat) (was now : Pos) (s : State) : State :=
  let st := (s.gen k).state
  if (s.genRow k).present = false then s
  else if now = .closed then
    if st = .off ∨ st = .starting ∨ st = .ready ∨ st = .closing then enterOnline k s else s
  else if was = .closed ∧ (st = .online ∨ st = .unloading) then enterOff k s
  else s

/-- R144, R158: the unit's part in a published position. -/
def parPosition (slot : Nat) (was now : Pos) (s : State) : State :=
  match genOfSlot slot with
  | some k => genPosition k was now s
  | none =>
    match s.par.unload with
    | some u => if slot = gmSlot (otherSeq u.owner) ∧ now = .closed then endUnload s else s
    | none => s

/-! ## Start demand (R144, R146) -/

/-- R144, R146: the demand becomes RAISED. -/
def raiseDemand (s : State) : State :=
  if s.par.demand = true ∧ s.par.stopTimer = none ∧ s.par.stopPending = false then s
  else
    let was := s.par.demand
    let s := note .generator (s.modPar fun p => { p with demand := true, stopTimer := none, stopPending := false })
    if was then s else (presentGens s).foldl (fun s k => startIfDemanded k s) s

/-- R144: the demand becomes DROPPED for one generator. -/
def demandDropped (k : Nat) (s : State) : State :=
  match (s.gen k).state with
  | .starting | .ready => enterOff k s
  | .closing => enterOff k (withdrawGenClose k s)
  | _ => s

/-- R146: both contributions are dropped; the stop timer starts. -/
def startStopTimer (s : State) : State :=
  if s.par.demand = true ∧ s.par.stopTimer = none then
    note .generator (s.modPar fun p => { p with stopTimer := some (s.now + secs s.site.stopDelay) })
  else s

/-- R146: the demand is formed from the two contributions. -/
def formDemand (s : State) : State :=
  if s.seqs.seq1.demand ∨ s.seqs.seq2.demand then raiseDemand s else startStopTimer s

/-- R146, R144: the stop timer expires, and the demand becomes DROPPED. DESIGN CHOICE (log 89): the generators are moved, and
their closes withdrawn, from G1 to G8. -/
def stopExpired (s : State) : State :=
  let s := note .generator (s.modPar fun p => { p with demand := false, stopTimer := none, stopPending := true })
  (presentGens s).foldl (fun s k => demandDropped k s) s

/-- R147: at an update with stop pending and both GMs OPEN, opens are raised on the online generators. DESIGN CHOICE
(log 67): in ascending order of generator. -/
def stopGenerators (s : State) : State :=
  if s.par.stopPending ∧ s.pos 3 = .opn ∧ s.pos 4 = .opn then
    (presentGens s).foldl (fun s k =>
      let g := s.gen k
      let awaitsOpen := match g.awaited with
        | some w => w.type = .opn
        | none => false
      if (g.state = .online ∨ g.state = .unloading) ∧ awaitsOpen = false then raiseGenOpen k s else s) s
  else s

/-! ## Grant and closes (R148, R150) -/

/-- R148: eligible for the grant or a close. -/
def eligible (s : State) (k : Nat) : Bool :=
  (s.genRow k).present && decide ((s.gen k).state = .ready) && isLive (s.declared (4 + k)) &&
    decide (genPos s k = .opn) && !(s.slot (genSlot k)).lock.isSet && !s.arb.gbus.isSet

/-- Present generators in order of priority number, lowest first (R140 makes the numbers differ). -/
def byPriority (s : State) : List Nat :=
  [1, 2, 3, 4, 5, 6, 7, 8].flatMap fun p => (presentGens s).filter fun k => (s.genRow k).priority = p

/-- R148: an update at which GBUS is not DEAD releases the grant; the close that holds it is withdrawn. -/
def releaseOnLive (s : State) : State :=
  match s.par.grant with
  | some g =>
    if s.declared 4 = .dead then s
    else
      match (s.slot (genSlot g.gen)).order with
      | some o => releaseGrant (if o.grantHeld then endClose (genSlot g.gen) .withdrawn s else s)
      | none => releaseGrant s
  | none => s

/-- R148 to R150, R161: closes of the unit's own are raised in SERVICE, outside BLOCKED, while the demand is RAISED. -/
def mayRaiseCloses (s : State) : Bool := s.inService && s.par.demand && decide (s.mgmt.mode ≠ .blocked)

/-- R148: on a dead GBUS with the grant free, the eligible generator with the lowest priority number is granted. -/
def grantDead (s : State) : State :=
  if mayRaiseCloses s = true ∧ s.declared 4 = .dead ∧ s.par.grant.isNone = true then
    match (byPriority s).find? (eligible s) with
    | some k =>
      raiseGenClose k <| setGenState k .closing <| note .generator <|
        s.modPar fun p => { p with grant := some ⟨k, .par, true⟩ }
    | none => s
  else s

/-- R150: on a live GBUS, closes are raised in order of priority number. -/
def closeLive (s : State) : State :=
  if mayRaiseCloses s = true ∧ isLive (s.declared 4) = true then
    (byPriority s).foldl (fun s k =>
      if eligible s k = true ∧ (s.gen k).awaited.isNone = true then raiseGenClose k s else s) s
  else s

/-! ## Sync criteria (R152) -/

/-- R152 criterion 5: the angle predicted for the touch of the contacts. -/
def angleHolds (window closing : Nat) (angle slip : Int) : Bool :=
  if 10 ≤ slip.natAbs then
    decide ((wrapAngle (angle + (slip * closing * 36).tdiv 1000)).natAbs ≤ window)
  else decide (angle.natAbs ≤ window)

/-- R152: the channel holds at this update. -/
def channelHolds (s : State) (c : Channel) : Bool :=
  let r := s.voltMeas c.ref
  let i := s.voltMeas c.inc
  decide (r.quality = .good) && decide (i.quality = .good) &&
    (match c.pair with
     | none => false
     | some (angle, slip) =>
       decide (((i.rms.a : Int) - (r.rms.a : Int)).natAbs ≤ s.par.voltWin) &&
         decide (slip.natAbs ≤ s.tbl.par.slipLimit) && angleHolds s.tbl.par.angleWin c.closing angle slip)

/-- A channel replaced by `f` of it. -/
def modChannel (i : Nat) (f : Channel → Channel) (s : State) : State :=
  s.modPar fun p => { p with channels := modAt p.channels i fun c => c.map f }

/-- R152, R94: the channel fires and the Arbiter is told to fire the close. -/
def fireChannel (i slot : Nat) (s : State) : State :=
  fireClose slot (note .generator (modChannel i (fun c => { c with fired := true }) s))

/-- R152: one channel at a measurement update. -/
def testChannel (i : Nat) (s : State) : State :=
  match s.par.channels.getD i none with
  | none => s
  | some c =>
    if c.fired then s
    else if channelHolds s c then
      let s := modChannel i (fun c => { c with hold := c.hold + 1 }) s
      if 2 ≤ c.hold + 1 then fireChannel i c.slot s else s
    else modChannel i (fun c => { c with hold := 0 }) s

/-- R153: the request of a breaker waits in the queue or in a MATCHING channel; its arrival time. -/
def waitingSince (s : State) (slot : Nat) : Option Nat :=
  match channelOf s slot with
  | some i =>
    match s.par.channels.getD i none with
    | some c => if c.fired then none else some c.start
    | none => none
  | none => (s.par.queue.find? fun r => decide (r.slot = slot)).map fun r => r.arrival

/-- R153: the sync wait limit of a request has passed. -/
def syncWaitDue (s : State) (slot : Nat) : Bool :=
  match waitingSince s slot with
  | some t => decide (t + secs s.tbl.par.syncWait ≤ s.now)
  | none => false

/-- R153: the Arbiter is told of a sync timeout, which frees the place; so is a place without a close in SYNC_WAIT. -/
def expireSyncWait (slot : Nat) (s : State) : State :=
  if inSyncWait s slot then timeoutClose slot s else dropPlace slot s

/-! ## Matching trim and load sharing (R154, R155) -/

/-- R154: a trim in tenths of a percent, limited to −10 to +10. -/
def limitTrim (x : Int) : Int := clampInt (-10) 10 (x.tdiv 20)

/-- R154: the trim a MATCHING channel gives Gk. -/
def trimOf (s : State) (c : Channel) (k : Nat) : Int :=
  match c.fired, c.pair with
  | false, some (_, slip) =>
    let st := (s.gen k).state
    let gm1 := decide (s.pos 3 = .closed)
    let gm2 := decide (s.pos 4 = .closed)
    if c.slot = genSlot k then
      if st = .online ∨ st = .ready ∨ st = .closing then limitTrim (100 - slip) else 0
    else if st ≠ .online then 0
    else if c.slot = 0 then if gm1 then limitTrim (slip - 100) else 0
    else if c.slot = 1 then if gm2 then limitTrim (slip - 100) else 0
    else if c.slot = 2 then
      if gm2 && !gm1 then limitTrim (slip - 100)
      else if gm1 && !gm2 then limitTrim (-slip - 100)
      else 0
    else 0
  | _, _ => 0

/-- R154: the trims that reach Gk, summed and limited. -/
def trimSum (s : State) (k : Nat) : Int :=
  clampInt (-10) 10 (s.par.channels.foldl (fun acc c =>
    match c with
    | some c => acc + trimOf s c k
    | none => acc) 0)

/-- R155: the sharing set. -/
def sharingSet (s : State) : List Nat :=
  if s.par.unload.isSome then (presentGens s).filter fun k => decide ((s.gen k).state = .unloading)
  else onlineAuto s

/-- R156: a bias value. -/
def limitBias (x : Int) : Int := clampInt (-1000) 1000 x

/-- R155: filter and bias of a member with target `target` and power `p`. -/
def shareStep (gain limit rating : Nat) (target p filter bias trim : Int) : Int × Int :=
  let f := filter + ((target - p) - filter).tdiv 4
  let step := clampInt (-(limit : Int)) limit ((f * gain).tdiv rating)
  (f, limitBias (bias + step + trim))

/-- R155: every present generator's filter and bias at a sharing update. -/
def shareLoad (s : State) : State :=
  let o := sharingSet s
  let able := !o.isEmpty && o.all fun k => (genPower s k).isSome
  let total : Int := match s.par.unload with
    | some u => u.ttot
    | none => sumOver o fun k => (genPower s k).getD 0
  let sum : Int := sumOver o fun k => (s.genRow k).rating
  let gens := s.par.gens.mapIdx fun i g =>
    let k := i + 1
    if (s.genRow k).present = false then g
    else if able = true ∧ k ∈ o then
      let rating := (s.genRow k).rating
      let r := shareStep s.tbl.par.gain s.tbl.par.stepLimit rating ((total * rating).tdiv sum)
        ((genPower s k).getD 0) g.filter g.bias (trimSum s k)
      { g with filter := r.1, bias := r.2 }
    else { g with bias := limitBias (g.bias + trimSum s k) }
  s.modPar fun p => { p with gens := gens }

/-- R157: Ttot falls by r at each sharing update. -/
def stepUnload (s : State) : State :=
  s.modPar fun p => { p with unload := p.unload.map fun u => { u with ttot := max 0 (u.ttot - u.step) } }

/-- R142: the start request of Gk. -/
def startRequest (s : State) (k : Nat) : Bool :=
  let g := s.gen k
  !g.manualMode && decide (g.state ≠ .failed) && decide (g.state ≠ .manual) &&
    (s.par.demand || decide (g.state = .closing) || decide (g.state = .online) || decide (g.state = .unloading))

/-- R142: the bias sent to Gk, 0 in OFF, FAILED and MANUAL. -/
def sentBias (g : Gen) : Int :=
  match g.state with
  | .off | .failed | .manual => 0
  | _ => g.bias

/-- R142: the GENCMD frame of Gk. -/
def sendGencmd (k : Nat) (s : State) : State :=
  originate (s.genRow k).station (.gencmd k (startRequest s k) (sentBias (s.gen k)))
    (s.modGen k fun g => { g with startSent := startRequest s k })

/-- R155, R142: a sharing update. DESIGN CHOICE (log 68): the GENCMD frames are originated in ascending order of
generator. -/
def sharingUpdate (s : State) : State :=
  let s := shareLoad (stepUnload s)
  (presentGens s).foldl (fun s k => sendGencmd k s) s

/-! ## Free capacity (R159) -/

/-- A generator counted online (chapter 7.3). -/
def countedOnline (s : State) (k : Nat) : Bool :=
  match (s.gen k).state with
  | .online | .unloading => true
  | .manual => decide (genPos s k = .closed)
  | _ => false

/-- R159: free capacity and GBUS total P. -/
def formCapacity (s : State) : State :=
  let l := (presentGens s).filter (countedOnline s)
  let load := sumOver l (genLoad s)
  let cap := sumOver l (fun k => (s.genRow k).rating) - load
  s.modPar fun p => { p with freeCap := cap, gbusP := load }

/-! ## CLEAR and resets (R144, R160) -/

/-- R144: CLEAR with the GENERATORS subset for one generator. DESIGN CHOICE (log 88): with both a controller fault and a lost
status, the new fail cause is CONTROLLER. -/
def clearFailed (k : Nat) (s : State) : State :=
  if (s.gen k).state = .failed then
    let s := zeroBias k (setGenState k .off (s.modGen k fun g => { g with cause := none }))
    if (s.gen k).fault then enterFailed k .controller s
    else if (s.gen k).lost then enterFailed k .statusLost s
    else startIfDemanded k s
  else s

/-- R139: the voltage window in volts, formed when a Site Record comes into force. -/
def voltWindow (s : State) : Nat := s.site.vn.getD 0 * s.tbl.par.voltWinPct / 100

/-- R160: the state of the unit after a reset. -/
def parReset : Par := {}

/-! ## Status (R141) -/

/-- R141: a GENSTAT payload is valid for its generator. -/
def genstatValid (s : State) (src : Nat) (p : GenstatPayload) : Bool :=
  (s.genRow p.gen).present && decide ((s.genRow p.gen).station = src)

/-- The status a record holds equals that of a frame. -/
def sameStatus (g : Gen) (p : GenstatPayload) : Bool :=
  g.running == p.running && g.ready == p.ready && g.fault == p.fault && g.manualMode == p.manualMode

/-- R141: a valid GENSTAT frame; one that repeats the last status changes no state. -/
def takeGenstat (p : GenstatPayload) (s : State) : State :=
  let same := sameStatus (s.gen p.gen) p
  let s := s.modGen p.gen fun g =>
    { g with running := p.running, ready := p.ready, fault := p.fault, manualMode := p.manualMode
             lastStat := some s.now, lost := false }
  if same then s else settleStatus p.gen s

/-- R141: 1,000 ms have passed since the later of the last valid GENSTAT and the first moment of SERVICE. -/
def statusLossDue (s : State) (k : Nat) : Bool :=
  match s.mgmt.serviceAt with
  | some t =>
    s.blocksRun && (s.genRow k).present && !(s.gen k).lost &&
      decide (max t ((s.gen k).lastStat.getD t) + ms 1000 ≤ s.now)
  | none => false

/-- R141, R143: the status of Gk is lost. -/
def loseStatus (k : Nat) (s : State) : State := settleStatus k (s.modGen k fun g => { g with lost := true })

end Sys2Proof.Machine
end

