-- ==== Sys2Proof/Machine/Sequencer.lean ====
section
/-!
DEFINITION. The Transfer Sequencers SEQ1 and SEQ2 (chapter 6): requests and their outcomes, derivation, the rules of
each state at an update, at a position, at an outcome and at a timer's expiry, and park, resume, abort and inhibit.
-/

namespace Sys2Proof.Machine

/-! ## Reading the section -/

/-- Position of the INC of a section. -/
def incPos (s : State) (q : SeqId) : Pos := s.pos (incSlot q)

/-- The utility of a section is declared HEALTHY. -/
def utilHealthy (s : State) (q : SeqId) : Bool := s.declared (utilPoint q) = .healthy

/-- The bus of a section is live. -/
def busLive (s : State) (q : SeqId) : Bool := isLive (s.declared (busPoint q))

/-- The bus lockout of a section is set. -/
def secLocked (s : State) (q : SeqId) : Bool := (s.busLock (secBus q)).isSet

/-- R120, R130: the bus point's quality is not INVALID and every phase RMS is below the residual threshold. -/
def runDown (s : State) (q : SeqId) : Bool :=
  let m := s.voltMeas (busPoint q)
  let limit := (s.seq q).residual
  decide (m.quality ≠ .invalid ∧ m.rms.a < limit ∧ m.rms.b < limit ∧ m.rms.c < limit)

/-- Slot of the alternate in use; a slot that is never present when there is none. -/
def inUseSlot (s : State) (q : SeqId) : Nat :=
  match (s.seq q).alt with
  | some a => altSlot q a
  | none => 25

/-- R109: a sequencer whose INC row is not present is inactive. -/
def seqActive (s : State) (q : SeqId) : Bool := (s.brk (incSlot q)).present

/-- Chapter 6.3: stable states. -/
def isStable : SeqState → Bool
  | .preferred | .onAlternate | .returnWatch | .deadBus | .lockedOut | .parked => true
  | .starting | .lossPending | .sourceOpening | .deadWait | .genWait | .altClosing | .returnSync | .parallelFast
  | .parallelSoft | .returnOpening | .returnClosing => false

/-! ## State changes -/

/-- R110: the timers a sequencer holds after entering a state: all are stopped, but the restore timer runs on in
GEN_WAIT and DEAD_BUS. -/
def leaveTimers (st : SeqState) (x : Seq) : Seq :=
  { x with startup := none, loss := none, dead := none, retransfer := none, parallel := none, softLimit := none
           restore := if st = .genWait ∨ st = .deadBus then x.restore else none }

/-- Every timer of a sequencer stopped. -/
def stopTimers (x : Seq) : Seq := { leaveTimers .starting x with restore := none }

/-- R110: a sequencer changes state. -/
def setSeqState (q : SeqId) (st : SeqState) (s : State) : State :=
  if (s.seq q).state = st then s
  else note .sequencer (s.modSeq q fun x => { leaveTimers st x with state := st })

/-- R121: the claim is released if the sequencer holds it. -/
def releaseClaim (q : SeqId) (s : State) : State :=
  if s.seqs.claim = some q then note .sequencer (s.modSeqs fun x => { x with claim := none }) else s

/-- R121: the sequencer takes a free claim. -/
def takeClaim (q : SeqId) (s : State) : State :=
  if s.seqs.claim = some q then s else note .sequencer (s.modSeqs fun x => { x with claim := some q })

/-- R111: the sequencer withdraws its close; the awaited request is cleared and an open runs on. -/
def withdrawSeqClose (q : SeqId) (s : State) : State :=
  let s' := match (s.seq q).awaited with
    | some w => if w.type = OrdType.close then withdrawOwn w.slot (.seq q) s else s
    | none => s
  s'.modSeq q fun x => { x with awaited := none }

/-- Retransfer ready set or cleared (R110). -/
def setReady (q : SeqId) (b : Bool) (s : State) : State :=
  if (s.seq q).retReady = b then s else note .sequencer (s.modSeq q fun x => { x with retReady := b })

/-- R134: the pending park set or cleared. -/
def setPendingPark (q : SeqId) (b : Bool) (s : State) : State :=
  if (s.seq q).pendingPark = b then s else note .sequencer (s.modSeq q fun x => { x with pendingPark := b })

/-- R134: entry to PARKED. -/
def enterParked (q : SeqId) (s : State) : State :=
  let s := setReady q false (withdrawSeqClose q s)
  let s := setPendingPark q false (s.modSeq q fun x => { stopTimers x with inhibitHold := false })
  setSeqState q .parked s

/-- R134: entry to a stable state, or to PARKED in its place when a park is pending. -/
def goStable (q : SeqId) (st : SeqState) (s : State) : State :=
  if (s.seq q).pendingPark then enterParked q s else setSeqState q st s

/-- Entry to PREFERRED; the spent alternates are cleared (R132). DESIGN CHOICE (log 87): they are cleared too where a pending
park has PARKED entered in its place. -/
def enterPreferred (q : SeqId) (s : State) : State :=
  goStable q .preferred (s.modSeq q fun x => { x with spentTie := false, spentGm := false })

/-- R124: entry to ON_ALTERNATE; with bus proven clear the dead timer starts. -/
def enterOnAlternate (q : SeqId) (a : Alt) (proven : Bool) (s : State) : State :=
  let s := goStable q .onAlternate (s.modSeq q fun x => { x with alt := some a })
  if (s.seq q).state = .onAlternate then
    s.modSeq q fun x =>
      { x with busProven := proven
               dead := if proven then none else some (s.now + ms (s.scheme q).deadLimit) }
  else s

/-- R133: entry to LOCKED_OUT, or to PARKED in its place when a park is pending. DESIGN CHOICE (log 65): what R133 does on
entry is done either way, so that the TIE claim is released before PARKED is entered too. -/
def enterLockedOut (q : SeqId) (s : State) : State :=
  let s := releaseClaim q (endUnloadOf q (withdrawSeqClose q s))
  let s := setReady q false (s.modSeq q fun x => { stopTimers x with inhibitHold := false, overrun := false })
  goStable q .lockedOut s

/-- Entry to DEAD_BUS with no alternate in use (log 21). DESIGN CHOICE (log 87): none is left in use where a pending park has
PARKED entered in its place. -/
def enterDeadBus (q : SeqId) (s : State) : State :=
  goStable q .deadBus (s.modSeq q fun x => { x with alt := none })

/-! ## Requests (R111) -/

/-- R111: a request becomes the awaited request; one that ends at once is read with the other outcomes. -/
def awaitReply (q : SeqId) (slot : Nat) (t : OrdType) (r : State × Reply) : State :=
  let keep := fun (tag : Option Nat) (s : State) => s.modSeq q fun x => { x with awaited := some ⟨slot, t, tag⟩ }
  match r with
  | (s, .taken tag) => keep (some tag) s
  | (s, .noChange) => (keep none s).post (.told (.seq q) slot t none .noChange)
  | (s, .refused reason) => (keep none s).post (.told (.seq q) slot t none (.refused reason))

/-- R111: an SCH-O. -/
def seqOpen (q : SeqId) (slot : Nat) (s : State) : State :=
  awaitReply q slot .opn (raiseOpen .schO (.seq q) slot s)

/-- R111: an SCH-C. -/
def seqClose (q : SeqId) (slot : Nat) (s : State) : State :=
  awaitReply q slot .close (raiseClose .schC (.seq q) slot s)

/-! ## Trials and entries (R117 to R123) -/

/-- R113: at the start of a transfer the snapshot is taken and the spent alternates are cleared. -/
def takeSnapshot (q : SeqId) (s : State) : State :=
  s.modSeq q fun x => { x with snapshot := x.lastLoad, spentTie := false, spentGm := false }

/-- Entry to DEAD_WAIT with the dead timer. -/
def enterDeadWait (q : SeqId) (s : State) : State :=
  (setSeqState q .deadWait s).modSeq q fun x => { x with dead := some (s.now + ms (s.scheme q).deadLimit) }

/-- R120: the TIE is usable. -/
def tieUsable (s : State) (q : SeqId) : Bool :=
  let o := otherSeq q
  decide ((s.seq o).state = .preferred) && utilHealthy s o && s.seqs.claim.isNone && !(s.slot tieSlot).lock.isSet

/-- R120: the GM is usable: its breaker lockout and the bus lockout of GBUS are clear. -/
def gmUsable (s : State) (q : SeqId) : Bool := !(s.slot (gmSlot q)).lock.isSet && !s.arb.gbus.isSet

/-- R122, R132: GBUS is declared HEALTHY and its free capacity is at least the snapshot. -/
def gbusReady (s : State) (q : SeqId) : Bool :=
  decide (s.declared 4 = .healthy) && decide (((s.seq q).snapshot : Int) ≤ s.par.freeCap)

/-- An alternate is among the spent alternates. -/
def isSpent (x : Seq) : Alt → Bool
  | .tie => x.spentTie
  | .gm => x.spentGm

/-- An alternate joins the spent alternates. -/
def spend (a : Alt) (x : Seq) : Seq :=
  match a with
  | .tie => { x with spentTie := true }
  | .gm => { x with spentGm := true }

/-- R120: the use of the TIE. -/
def useTie (q : SeqId) (s : State) : State :=
  seqClose q tieSlot (setSeqState q .altClosing ((takeClaim q s).modSeq q fun x => { x with alt := some .tie }))

/-- R122, R132: the close of the GM. -/
def closeGm (q : SeqId) (s : State) : State :=
  seqClose q (gmSlot q) (setSeqState q .altClosing (s.modSeq q fun x => { x with alt := some .gm }))

/-- R120: the first entry of a list that is not spent and is usable now is used; DEAD_BUS when there is none. -/
def trial (q : SeqId) (l : List Alt) (s : State) : State :=
  match l with
  | [] => enterDeadBus q s
  | .tie :: rest =>
    if (s.seq q).spentTie = false ∧ tieUsable s q = true then useTie q s else trial q rest s
  | .gm :: rest =>
    if (s.seq q).spentGm = false ∧ gmUsable s q = true then
      setSeqState q .genWait (s.modSeq q fun x => { x with alt := some .gm })
    else trial q rest s

/-- The entries of an alternates list behind one of them. -/
def entriesAfter (a : Alt) (l : List Alt) : List Alt :=
  match l with
  | [] => []
  | x :: rest => if x = a then rest else entriesAfter a rest

/-- R122, R123: an alternate is spent and the trial is made from the next entry; the claim goes with the TIE. -/
def alternateFailed (q : SeqId) (a : Alt) (s : State) : State :=
  let s := if a = .tie then releaseClaim q s else s
  trial q (entriesAfter a (s.scheme q).alternates) (s.modSeq q (spend a))

/-- R132: the trial of DEAD_BUS, with the stricter test of GEN. -/
def deadBusTrial (q : SeqId) (l : List Alt) (s : State) : State :=
  match l with
  | [] => s
  | .tie :: rest =>
    if (s.seq q).spentTie = false ∧ tieUsable s q = true then useTie q s else deadBusTrial q rest s
  | .gm :: rest =>
    if (s.seq q).spentGm = false ∧ gmUsable s q = true ∧ gbusReady s q = true then closeGm q s
    else deadBusTrial q rest s

/-- R124: the alternate in use is lost. -/
def loseAlternate (q : SeqId) (s : State) : State :=
  let slot := inUseSlot s q
  if s.pos slot = .opn then
    enterDeadBus q (if (s.seq q).alt = some .tie then releaseClaim q s else s)
  else goStable q .deadBus (seqOpen q slot s)

/-- SCH-C on the INC from the dead bus: RETURN_CLOSING (R122, R130, R132). -/
def returnClose (q : SeqId) (s : State) : State := seqClose q (incSlot q) (setSeqState q .returnClosing s)

/-- R126: entry to RETURN_SYNC. -/
def enterReturnSync (q : SeqId) (k : ReturnKind) (s : State) : State :=
  seqClose q (incSlot q) (setSeqState q .returnSync (s.modSeq q fun x => { x with kind := k }))

/-- R130: entry to RETURN_OPENING. -/
def enterReturnOpening (q : SeqId) (s : State) : State :=
  let slot := inUseSlot s q
  seqOpen q slot (setSeqState q .returnOpening s)

/-- R125: the return begins, by the first row that applies. -/
def beginReturn (q : SeqId) (s : State) : State :=
  let mode := (s.scheme q).mode
  let alt := (s.seq q).alt
  if mode = .opn then enterReturnOpening q s
  else if alt = some .tie ∧ s.site.utilPar = false then enterReturnOpening q s
  else if mode = .soft ∧ alt = some .gm ∧ s.pos (gmSlot (otherSeq q)) = .opn then enterReturnSync q .soft s
  else enterReturnSync q .fast s

/-- R127: entry to PARALLEL_FAST. -/
def enterParallelFast (q : SeqId) (s : State) : State :=
  let slot := inUseSlot s q
  let s := (setSeqState q .parallelFast s).modSeq q fun x =>
    { x with parallel := some (s.now + ms (s.scheme q).maxParallel) }
  seqOpen q slot s

/-- R128: entry to PARALLEL_SOFT. -/
def enterParallelSoft (q : SeqId) (s : State) : State :=
  let s := (setSeqState q .parallelSoft s).modSeq q fun x =>
    { x with softLimit := some (s.now + secs (s.scheme q).softLimit) }
  beginUnload q (s.scheme q).softRamp s

/-- R128: the soft unload is ended and the sequencer enters PARALLEL_FAST. -/
def endSoft (q : SeqId) (s : State) : State := enterParallelFast q (endUnloadOf q s)

/-- R127: the alternate has opened; back to PREFERRED. -/
def parallelDone (q : SeqId) (s : State) : State :=
  let s := if (s.seq q).alt = some .tie then releaseClaim q s else s
  enterPreferred q (s.modSeq q fun x => { x with parallel := none, overrun := false, alt := none, awaited := none })

/-- R127: the parallel ends as an overrun. -/
def raiseOverrun (q : SeqId) (s : State) : State :=
  let slot := inUseSlot s q
  let s := s.modSeq q fun x => { x with parallel := none, overrun := true }
  let s := awaitReply q slot .opn (raiseOpen .prot (.seq q) slot s)
  takeTrigger (.overrun ⟨q, slot, s.intake.count⟩) s

/-! ## Derivation (R115) -/

/-- What derivation clears: awaited request, spent alternates, retransfer ready, inhibit hold, overrun, timers. -/
def derivedClean (x : Seq) : Seq :=
  { stopTimers x with awaited := none, spentTie := false, spentGm := false, inhibitHold := false, overrun := false }

/-- The TIE row of R115 applies. -/
def tieRow (s : State) (q : SeqId) : Bool :=
  let o := otherSeq q
  decide (s.pos tieSlot = .closed) && (decide (incPos s o = .closed) || decide (s.pos (gmSlot o) = .closed)) &&
    decide (s.seqs.claim ≠ some o)

/-- R115: derivation. DESIGN CHOICE (log 63): where it gives no alternate, none is left in use. -/
def derive (q : SeqId) (s : State) : State :=
  let s := setReady q false (s.modSeq q derivedClean)
  let noAlt := fun s => releaseClaim q (s.modSeq q fun x => { x with alt := none })
  if secLocked s q then goStable q .lockedOut (noAlt s)
  else if incPos s q = .closed ∧ utilHealthy s q = true then enterPreferred q (noAlt s)
  else if incPos s q = .closed then
    (setSeqState q .lossPending (noAlt s)).modSeq q fun x =>
      { x with loss := some (s.now + ms (s.scheme q).lossQualify) }
  else if s.pos (gmSlot q) = .closed then enterOnAlternate q .gm (busLive s q) (noAlt s)
  else if tieRow s q then enterOnAlternate q .tie (busLive s q) (takeClaim q s)
  else goStable q .deadBus (noAlt s)

/-- R114: the present breakers of a section. -/
def sectionSlots (s : State) (q : SeqId) : List Nat :=
  allSlots.filter fun n =>
    (s.brk n).present && (decide (n = incSlot q ∨ n = tieSlot ∨ n = gmSlot q) ||
      (decide (13 ≤ n) && decide ((s.brk n).busSide = secBus q)))

/-- R114: the conditions under which a sequencer leaves STARTING before its timer. -/
def startKnown (s : State) (q : SeqId) : Bool :=
  s.inService && (sectionSlots s q).all (fun n => decide (s.pos n ≠ .unknown)) &&
    decide (s.declared (utilPoint q) ≠ .indeterminate) && decide (s.declared (busPoint q) ≠ .indeterminate)

/-- R116: the sequencer withdraws its close and applies derivation. -/
def unaskedClose (q : SeqId) (s : State) : State := derive q (withdrawSeqClose q s)

/-! ## Outcomes (R111, R119, R123 to R131) -/

/-- R111: DONE or NO_CHANGE. -/
def isSuccess : Told → Bool
  | .done | .noChange => true
  | _ => false

/-- R119: the open of the INC succeeded. -/
def sourceOpened (q : SeqId) (s : State) : State :=
  if s.pos (gmSlot q) = .closed then enterOnAlternate q .gm (busLive s q) s
  else if s.pos tieSlot = .closed ∧ s.seqs.claim ≠ some (otherSeq q) then
    enterOnAlternate q .tie (busLive s q) (takeClaim q s)
  else enterDeadWait q s

/-- R123: the outcome of an alternate close. -/
def alternateOutcome (q : SeqId) (t : Told) (s : State) : State :=
  match (s.seq q).alt with
  | none => s
  | some a =>
    if isSuccess t then enterOnAlternate q a false s
    else
      match a, t with
      | .gm, .refused .notSettled => setSeqState q .genWait s
      | .gm, .refused .deadGbus => setSeqState q .genWait s
      | .tie, .refused .notSettled =>
        s.modSeq q fun x =>
          { x with dead := (match x.dead with
            | some d => some d
            | none => some (s.now + ms (s.scheme q).deadLimit)) }
      | _, _ => alternateFailed q a s

/-- R126: the outcome of the synchronized close of the INC. -/
def returnSyncOutcome (q : SeqId) (t : Told) (s : State) : State :=
  if isSuccess t then
    match (s.seq q).kind with
    | .soft => enterParallelSoft q s
    | .fast => enterParallelFast q s
  else if (s.scheme q).openFallback then enterReturnOpening q s
  else
    let s := goStable q .returnWatch (setReady q false s)
    if (s.seq q).state = .returnWatch then
      s.modSeq q fun x => { x with retransfer := some (s.now + secs (s.scheme q).retransferDelay) }
    else s

/-- R127: the outcome of the open of the alternate in PARALLEL_FAST. -/
def parallelOutcome (q : SeqId) (t : Told) (s : State) : State :=
  if isSuccess t then parallelDone q s
  else if (s.seq q).parallel.isSome then raiseOverrun q s
  else enterLockedOut q s

/-- R130: the outcome of the open of the alternate in RETURN_OPENING. -/
def returnOpeningOutcome (q : SeqId) (t : Told) (s : State) : State :=
  let s := if (s.seq q).alt = some .tie then releaseClaim q s else s
  if isSuccess t then
    s.modSeq q fun x => { x with alt := none, dead := some (s.now + ms (s.scheme q).deadLimit) }
  else enterLockedOut q s

/-- R131: the outcome of the close of the INC in RETURN_CLOSING. -/
def returnClosingOutcome (q : SeqId) (t : Told) (s : State) : State :=
  if isSuccess t then enterPreferred q (s.modSeq q fun x => { x with alt := none }) else enterDeadBus q s

/-- R124: the outcome of the open of a lost alternate. -/
def lostOutcome (q : SeqId) (t : Told) (s : State) : State :=
  let s := if (s.seq q).alt = some .tie then releaseClaim q s else s
  if isSuccess t then s.modSeq q fun x => { x with alt := none } else enterLockedOut q s

/-- R111: a sequencer is told an outcome; one of a request it does not await is ignored. -/
def seqTold (q : SeqId) (slot : Nat) (type : OrdType) (tag : Option Nat) (t : Told) (s : State) : State :=
  if (s.seq q).awaited = some ⟨slot, type, tag⟩ then
    let s := s.modSeq q fun x => { x with awaited := none }
    match (s.seq q).state with
    | .sourceOpening => if isSuccess t then sourceOpened q s else enterLockedOut q s
    | .altClosing => alternateOutcome q t s
    | .returnSync => returnSyncOutcome q t s
    | .parallelFast => parallelOutcome q t s
    | .returnOpening => returnOpeningOutcome q t s
    | .returnClosing => returnClosingOutcome q t s
    | .deadBus => lostOutcome q t s
    | .starting | .preferred | .lossPending | .deadWait | .genWait | .onAlternate | .returnWatch | .parallelSoft
    | .lockedOut | .parked => s
  else s

/-! ## Positions and lockouts (R114, R116, R117, R124, R129, R133) -/

/-- The alternate of a section a slot is. -/
def altOfSlot (q : SeqId) (slot : Nat) : Option Alt :=
  if slot = tieSlot then some .tie else if slot = gmSlot q then some .gm else none

/-- R117: the INC opened unasked; a transfer begins in DEAD_WAIT. -/
def incOpened (q : SeqId) (s : State) : State :=
  enterDeadWait q (takeSnapshot q (s.modSeq q fun x => { x with inhibitHold := false }))

/-- R129: the INC opened during a closed-transition return. -/
def incLostInParallel (q : SeqId) (s : State) : State :=
  let s := (endUnloadOf q s).modSeq q fun x => { x with parallel := none, softLimit := none, awaited := none }
  match (s.seq q).alt with
  | some a => enterOnAlternate q a (busLive s q) s
  | none => s

/-- An open of this sequencer is the awaited request. -/
def awaitsOpen (s : State) (q : SeqId) : Bool :=
  match (s.seq q).awaited with
  | some w => w.type = .opn
  | none => false

/-- R116: states in which a close the sequencer did not ask for is taken up. -/
def unaskedState : SeqState → Bool
  | .deadWait | .genWait | .altClosing | .onAlternate | .returnWatch | .deadBus => true
  | _ => false

/-- R116: an alternate's close that is no unasked close. -/
def askedAlternate (s : State) (q : SeqId) (a : Alt) : Bool :=
  let x := s.seq q
  (decide (a = .tie) && decide (s.seqs.claim = some (otherSeq q))) ||
    (decide (x.alt = some a) &&
      (decide (x.state = .altClosing) || decide (x.state = .onAlternate) || decide (x.state = .returnWatch)))

/-- The INC reaches a position. -/
def incMoved (q : SeqId) (now : Pos) (s : State) : State :=
  let st := (s.seq q).state
  match now with
  | .opn =>
    if (st = .preferred ∨ st = .lossPending) ∧ awaitsOpen s q = false then incOpened q s
    else if st = .parallelFast ∨ st = .parallelSoft then incLostInParallel q s
    else s
  | .closed => if unaskedState st then unaskedClose q s else s
  | .travel | .faulty | .unknown => s

/-- An alternate of the section reaches a position. -/
def alternateMoved (q : SeqId) (a : Alt) (now : Pos) (s : State) : State :=
  let x := s.seq q
  match now with
  | .opn =>
    if x.alt = some a then
      if x.state = .onAlternate ∨ x.state = .returnWatch then loseAlternate q s
      else if x.state = .parallelFast then parallelDone q s
      else if x.state = .parallelSoft then parallelDone q (endUnloadOf q s)
      else s
    else s
  | .closed => if unaskedState x.state = true ∧ askedAlternate s q a = false then unaskedClose q s else s
  | .travel | .faulty | .unknown => s

/-- A published change of position. -/
def seqPosition (q : SeqId) (slot : Nat) (now : Pos) (s : State) : State :=
  if (s.seq q).state = .starting then
    if seqActive s q = true ∧ startKnown s q = true then derive q s else s
  else if slot = incSlot q then incMoved q now s
  else
    match altOfSlot q slot with
    | some a => alternateMoved q a now s
    | none => s

/-- R133: the bus lockout of the section is set. -/
def seqBusLocked (q : SeqId) (b : Bus) (s : State) : State :=
  let st := (s.seq q).state
  if secBus q = b ∧ st ≠ .starting ∧ st ≠ .parked ∧ st ≠ .lockedOut then enterLockedOut q s else s

/-- R133: a bus lockout of the section acts before an outcome that reaches the sequencer after it was set, so that the order
of the lockout and the outcome of a close it ended is of no consequence. -/
def heedLockout (q : SeqId) (s : State) : State := if secLocked s q then seqBusLocked q (secBus q) s else s

/-- R133, R115: the bus lockout of the section is cleared. DESIGN CHOICE (log 76): derivation is applied in LOCKED_OUT
however it was entered, on the failure of an open too. -/
def seqBusCleared (q : SeqId) (b : Bus) (s : State) : State :=
  if secBus q = b ∧ (s.seq q).state = .lockedOut then derive q s else s

/-! ## Measurement updates -/

/-- R113: the last healthy load, with an INVALID or negative P counting as 0. DESIGN CHOICE (log 77): it is taken in every
state of the sequencer, PARKED among them, and in CONFIG. -/
def takeLoad (q : SeqId) (s : State) : State :=
  if (s.voltMeas (utilPoint q)).raw = .healthy ∧ utilHealthy s q = true ∧ incPos s q = .closed then
    s.modSeq q fun x => { x with lastLoad := (max 0 (((s.curMeas (incSlot q)).power).getD 0)).toNat }
  else s

/-- R122, R132: the restore timer starts at the first update with the utility HEALTHY and stops at any other. -/
def runRestore (q : SeqId) (s : State) : State :=
  s.modSeq q fun x =>
    { x with restore :=
        if utilHealthy s q then
          (match x.restore with
           | some d => some d
           | none => some (s.now + secs (s.scheme q).restoreDelay))
        else none }

/-- R122: GEN_WAIT at an update. The restore timer starts or stops at every update, whatever the GM brings; a trial that
ends in DEAD_BUS leaves it as it then is (R132). -/
def updateGenWait (q : SeqId) (s : State) : State :=
  let s := runRestore q s
  if gmUsable s q = false then alternateFailed q .gm s
  else if gbusReady s q then closeGm q s
  else s

/-- R124: the alternate is lost at an update. -/
def lostAtUpdate (s : State) (q : SeqId) : Bool :=
  (s.seq q).busProven && !busLive s q && decide (s.pos (inUseSlot s q) = .closed)

/-- R124: ON_ALTERNATE at an update. -/
def updateOnAlternate (q : SeqId) (s : State) : State :=
  let s := if busLive s q then s.modSeq q fun x => { x with busProven := true, dead := none } else s
  if lostAtUpdate s q then loseAlternate q s
  else if utilHealthy s q then
    (setSeqState q .returnWatch (setReady q false s)).modSeq q fun x =>
      { x with retransfer := some (s.now + secs (s.scheme q).retransferDelay) }
  else s

/-- Back to ON_ALTERNATE from the return, with bus proven as it stands (R125, R126). -/
def backToAlternate (q : SeqId) (s : State) : State :=
  match (s.seq q).alt with
  | some a => enterOnAlternate q a (s.seq q).busProven s
  | none => s

/-- R124, R125: RETURN_WATCH at an update. DESIGN CHOICE (log 64): the loss of the alternate is tested before the loss of
the utility. -/
def updateReturnWatch (q : SeqId) (s : State) : State :=
  if lostAtUpdate s q then loseAlternate q s
  else if utilHealthy s q then s
  else backToAlternate q (setReady q false s)

/-- R126: RETURN_SYNC at an update. -/
def updateReturnSync (q : SeqId) (s : State) : State :=
  if utilHealthy s q = false ∧ inSyncWait s (incSlot q) = true then backToAlternate q (withdrawSeqClose q s) else s

/-- R128: the unload threshold in kW. -/
def unloadThreshold (s : State) (q : SeqId) : Int :=
  (sumOver ((presentGens s).filter (countedOnline s)) fun k => (s.genRow k).rating) *
    ((s.scheme q).softThreshold : Int) / 100

/-- R128, R159: GBUS total P of this update. -/
def gbusLoad (s : State) : Int := sumOver ((presentGens s).filter (countedOnline s)) (genLoad s)

/-- R128, R129: PARALLEL_SOFT at an update. -/
def updateParallelSoft (q : SeqId) (s : State) : State :=
  if utilHealthy s q = false then
    seqOpen q (incSlot q) (setSeqState q .sourceOpening (endUnloadOf q s))
  else if gbusLoad s ≤ unloadThreshold s q then endSoft q s
  else s

/-- R132: DEAD_BUS at an update. -/
def updateDeadBus (q : SeqId) (s : State) : State :=
  if (s.seq q).awaited.isSome then s else deadBusTrial q (s.scheme q).alternates (runRestore q s)

/-- The rules of each state at a measurement update. -/
def updateState (q : SeqId) (s : State) : State :=
  match (s.seq q).state with
  | .starting => if seqActive s q = true ∧ startKnown s q = true then derive q s else s
  | .preferred =>
    if utilHealthy s q then s
    else
      (setSeqState q .lossPending s).modSeq q fun x =>
        { x with loss := some (s.now + ms (s.scheme q).lossQualify) }
  | .lossPending =>
    if utilHealthy s q then enterPreferred q (s.modSeq q fun x => { x with inhibitHold := false }) else s
  | .deadWait => if runDown s q then trial q (s.scheme q).alternates s else s
  | .genWait => updateGenWait q s
  | .altClosing =>
    if (s.seq q).alt = some .tie ∧ (s.seq q).awaited.isNone = true ∧ (s.seq q).dead.isSome = true then
      seqClose q tieSlot s
    else s
  | .onAlternate => updateOnAlternate q s
  | .returnWatch => updateReturnWatch q s
  | .returnSync => updateReturnSync q s
  | .parallelSoft => updateParallelSoft q s
  | .returnOpening =>
    if (s.seq q).awaited.isNone = true ∧ (s.seq q).dead.isSome = true ∧ runDown s q = true then returnClose q s else s
  | .deadBus => updateDeadBus q s
  | .sourceOpening | .parallelFast | .returnClosing | .lockedOut | .parked => s

/-! ## Expiries (R114, R118, R120, R124 to R132) -/

/-- R118: the loss timer has expired, or the inhibit has ended with the hold set. -/
def lossExpired (q : SeqId) (s : State) : State :=
  let blocked := match q with
    | .seq1 => s.prot.block1
    | .seq2 => s.prot.block2
  if blocked then s.modSeq q fun x => { x with loss := some (s.now + ms (s.scheme q).lossQualify) }
  else if s.inhibitActive then s.modSeq q fun x => { x with inhibitHold := true, loss := none }
  else seqOpen q (incSlot q) (setSeqState q .sourceOpening (takeSnapshot q s))

/-- The dead timer has expired. -/
def deadExpired (q : SeqId) (s : State) : State :=
  let s := s.modSeq q fun x => { x with dead := none }
  match (s.seq q).state with
  | .deadWait => trial q (s.scheme q).alternates s
  | .altClosing => alternateFailed q .tie s
  | .onAlternate => loseAlternate q s
  | .returnOpening => returnClose q s
  | _ => s

/-- R125: the retransfer timer has expired. -/
def retransferExpired (q : SeqId) (s : State) : State :=
  let s := s.modSeq q fun x => { x with retransfer := none }
  if (s.scheme q).autoRetransfer = false ∨ s.inhibitActive = true then setReady q true s else beginReturn q s

/-- R122, R132: the restore timer has expired. -/
def restoreExpired (q : SeqId) (s : State) : State :=
  returnClose q (s.modSeq q fun x => { x with restore := none, alt := none })

/-- Whether the start-up timer has expired in STARTING in SERVICE (R114). -/
def startupDue (s : State) (q : SeqId) : Bool :=
  decide ((s.seq q).state = .starting) && s.inService && timerDue s (s.seq q).startup

/-- Whether the loss timer has expired in LOSS_PENDING. -/
def lossDue (s : State) (q : SeqId) : Bool :=
  decide ((s.seq q).state = .lossPending) && timerDue s (s.seq q).loss

/-- Whether the dead timer has expired in a state that started it. In ALT_CLOSING it bounds the retries only: once the
Arbiter has accepted the close of the TIE, its outcome is awaited (R123). -/
def deadDue (s : State) (q : SeqId) : Bool :=
  let st := (s.seq q).state
  (decide (st = .deadWait) || (decide (st = .altClosing) && (s.seq q).awaited.isNone) || decide (st = .onAlternate) ||
    decide (st = .returnOpening)) && timerDue s (s.seq q).dead

/-- Whether the retransfer timer has expired in RETURN_WATCH. -/
def retransferDue (s : State) (q : SeqId) : Bool :=
  decide ((s.seq q).state = .returnWatch) && timerDue s (s.seq q).retransfer

/-- Whether the parallel timer has expired in PARALLEL_FAST. -/
def parallelDue (s : State) (q : SeqId) : Bool :=
  decide ((s.seq q).state = .parallelFast) && timerDue s (s.seq q).parallel

/-- Whether the soft limit timer has expired in PARALLEL_SOFT. -/
def softDue (s : State) (q : SeqId) : Bool :=
  decide ((s.seq q).state = .parallelSoft) && timerDue s (s.seq q).softLimit

/-- Whether the restore timer has expired in GEN_WAIT, or in DEAD_BUS with no open awaited (R132). -/
def restoreDue (s : State) (q : SeqId) : Bool :=
  (decide ((s.seq q).state = .genWait) ||
    (decide ((s.seq q).state = .deadBus) && (s.seq q).awaited.isNone)) && timerDue s (s.seq q).restore

/-! ## The transfer inhibit (R136) -/

/-- R136: what an end of the inhibit brings to one sequencer. -/
def inhibitEnded (q : SeqId) (s : State) : State :=
  let x := s.seq q
  if x.state = .lossPending ∧ x.inhibitHold = true then
    lossExpired q (s.modSeq q fun x => { x with inhibitHold := false })
  else if x.state = .returnWatch ∧ x.retReady = true ∧ (s.scheme q).autoRetransfer = true then beginReturn q s
  else s

/-- R136: the inhibit ends. DESIGN CHOICE (log 66): a duration of 0 is an end of the inhibit, and is reported, whether or
not the inhibit was active. DESIGN CHOICE (log 86): SEQ1 acts and then SEQ2, before the messages of either are delivered. -/
def endInhibit (s : State) : State :=
  inhibitEnded .seq2 (inhibitEnded .seq1 (note .sequencer (s.modSeqs fun x => { x with inhibit := none })))

/-- R136: the inhibit is set for a duration in seconds, 0 ending it at once. -/
def setInhibit (seconds : Nat) (s : State) : State :=
  if seconds = 0 then endInhibit s
  else note .sequencer (s.modSeqs fun x => { x with inhibit := some (s.now + secs seconds) })

/-! ## Park, resume, abort and forced parks (R134, R135, R138) -/

/-- R134: PARK. -/
def parkSeq (q : SeqId) (s : State) : State :=
  let st := (s.seq q).state
  if st = .parked then s else if isStable st then enterParked q s else setPendingPark q true s

/-- R134: RESUME; none where it is refused with WRONG_STATE. DESIGN CHOICE (log 75): in STARTING it is refused (R114), with
the pending park set too. -/
def resumeSeq (q : SeqId) (s : State) : Option State :=
  let x := s.seq q
  if x.state = .starting then none
  else if x.state = .parked then
    if s.inConfig ∨ s.mgmt.mode = .blocked then none else some (derive q s)
  else if x.pendingPark then some (setPendingPark q false s)
  else if x.state = .lockedOut then some (derive q s)
  else none

/-- R135: ABORT; none where it is refused with WRONG_STATE. -/
def abortSeq (q : SeqId) (s : State) : Option State :=
  let st := (s.seq q).state
  if st = .starting ∨ st = .parked then none
  else some (derive q (releaseClaim q (endUnloadOf q (withdrawSeqClose q s))))

/-- R138: forced to PARKED by CONFIG; the claim is released and the soft unload ended. -/
def configPark (q : SeqId) (s : State) : State := endUnloadOf q (releaseClaim q (enterParked q s))

/-- R138: on leaving LOOP a sequencer that is not PARKED applies derivation. -/
def deriveUnparked (q : SeqId) (s : State) : State := if (s.seq q).state = .parked then s else derive q s

/-! ## Resets (R137) -/

/-- R137: a sequencer at the first moment of SERVICE: STARTING with its start-up timer of 10 s, or PARKED when it is
inactive. The residual threshold is formed with the Site Record (R109). -/
def seqAtService (s : State) (q : SeqId) : Seq :=
  { state := if seqActive s q then .starting else .parked
    startup := if seqActive s q then some (s.now + secs 10) else none
    residual := s.site.vn.getD 0 * (s.scheme q).residualPct / 100 }

/-! ## Start demand contributions (R112) -/

/-- R112: a sequencer's contribution is raised. -/
def contributes (s : State) (q : SeqId) : Bool :=
  let x := s.seq q
  match x.state with
  | .genWait | .deadBus | .parallelSoft => true
  | .altClosing | .onAlternate | .returnSync => decide (x.alt = some .gm)
  | .returnWatch => decide (s.pos (gmSlot q) = .closed)
  | .starting | .preferred | .lossPending | .sourceOpening | .deadWait | .parallelFast | .returnOpening
  | .returnClosing | .lockedOut | .parked => false

/-- R112, R146: the contributions as they stand, and the demand formed from them. -/
def refreshDemand (s : State) : State :=
  let one := contributes s .seq1
  let two := contributes s .seq2
  formDemand ((s.modSeq .seq1 fun x => { x with demand := one }).modSeq .seq2 fun x => { x with demand := two })

end Sys2Proof.Machine
end

