-- ==== Sys2Proof/Machine/Mail.lean ====
section
/-!
DEFINITION. The messages between blocks inside one command (log 4): each is delivered in the order it was posted, and
after each the start demand contributions (R112) and the STARTING flag (R184) are formed again.
-/

namespace Sys2Proof.Machine

/-- R184: STARTING is cleared when every sequencer that is not inactive has left it. -/
def refreshStarting (s : State) : State :=
  let left := fun q => !seqActive s q || decide ((s.seq q).state ≠ .starting)
  if s.mgmt.part = .service true ∧ left .seq1 = true ∧ left .seq2 = true then
    note .sequencer (s.modMgmt fun m => { m with part := .service false })
  else s

/-- What follows every act of a block: contributions, demand, STARTING. -/
def settle (s : State) : State := refreshStarting (refreshDemand s)

/-- One message reaches the blocks it is for. DESIGN CHOICE (log 86): SEQ1 takes it before SEQ2, and SEQ2 before the
Paralleling Unit. -/
def deliver (m : Msg) (s : State) : State :=
  match m with
  | .told (.seq q) slot t tag r => seqTold q slot t tag r (heedLockout q s)
  | .told .par slot t tag r => parTold slot t tag r s
  | .told .prot _ _ _ _ | .told (.bf _) _ _ _ _ | .told (.manager _ _) _ _ _ _ => s
  | .closeOutcome slot t => otherClose slot t s
  | .posChanged n was now => parPosition n was now (seqPosition .seq2 n now (seqPosition .seq1 n now s))
  | .busLockSet b => seqBusLocked .seq2 b (seqBusLocked .seq1 b s)
  | .busLockCleared b => seqBusCleared .seq2 b (seqBusCleared .seq1 b s)

/-- Up to `fuel` messages are delivered, oldest first. -/
def drain : Nat → State → State
  | 0, s => s
  | fuel + 1, s =>
    match s.mail with
    | [] => s
    | m :: rest => drain fuel (settle (deliver m { s with mail := rest }))

/-- The end of a block's act: every message it caused is delivered (log 4). -/
def finish (s : State) : State := drain 4096 (settle s)

end Sys2Proof.Machine
end

