-- ==== Sys2Proof/Machine/Intake.lean ====
section
/-!
DEFINITION. The Intake Unit (chapter 2): arrival of sample sets, stream states, markers, the MAIN and CHECK merge,
the processing of an index up to its measurement update, and point quality.
-/

namespace Sys2Proof.Machine

/-- The stream record of a Subscription Table row. -/
def State.stream (s : State) (r : Nat) : StreamRec := s.intake.streams.getD r {}

/-- A stream record replaced by `f` of it. -/
def modStream (r : Nat) (f : StreamRec → StreamRec) (s : State) : State :=
  s.modIntake fun i => { i with streams := modAt i.streams r f }

/-- The Subscription Table row of an enabled row number. -/
def State.sub (s : State) (r : Nat) : SubRow := s.tbl.subs.getD r {}

/-- R6: the enabled row a SAMPLE frame's station and stream match. -/
def subscriptionOf (s : State) (src stream : Nat) : Option Nat :=
  (List.range 48).find? fun r =>
    (s.sub r).enabled && decide ((s.sub r).station = src) && decide ((s.sub r).stream = stream)

/-! ## Arrival (R17 to R20) -/

/-- A buffer holds a set for an index. -/
def buffered (l : List SampleSet) (j : Nat) : Bool := l.any fun x => decide (x.index = j)

/-- R18: handling of a set while the processing index is unset. -/
def storeEarly (x : SampleSet) (r : StreamRec) : StreamRec :=
  match r.latest with
  | none => { r with buffer := [x], latest := some x.index, arrRun := 1 }
  | some m =>
    if buffered r.buffer x.index then r
    else
      let ahead := aheadBy x.index m
      if 1 ≤ ahead ∧ ahead ≤ 32767 then
        { r with buffer := (r.buffer.filter fun y => decide (aheadBy x.index y.index ≤ 15)) ++ [x]
                 latest := some x.index
                 arrRun := if ahead = 1 then r.arrRun + 1 else 1 }
      else if 1 ≤ aheadBy m x.index ∧ aheadBy m x.index ≤ 15 then { r with buffer := r.buffer ++ [x] }
      else r

/-- R20: handling of a set once the processing index is `k`. -/
def storeSet (k : Nat) (x : SampleSet) (r : StreamRec) : StreamRec :=
  if aheadBy x.index k ≤ 15 ∧ buffered r.buffer x.index = false then { r with buffer := r.buffer ++ [x] } else r

/-- R19: what a stream keeps when the index is set. -/
def trimStream (k : Nat) (r : StreamRec) : StreamRec :=
  { r with buffer := r.buffer.filter fun y => decide (aheadBy y.index k ≤ 15)
           delRun := 0, subRun := 0, outcomes := [], latest := none, arrRun := 0 }

/-- R19: the first stream to be GOOD sets the processing index. -/
def setIndex (r k : Nat) (s : State) : State :=
  note .stream <| (modStream r (fun x => { x with state := .good }) s).modIntake fun i =>
    { i with streams := i.streams.map (trimStream k), k := some k, count := 0, filled := 0, lastProc := some s.now }

/-- R17 to R20: a sample set with the expected channel count arrives. -/
def arrive (r : Nat) (x : SampleSet) (s : State) : State :=
  let s := if (s.stream r).state = .idle then note .stream (modStream r (fun y => { y with state := .acquiring }) s)
    else s
  match s.intake.k with
  | some k => modStream r (storeSet k x) s
  | none =>
    let s := modStream r (storeEarly x) s
    match (s.stream r).latest with
    | some m => if 32 ≤ (s.stream r).arrRun then setIndex r m s else s
    | none => s

/-! ## Conditions of processing (R21, R22) -/

/-- R22: the fallback time in microseconds. -/
def fallbackTime (s : State) : Nat := if s.fNom = 60 then 2083 else 2500

/-- A stream that holds back completion. -/
def awaited (r : StreamRec) : Bool := r.state = .acquiring || r.state = .good || r.state = .degraded

/-- R21 condition 1. -/
def complete (s : State) (k : Nat) : Bool :=
  s.intake.streams.any awaited && s.intake.streams.all fun r => !awaited r || buffered r.buffer k

/-- R21 condition 2. -/
def lookAhead (s : State) (k : Nat) : Bool :=
  s.intake.streams.any fun r => r.buffer.any fun x => decide (4 ≤ aheadBy x.index k) && decide (aheadBy x.index k ≤ 15)

/-- R21 condition 3: the fallback time has run out. -/
def fallbackDue (s : State) : Bool :=
  match s.intake.k, s.intake.lastProc with
  | some _, some t => s.blocksRun && decide (t + fallbackTime s ≤ s.now)
  | _, _ => false

/-- R21: index k is to be processed. -/
def processable (s : State) : Bool :=
  match s.intake.k with
  | some k => complete s k || lookAhead s k || fallbackDue s
  | none => false

/-! ## Step 1 and 2 of R23: streams -/

/-- R26, R27: a channel value after marker handling. -/
def replaceMarker (last v : Int) : Int :=
  if v = -32768 then last
  else if v = -32767 then (if 0 ≤ last then 32767 else -32767)
  else v

/-- A stream after step 1 of R23, with the channels whose delivered value was MISSING or CLIPPED. -/
structure StreamStep where
  stream : StreamRec
  missing : List Bool := []
  clipped : List Bool := []
  deriving DecidableEq, Repr

/-- The last values of eight channels after a delivered set. -/
def takeValues (last values : List Int) : List Int :=
  (List.range 8).map fun i =>
    match values[i]? with
    | some v => replaceMarker (last.getD i 0) v
    | none => last.getD i 0

/-- R24: the state after an outcome; runs already advanced, `outcomes` those before k. -/
def nextStreamState (delivered : Bool) (r : StreamRec) : StreamState :=
  if delivered then
    if r.delRun = 32 ∧ (r.state = .acquiring ∨ r.state = .degraded ∨ r.state = .lost) then .good else r.state
  else if r.subRun = 32 ∧ r.state ≠ .lost then .lost
  else if r.state = .good ∧ false ∈ r.outcomes then .degraded
  else r.state

/-- R24: runs, state and outcome history of a stream. -/
def advanceStream (delivered : Bool) (r : StreamRec) : StreamRec :=
  let r := if delivered then { r with delRun := min 32 (r.delRun + 1), subRun := 0 }
    else { r with subRun := min 32 (r.subRun + 1), delRun := 0 }
  { r with state := nextStreamState delivered r, outcomes := (delivered :: r.outcomes).take 7 }

/-- R23 steps 1 and 2 for one stream. -/
def stepStream (k : Nat) (r : StreamRec) : StreamStep :=
  if r.state = .idle then { stream := r }
  else
    match r.buffer.find? fun x => decide (x.index = k) with
    | some x =>
      { stream := advanceStream true
          { r with buffer := r.buffer.filter fun y => decide (y.index ≠ k)
                   last := takeValues r.last x.values, sync := x.sync }
        missing := x.values.map fun v => decide (v = -32768)
        clipped := x.values.map fun v => decide (v = -32767) }
    | none => { stream := advanceStream false r }

/-! ## Sources and merge (R28 to R31) -/

/-- The used Channel Map rows of enabled subscriptions, with their numbers (R16). -/
def usedRows (t : Tables) : List (Nat × ChanRow) :=
  (t.chans.zipIdx.filter fun x => x.1.used && (t.subs.getD (x.2 / 8) {}).enabled).map fun x => (x.2, x.1)

/-- A source of a point phase at one processing (R28). -/
structure Source' where
  usable : Bool
  clean : Bool
  value : Int
  degraded : Bool
  sync : Bool
  missing : Bool
  clipped : Bool
  scale : Nat
  limit : Nat
  deriving DecidableEq, Repr

/-- R28: the source a Channel Map row gives. -/
def sourceAt (steps : List StreamStep) (i : Nat) (row : ChanRow) : Source' :=
  let st := steps.getD (i / 8) { stream := {} }
  let miss := st.missing.getD (i % 8) false
  let clip := st.clipped.getD (i % 8) false
  { usable := decide (st.stream.state = .good) || decide (st.stream.state = .degraded)
    clean := !miss && !clip, value := st.stream.last.getD (i % 8) 0
    degraded := decide (st.stream.state = .degraded), sync := st.stream.sync
    missing := miss, clipped := clip, scale := row.scale, limit := row.divLimit }

/-- The source of a role of a point phase. -/
def findSource (steps : List StreamStep) (rows : List (Nat × ChanRow)) (pt : PointId) (ph : Phase) (role : Role) :
    Option Source' :=
  (rows.find? fun x => decide (x.2.point = pt ∧ x.2.phase = ph ∧ x.2.role = role)).map fun x => sourceAt steps x.1 x.2

/-- MAIN and CHECK of a point phase. -/
structure Sources where
  main : Option Source'
  check : Option Source'
  deriving DecidableEq, Repr

/-- The sources of a point phase. -/
def sourcesOf (steps : List StreamStep) (rows : List (Nat × ChanRow)) (pt : PointId) (ph : Phase) : Sources :=
  ⟨findSource steps rows pt ph .main, findSource steps rows pt ph .check⟩

/-- A merged value: the value, whether there is a usable source, the comparison made (agreement or divergence), and
the common scale. -/
structure Merged where
  value : Int := 0
  has : Bool := false
  cmp : Option Bool := none
  scale : Nat := 1
  deriving DecidableEq, Repr

/-- R28, R31: limited to −32,767 to +32,767. -/
def limitCount (x : Int) : Int := clampInt (-32767) 32767 x

/-- R28: a value converted from one scale to another. -/
def convertScale (v : Int) (fromScale toScale : Nat) : Int := (v * (fromScale : Int)).tdiv (toScale : Int)

/-- R29: the value of two usable and clean sources, and whether they agree. -/
def mergeTwo (isCurrent : Bool) (limit : Nat) (a b : Int) : Int × Bool :=
  if (a - b).natAbs ≤ limit then ((a + b).tdiv 2, true)
  else if isCurrent then (if b.natAbs < a.natAbs then b else a, false)
  else (if a.natAbs < b.natAbs then b else a, false)

/-- R29: the value of a mapped phase. -/
def mergePhase (isCurrent : Bool) (x : Sources) : Merged :=
  match x.main with
  | none => {}
  | some m =>
    let a := m.value
    match x.check with
    | none => if m.usable then { value := a, has := true, scale := m.scale } else { scale := m.scale }
    | some c =>
      let b := limitCount (convertScale c.value c.scale m.scale)
      match m.usable, c.usable with
      | true, true =>
        if m.clean && c.clean then
          let r := mergeTwo isCurrent m.limit a b
          { value := r.1, has := true, cmp := some r.2, scale := m.scale }
        else if c.clean then { value := b, has := true, scale := m.scale }
        else { value := a, has := true, scale := m.scale }
      | true, false => { value := a, has := true, scale := m.scale }
      | false, true => { value := b, has := true, scale := m.scale }
      | false, false => { scale := m.scale }

/-- R31: the sum of a derived residual before it is limited. -/
def residualSum (a b c : Merged) : Int :=
  a.value + convertScale b.value b.scale a.scale + convertScale c.value c.scale a.scale

/-- R31: a derived residual, and whether its sum had to be limited. -/
def deriveResidual (a b c : Merged) : Merged × Bool :=
  if a.has && b.has && c.has then
    let sum := residualSum a b c
    ({ value := limitCount sum, has := true, scale := a.scale }, decide (limitCount sum ≠ sum))
  else ({ scale := a.scale }, false)

/-- A marker in the sources of a phase. -/
def anyMissing (x : Sources) : Bool := x.main.any (fun y => y.missing) || x.check.any fun y => y.missing

/-- A CLIPPED marker in the sources of a phase. -/
def anyClipped (x : Sources) : Bool := x.main.any (fun y => y.clipped) || x.check.any fun y => y.clipped

/-- R25: a hold count after one processing. -/
def nextHold (marked : Bool) (n : Nat) : Nat := if marked then 32 else n - 1

/-- R30: runs and flag after a comparison. -/
def compareRuns (cmp : Option Bool) (p : PhaseRec) : PhaseRec :=
  match cmp with
  | none => p
  | some true =>
    let run := min 32 (p.agrRun + 1)
    { p with agrRun := run, divRun := 0, divergent := if run = 32 then false else p.divergent }
  | some false =>
    let run := min 8 (p.divRun + 1)
    { p with divRun := run, agrRun := 0, divergent := if run = 8 then true else p.divergent }

/-- R53: a total loss of sample data, in which no stream has a set to deliver. -/
def totalLoss (s : State) : Bool := s.intake.streams.all fun r => r.buffer.isEmpty

/-- R36, R53: the values RMS is formed from after one processing: those of the history, and in a total loss those of the
last delivered cycle. DESIGN CHOICE (log 59): a phase without a usable source still takes the 0 of R36. -/
def nextLevel (lost : Bool) (m : Merged) (hist level : List Int) : List Int :=
  if lost then (if m.has then level else (0 :: level).take 32) else hist

/-- R23 steps 3 and 4 for one phase. -/
def stepPhase (lost missing clipped : Bool) (m : Merged) (p : PhaseRec) : PhaseRec :=
  let p := compareRuns m.cmp p
  let hist := (m.value :: p.hist).take 32
  { p with missHold := nextHold missing p.missHold, clipHold := nextHold clipped p.clipHold
           hist := hist, level := nextLevel lost m hist p.level }

/-- R23 steps 3 and 4 for one point; phase N of a voltage point has no channel and keeps zeros. -/
def stepPoint (lost : Bool) (steps : List StreamStep) (rows : List (Nat × ChanRow)) (pt : PointId)
    (x : Four PhaseRec) : Four PhaseRec :=
  let isCurrent := match pt with
    | .cur _ => true
    | .volt _ => false
  let sa := sourcesOf steps rows pt .a
  let sb := sourcesOf steps rows pt .b
  let sc := sourcesOf steps rows pt .c
  let sn := sourcesOf steps rows pt .n
  let ma := mergePhase isCurrent sa
  let mb := mergePhase isCurrent sb
  let mc := mergePhase isCurrent sc
  let n :=
    if sn.main.isSome then stepPhase lost (anyMissing sn) (anyClipped sn) (mergePhase isCurrent sn) x.n
    else if isCurrent then
      let r := deriveResidual ma mb mc
      stepPhase lost (anyMissing sa || anyMissing sb || anyMissing sc)
        (anyClipped sa || anyClipped sb || anyClipped sc || r.2) r.1 x.n
    else x.n
  ⟨stepPhase lost (anyMissing sa) (anyClipped sa) ma x.a, stepPhase lost (anyMissing sb) (anyClipped sb) mb x.b,
    stepPhase lost (anyMissing sc) (anyClipped sc) mc x.c, n⟩

/-! ## Point quality (R32) -/

/-- The worse of two qualities. -/
def worse (x y : Quality) : Quality :=
  match x, y with
  | .invalid, _ | _, .invalid => .invalid
  | .degraded, _ | _, .degraded => .degraded
  | .suspect, _ | _, .suspect => .suspect
  | .good, .good => .good

/-- The usable sources of a phase. -/
def usable (x : Sources) : List Source' := ([x.main, x.check].filterMap id).filter fun y => y.usable

/-- R32: what the sources of a phase give, holds and flags apart. -/
def sourceQuality (x : Sources) : Quality :=
  match usable x with
  | [] => .invalid
  | [y] => if y.degraded then .degraded else if y.sync then .good else .suspect
  | l => if l.all fun y => y.sync then .good else .suspect

/-- R32: what the MISSING hold and the DIVERGENT flag of a phase give. -/
def flagQuality (p : PhaseRec) : Quality :=
  if 0 < p.missHold then .degraded else if p.divergent then .suspect else .good

/-- R32: the quality of a point. -/
def pointQuality (steps : List StreamStep) (rows : List (Nat × ChanRow)) (pt : PointId) (x : Four PhaseRec) :
    Quality :=
  let q := fun ph => sourceQuality (sourcesOf steps rows pt ph)
  let abc := worse (worse (worse (q .a) (flagQuality x.a)) (worse (q .b) (flagQuality x.b)))
    (worse (q .c) (flagQuality x.c))
  match pt with
  | .volt _ => abc
  | .cur _ =>
    if (sourcesOf steps rows pt .n).main.isSome then worse abc (worse (q .n) (flagQuality x.n))
    else worse abc (flagQuality x.n)

/-! ## Processing an index (R23) -/

/-- R23 steps 1 to 5. -/
def processOne (k : Nat) (s : State) : State :=
  let lost := totalLoss s
  let steps := s.intake.streams.map (stepStream k)
  let rows := usedRows s.tbl
  let changed := (s.intake.streams.zip steps).any fun x => decide (x.1.state ≠ x.2.stream.state)
  let s := if changed then note .stream s else s
  s.modIntake fun i =>
    { i with streams := steps.map fun x => x.stream
             cur := i.cur.mapIdx fun n x => stepPoint lost steps rows (.cur n) x
             volt := i.volt.mapIdx fun n x => stepPoint lost steps rows (.volt n) x
             k := some ((k + 1) % 65536), count := (i.count + 1) % 4294967296
             filled := min 32 (i.filled + 1), lastProc := some s.now }

/-- R32 at a measurement update: the streams are those after step 2 of this processing. -/
def refreshQuality (s : State) : State :=
  let steps := s.intake.streams.map fun r => ({ stream := r } : StreamStep)
  let rows := usedRows s.tbl
  s.modIntake fun i =>
    { i with curQ := i.cur.mapIdx fun n x => pointQuality steps rows (.cur n) x
             voltQ := i.volt.mapIdx fun n x => pointQuality steps rows (.volt n) x }

/-! ## CLEAR and resets (R30, R33) -/

/-- R30: CLEAR with the DIVERGENCE subset, for one phase. -/
def clearDivergence (p : PhaseRec) : PhaseRec := { p with divergent := false, divRun := 0, agrRun := 0 }

/-- A function applied to each phase. -/
def mapFour {α β : Type} (f : α → β) (x : Four α) : Four β := ⟨f x.a, f x.b, f x.c, f x.n⟩

/-- R30: every DIVERGENT flag is cleared and both runs of every phase become 0. -/
def clearAllDivergence (s : State) : State :=
  s.modIntake fun i => { i with cur := i.cur.map (mapFour clearDivergence), volt := i.volt.map (mapFour clearDivergence) }

/-! ## The index-time events of R24, R25 and R30 on their own -/

/-- The record of a point phase. -/
def phaseRec (s : State) (pt : PointId) (ph : Phase) : PhaseRec :=
  match pt with
  | .cur n => (s.intake.cur.getD n ⟨{}, {}, {}, {}⟩).get ph
  | .volt n => (s.intake.volt.getD n ⟨{}, {}, {}, {}⟩).get ph

/-- The record of a point phase replaced by `f` of it. -/
def modPhaseRec (pt : PointId) (ph : Phase) (f : PhaseRec → PhaseRec) (s : State) : State :=
  match pt with
  | .cur n => s.modIntake fun i => { i with cur := modAt i.cur n fun x => x.set ph (f (x.get ph)) }
  | .volt n => s.modIntake fun i => { i with volt := modAt i.volt n fun x => x.set ph (f (x.get ph)) }

/-- R24: a stream changes state. -/
def setStreamState (r : Nat) (st : StreamState) (s : State) : State :=
  note .stream (modStream r (fun x => { x with state := st }) s)

end Sys2Proof.Machine
end

