-- ==== Sys2Proof/Machine/Measure.lean ====
section
/-!
DEFINITION. The Measurement Unit (chapter 3): RMS, real power, direction, SATURATED flags, crossings and frequency,
angle and slip, and the voltage condition qualifiers, all of one measurement update.
-/

namespace Sys2Proof.Machine

/-! ## RMS (R36, R37) -/

/-- R36: RMS in counts of 32 values. -/
def rmsCounts (l : List Int) : Nat := floorSqrt ((l.foldl (fun acc x => acc + x.natAbs * x.natAbs) 0) / 32)

/-- R36: a published RMS. -/
def publishRms (counts scale : Nat) : Nat := min 65535 (counts * scale / 1000)

/-- The common scale of a mapped phase (R16). -/
def scaleOf (rows : List (Nat × ChanRow)) (pt : PointId) (ph : Phase) : Option Nat :=
  (rows.find? fun x => decide (x.2.point = pt ∧ x.2.phase = ph ∧ x.2.role = .main)).map fun x => x.2.scale

/-- R36, R53: the RMS of a phase, which stays in a total loss of samples; a phase without a source has only zeros. -/
def phaseRms (rows : List (Nat × ChanRow)) (pt : PointId) (ph : Phase) (p : PhaseRec) : Nat :=
  match scaleOf rows pt ph with
  | some sc => publishRms (rmsCounts p.level) sc
  | none => 0

/-- R37: a phase B or C value brought to phase A's scale. -/
def toScaleA (v : Int) (own scaleA : Option Nat) : Int :=
  match own with
  | none => 0
  | some b => convertScale v b (scaleA.getD Config.unmappedScale)

/-- R37: the residual samples of a voltage point, newest first. -/
def residualSamples (rows : List (Nat × ChanRow)) (pt : PointId) (x : Four PhaseRec) : List Int :=
  let sa := scaleOf rows pt .a
  let sb := scaleOf rows pt .b
  let sc := scaleOf rows pt .c
  (List.range 32).map fun i =>
    limitCount (x.a.hist.getD i 0 + toScaleA (x.b.hist.getD i 0) sb sa + toScaleA (x.c.hist.getD i 0) sc sa)

/-- R37, R53: the residual RMS of a voltage point. -/
def residualVolts (rows : List (Nat × ChanRow)) (pt : PointId) (x : Four PhaseRec) : Nat :=
  let counts := rmsCounts (residualSamples rows pt (mapFour (fun p => { p with hist := p.level }) x))
  if counts = 0 then 0 else publishRms counts ((scaleOf rows pt .a).getD Config.unmappedScale)

/-- R31, R37, R53: the residual RMS of a current point, mapped or derived on phase A's scale. -/
def residualAmps (rows : List (Nat × ChanRow)) (pt : PointId) (x : Four PhaseRec) : Nat :=
  match scaleOf rows pt .n with
  | some sc => publishRms (rmsCounts x.n.level) sc
  | none =>
    match scaleOf rows pt .a with
    | some sc => publishRms (rmsCounts x.n.level) sc
    | none => 0

/-! ## Real power and direction (R38 to R41) -/

/-- R38, R41: truncated mean of the products of two histories. -/
def productMean (v i : List Int) : Int :=
  (((v.zip i).foldl (fun acc x => acc + x.1 * x.2) 0) : Int).tdiv 32

/-- R41: the torque of the residual. -/
def residualTorque (vres i : List Int) : Int :=
  (((vres.zip i).foldl (fun acc x => acc - x.1 * x.2) 0) : Int).tdiv 32

/-- The product of a voltage scale and a current scale of a phase; 0 where either phase has no source. -/
def scaleProduct (rows : List (Nat × ChanRow)) (v i : PointId) (ph : Phase) : Int :=
  match scaleOf rows v ph, scaleOf rows i ph with
  | some x, some y => ((x * y : Nat) : Int)
  | _, _ => 0

/-- R38: P in kW before quality is looked at. -/
def powerOf (rows : List (Nat × ChanRow)) (v i : PointId) (x y : Four PhaseRec) : Int :=
  let term := fun ph => productMean (x.get ph).hist (y.get ph).hist * scaleProduct rows v i ph
  clampInt (-2000000) 2000000 ((term .a + term .b + term .c).tdiv 1000000000)

/-- R39, R40: direction published and memory after an update. -/
def formDirection (volts limit : Nat) (torque : Int) (m : DirMem) : Dir × DirMem :=
  if limit ≤ volts then
    if 0 < torque then (.forward, ⟨some .forward, 0⟩)
    else if torque < 0 then (.reverse, ⟨some .reverse, 0⟩)
    else (.unknown, ⟨none, 0⟩)
  else if m.lowRun < 8 then (m.firm.getD .unknown, { m with lowRun := m.lowRun + 1 })
  else (.unknown, { m with firm := none })

/-- The four directions of a current point with a reference (R39 to R41). -/
def formDirections (rows : List (Nat × ChanRow)) (thr : Thresholds) (ref : PointId) (refRms : Four Nat)
    (x y : Four PhaseRec) (m : Four DirMem) : Four (Dir × DirMem) :=
  let phase := fun ph => formDirection (refRms.get ph) thr.dir10 (productMean (x.get ph).hist (y.get ph).hist) (m.get ph)
  ⟨phase .a, phase .b, phase .c,
    formDirection refRms.n thr.dir2 (residualTorque (residualSamples rows ref x) y.n.hist) m.n⟩

/-- R42: SATURATED from the CLIPPED hold. -/
def saturated (p : PhaseRec) : Bool := decide (0 < p.clipHold)

/-- R36 to R42: the new entry of a current point. `volts` are the new RMS values of the voltage points. -/
def measureCurrent (s : State) (rows : List (Nat × ChanRow)) (volts : List (Four Nat)) (n : Nat) (m : CurMeas) :
    CurMeas :=
  let pt := PointId.cur n
  let none4 : Four PhaseRec := ⟨{}, {}, {}, {}⟩
  let y := s.intake.cur.getD n none4
  let q := s.intake.curQ.getD n .invalid
  let base : CurMeas :=
    { m with quality := q, sat := mapFour saturated y
             rms := ⟨phaseRms rows pt .a y.a, phaseRms rows pt .b y.b, phaseRms rows pt .c y.c,
               residualAmps rows pt y⟩ }
  match (s.brk n).present, (s.brk n).vref with
  | true, some v =>
    let ref := PointId.volt v
    let x := s.intake.volt.getD v none4
    let d := formDirections rows s.meas.thr ref (volts.getD v ⟨0, 0, 0, 0⟩) x y m.mem
    { base with
      power := if q = .invalid ∨ s.intake.voltQ.getD v .invalid = .invalid then none
        else some (powerOf rows ref pt x y)
      dir := mapFour (fun z => z.1) d
      mem := mapFour (fun z => z.2) d }
  | _, _ => { base with power := none, dir := ⟨.unknown, .unknown, .unknown, .unknown⟩ }

/-! ## Crossings and frequency (R43 to R46) -/

/-- Crossing times are held modulo 2^40. -/
def timeModulus : Nat := 2 ^ 40

/-- A difference of crossing times, read as a count 0 to 2^40 − 1. -/
def timeDiff (x y : Nat) : Nat := (x + timeModulus - y) % timeModulus

/-- A difference of crossing times, read as a signed count −2^39 to 2^39 − 1. -/
def signedDiff (x y : Nat) : Int :=
  if timeDiff x y < 2 ^ 39 then (timeDiff x y : Int) else (timeDiff x y : Int) - (timeModulus : Int)

/-- R43: the crossing of the pair whose newer sample lies `j` back from the newest, at processed count `c`, held modulo
2^40. DESIGN CHOICE (log 57): with s[n] = 0 the formula of R43 gives a fraction of 256 where its text has 0 to 255; the
formula is kept, and the crossing falls on sample n itself. -/
def crossingAt (c j : Nat) (hist : List Int) : Option Nat :=
  let prev := hist.getD (j + 1) 0
  let next := hist.getD j 0
  if prev < 0 ∧ 0 ≤ next then
    some (((c + 4294967296 - j - 1) % 4294967296 * 256 + ((-prev * 256) / (next - prev)).toNat) % timeModulus)
  else none

/-- R44: a crossing is offered; times newest first. -/
def offerCrossing (t : Nat) (m : VoltMeas) : VoltMeas :=
  let far := match m.times with
    | [] => true
    | newest :: _ => decide (2048 ≤ timeDiff t newest)
  if far then { m with times := (t :: m.times).take 5, accepted := min 5 (m.accepted + 1) } else m

/-- R43: the 8 pairs of an update, oldest first; `filled` samples were formed since the index was set. -/
def offerPairs (c filled : Nat) (hist : List Int) (m : VoltMeas) : VoltMeas :=
  [7, 6, 5, 4, 3, 2, 1, 0].foldl (fun m j =>
    if j + 1 < filled then
      match crossingAt c j hist with
      | some t => offerCrossing t m
      | none => m
    else m) m

/-- R46: the newest crossing lies more than 64 indices back. -/
def trackerStale (c : Nat) (m : VoltMeas) : Bool :=
  match m.times with
  | [] => false
  | newest :: _ => decide (16384 < timeDiff (c * 256 % timeModulus) newest)

/-- A tracker emptied. -/
def emptyTracker (m : VoltMeas) : VoltMeas := { m with times := [], accepted := 0 }

/-- R44: the tracker is valid at this update. DESIGN CHOICE (log 58): its 10 % of Vn is the threshold of direction, rounded
down to whole volts as R48 forms that one. -/
def trackerValid (thr : Thresholds) (m : VoltMeas) : Bool := decide (m.quality ≠ .invalid) && decide (thr.dir10 ≤ m.rms.a)

/-- R45: sum4, formed with five crossings held. -/
def sum4Of (m : VoltMeas) : Option Nat :=
  if m.accepted = 5 then
    match m.times with
    | [t0, _, _, _, t4] => some (timeDiff t0 t4)
    | _ => none
  else none

/-- R45: the frequency in mHz, `none` when INVALID. -/
def frequencyOf (fNom : Nat) (m : VoltMeas) : Option Nat :=
  match sum4Of m with
  | some d =>
    if d = 0 then none
    else
      let f := 4 * 256 * 32 * fNom * 1000 / d
      if 40000 ≤ f ∧ f ≤ 70000 then some f else none
  | none => none

/-- R43 to R46: the tracker of a voltage point at an update, quality and RMS already new. -/
def trackCrossings (s : State) (hist : List Int) (m : VoltMeas) : VoltMeas :=
  let m :=
    if trackerValid s.meas.thr m then
      offerPairs s.intake.count s.intake.filled hist (if trackerStale s.intake.count m then emptyTracker m else m)
    else emptyTracker m
  { m with freq := frequencyOf s.fNom m, sum4 := sum4Of m, latest := m.times.head? }

/-! ## Qualifiers (R49, R50) -/

/-- A condition on every phase RMS A, B and C. -/
def everyPhase (r : Four Nat) (p : Nat → Bool) : Bool := p r.a && p r.b && p r.c

/-- R49: the raw class. -/
def rawClass (thr : Thresholds) (m : VoltMeas) : VClass :=
  if m.quality = .invalid then .indeterminate
  else if everyPhase m.rms (fun x => decide (x < thr.dead)) then .dead
  else if everyPhase m.rms (fun x => decide (thr.healthyLo ≤ x) && decide (x ≤ thr.healthyHi)) &&
      m.freq.any (fun f => decide (thr.freqLo ≤ f) && decide (f ≤ thr.freqHi)) then .healthy
  else if everyPhase m.rms (fun x => decide (thr.live ≤ x)) then .live
  else .indeterminate

/-- R50: the Site Record count of a class. -/
def qualifierCount (site : SiteRow) : VClass → Nat
  | .dead => site.qDead
  | .indeterminate => site.qIndet
  | .live => site.qLive
  | .healthy => site.qHealthy

/-- R50: run and declared state after an update. -/
def qualify (site : SiteRow) (new : VClass) (m : VoltMeas) : VoltMeas :=
  let run := if new = m.raw then min 255 (m.run + 1) else 1
  { m with raw := new, run := run, declared := if qualifierCount site new ≤ run then new else m.declared }

/-- R36, R37: quality and RMS of a voltage point. -/
def measureVolts (s : State) (rows : List (Nat × ChanRow)) (v : Nat) (m : VoltMeas) : VoltMeas :=
  let pt := PointId.volt v
  let x := s.intake.volt.getD v ⟨{}, {}, {}, {}⟩
  { m with quality := s.intake.voltQ.getD v .invalid
           rms := ⟨phaseRms rows pt .a x.a, phaseRms rows pt .b x.b, phaseRms rows pt .c x.c,
             residualVolts rows pt x⟩ }

/-- R43 to R50: the rest of a voltage point's entry. -/
def finishVolts (s : State) (v : Nat) (m : VoltMeas) : VoltMeas :=
  let m := trackCrossings s (s.intake.volt.getD v ⟨{}, {}, {}, {}⟩).a.hist m
  qualify s.site (rawClass s.meas.thr m) m

/-! ## Angle and slip (R47) -/

/-- R47: angle and slip of an incoming point against a reference. -/
def angleSlip (ref inc : VoltMeas) : Option (Int × Int) :=
  match ref.freq, inc.freq, ref.latest, inc.latest, ref.sum4 with
  | some fx, some fy, some tx, some ty, some d =>
    some (wrapAngle ((signedDiff ty tx * 36000).tdiv ((d / 4 : Nat) : Int)), (fy : Int) - (fx : Int))
  | _, _, _, _, _ => none

/-- R47: the pairs named by the channels in use are handed to the Paralleling Unit. -/
def handPairs (s : State) : State :=
  s.modPar fun p =>
    { p with channels := p.channels.map fun c =>
        c.map fun ch => { ch with pair := angleSlip (s.voltMeas ch.ref) (s.voltMeas ch.inc) } }

/-! ## The update (R35) -/

/-- R35: all quantities are formed and the Measurement Table is replaced. -/
def measure (s : State) : State :=
  let rows := usedRows s.tbl
  let volt := s.meas.volt.mapIdx fun v m => measureVolts s rows v m
  let cur := s.meas.cur.mapIdx fun n m => measureCurrent s rows (volt.map fun m => m.rms) n m
  let volt := volt.mapIdx fun v m => finishVolts s v m
  handPairs (s.modMeas fun m => { m with cur := cur, volt := volt })

/-- R48: the thresholds formed when a Site Record comes into force. -/
def formThresholds (site : SiteRow) : Thresholds :=
  let vn := site.vn.getD 0
  let nominal := site.fNom.getD 50 * 1000
  { dead := vn * site.deadPct / 100, live := vn * site.livePct / 100, healthyLo := vn * site.healthyLo / 100
    healthyHi := vn * site.healthyHi / 100, dir10 := vn * 10 / 100, dir2 := vn * 2 / 100
    freqLo := nominal - site.freqHalf, freqHi := nominal + site.freqHalf }

/-! ## The events of R40, R46 and R50 on their own -/

/-- A current point's entry replaced by `f` of it. -/
def modCur (n : Nat) (f : CurMeas → CurMeas) (s : State) : State :=
  s.modMeas fun m => { m with cur := modAt m.cur n f }

/-- A voltage point's entry replaced by `f` of it. -/
def modVolt (v : Nat) (f : VoltMeas → VoltMeas) (s : State) : State :=
  s.modMeas fun m => { m with volt := modAt m.volt v f }

/-- R40: the low-voltage run of a phase would pass 8. -/
def memorySpent (s : State) (slot : Nat) (ph : Phase) : Bool :=
  let m := (s.curMeas slot).mem.get ph
  decide (m.lowRun = 8) && m.firm.isSome

/-- R40: the last firm direction becomes none and UNKNOWN is published. -/
def forgetDirection (slot : Nat) (ph : Phase) (s : State) : State :=
  modCur slot (fun m =>
    { m with dir := m.dir.set ph .unknown, mem := m.mem.set ph { (m.mem.get ph) with firm := none } }) s

/-- R46: at an update, the valid tracker of a voltage point is to be emptied. -/
def trackerEmptyDue (s : State) (v : Nat) : Bool :=
  s.intake.k.isSome && decide (s.intake.count % 8 = 0) && trackerValid s.meas.thr (s.voltMeas v) &&
    trackerStale s.intake.count (s.voltMeas v)

/-- R46: the tracker is emptied and the frequency is INVALID. -/
def dropTracker (v : Nat) (s : State) : State :=
  modVolt v (fun m => { emptyTracker m with freq := none, sum4 := none, latest := none }) s

/-- R50: the raw class has held for its count and is not yet declared. -/
def declareDue (s : State) (v : Nat) : Bool :=
  let m := s.voltMeas v
  decide (qualifierCount s.site m.raw ≤ m.run) && decide (m.declared ≠ m.raw)

/-- R50: the raw class becomes the declared state. -/
def declareClass (v : Nat) (s : State) : State := modVolt v (fun m => { m with declared := m.raw }) s

end Sys2Proof.Machine
end

