-- ==== Sys2Proof/Machine/Protect.lean ====
section
/-!
DEFINITION. The Protection Unit (chapter 4): quantities and thresholds, blocking, time-overcurrent and definite-time
evaluation, what an operated element does, transfer-block outputs, and group switches.
-/

namespace Sys2Proof.Machine

/-! ## Quantities and thresholds (R60, R61) -/

/-- R60: a published direction passes the supervision of an element. -/
def passes (d : DirSetting) (x : Dir) : Bool :=
  match d, x with
  | .none, _ => true
  | .forward, .forward => true
  | .reverse, .reverse => true
  | _, _ => false

/-- The RMS of a phase that passes direction supervision, 0 otherwise. -/
def supervised (row : ElementRow) (m : CurMeas) (ph : Phase) : Nat :=
  if passes row.direction (m.dir.get ph) then m.rms.get ph else 0

/-- R60: the quantity of a TOC or IOC element. -/
def overcurrent (row : ElementRow) (m : CurMeas) : Nat :=
  match row.scope with
  | .phases => max (supervised row m .a) (max (supervised row m .b) (supervised row m .c))
  | .residual => supervised row m .n

/-- The number of a point, whatever its kind. -/
def pointNumber : PointId → Nat
  | .cur n => n
  | .volt v => v

/-- R60: the measured quantity of an element. -/
def quantity (s : State) (row : ElementRow) : Int :=
  let n := pointNumber row.point
  match row.kind with
  | .toc | .ioc => overcurrent row (s.curMeas n)
  | .uv => let r := (s.voltMeas n).rms; ((min r.a (min r.b r.c) : Nat) : Int)
  | .ov => let r := (s.voltMeas n).rms; ((max r.a (max r.b r.c) : Nat) : Int)
  | .uf | .ovf => (((s.voltMeas n).freq.getD 0 : Nat) : Int)
  | .rp => -((s.curMeas n).power.getD 0)

/-- R61: the dropout threshold. -/
def dropout (row : ElementRow) : Nat :=
  match row.kind with
  | .uv | .uf => row.pickup * 105 / 100
  | .toc | .ioc | .ov | .ovf | .rp => row.pickup * 95 / 100

/-- R61: beyond pickup. -/
def beyondPickup (row : ElementRow) (x : Int) : Bool :=
  match row.kind with
  | .toc | .ioc | .ov | .ovf => decide ((row.pickup : Int) ≤ x)
  | .uv | .uf => decide (x ≤ (row.pickup : Int))
  | .rp => decide ((row.pickup : Int) < x)

/-- R61: beyond dropout. -/
def beyondDropout (row : ElementRow) (x : Int) : Bool :=
  match row.kind with
  | .toc | .ioc | .ov | .ovf | .rp => decide ((dropout row : Int) ≤ x)
  | .uv | .uf => decide (x ≤ (dropout row : Int))

/-- R68: a phase in the scope of an IOC element is SATURATED. -/
def saturatedInScope (row : ElementRow) (m : CurMeas) : Bool :=
  match row.kind, row.scope with
  | .ioc, .phases => m.sat.a || m.sat.b || m.sat.c
  | .ioc, .residual => m.sat.n
  | _, _ => false

/-- R61, R68: picked up, with hysteresis for an element that already is. -/
def pickedUp (s : State) (row : ElementRow) (already : Bool) : Bool :=
  (if already then beyondDropout row (quantity s row) else beyondPickup row (quantity s row)) ||
    saturatedInScope row (s.curMeas (pointNumber row.point))

/-! ## Blocking (R62) -/

/-- A quality that blocks. -/
def unfit (q : Quality) : Bool := q = .degraded || q = .invalid

/-- The quality of a point as last published. -/
def qualityOf (s : State) : PointId → Quality
  | .cur n => (s.curMeas n).quality
  | .volt v => (s.voltMeas v).quality

/-- The quality of the voltage reference of a current point. -/
def referenceUnfit (s : State) (pt : PointId) : Bool :=
  match (s.brk (pointNumber pt)).vref with
  | some v => unfit (s.voltMeas v).quality
  | none => false

/-- R62: an enabled element is blocked at this update. -/
def elementBlocked (s : State) (row : ElementRow) : Bool :=
  unfit (qualityOf s row.point) ||
    (match row.kind with
     | .toc | .ioc => decide (row.direction ≠ .none) && referenceUnfit s row.point
     | .rp => referenceUnfit s row.point || (s.curMeas (pointNumber row.point)).power.isNone
     | .uf | .ovf => (s.voltMeas (pointNumber row.point)).freq.isNone
     | .uv | .ov => false)

/-! ## Time-overcurrent arithmetic (R64 to R67) -/

/-- The limit of every accumulator (R65). -/
def fullScale : Nat := 1000000

/-- R64: the rate of the last breakpoint at or below a multiple. -/
def curveRate (c : CurveRow) (m16 : Nat) : Nat :=
  c.points.foldl (fun rate p => if p.1 ≤ m16 then p.2 else rate) 0

/-- R64: the increment for a quantity at or above pickup. -/
def tocIncrement (c : CurveRow) (row : ElementRow) (i : Nat) : Nat :=
  min fullScale (curveRate c (min 640 (i * 16 / row.pickup)) * 100 / row.td)

/-- R67: the decrement. -/
def tocDecrement (c : CurveRow) (row : ElementRow) : Nat := c.resetRate * 100 / row.td

/-- R65: the accumulator gains its increment; the element is TIMING, or OPERATED at the limit. -/
def tocAdd (c : CurveRow) (row : ElementRow) (i : Nat) (x : RtSlot) : RtSlot :=
  let acc := min fullScale (x.acc + tocIncrement c row i)
  { x with acc := acc, state := if acc = fullScale then .operated else .timing }

/-- R67: the accumulator loses its decrement; at 0 the slot is IDLE and cleared. -/
def tocDecay (c : CurveRow) (row : ElementRow) (x : RtSlot) : RtSlot :=
  if x.acc ≤ tocDecrement c row then {} else { x with acc := x.acc - tocDecrement c row, state := .resetting }

/-- R66: an element below dropout resets by its reset mode. -/
def tocReset (c : CurveRow) (row : ElementRow) (x : RtSlot) : RtSlot :=
  match row.resetMode with
  | .instant => {}
  | .timed => tocDecay c row x

/-- R65 to R67: a TOC element at an update, with its quantity and the processed count. -/
def evalToc (c : CurveRow) (row : ElementRow) (i count : Nat) (x : RtSlot) : RtSlot :=
  match x.state with
  | .idle => if row.pickup ≤ i then tocAdd c row i { x with pickupIdx := some count } else x
  | .timing =>
    if row.pickup ≤ i then tocAdd c row i x else if dropout row ≤ i then x else tocReset c row x
  | .operated => if dropout row ≤ i then x else tocReset c row x
  | .resetting => if row.pickup ≤ i then tocAdd c row i x else tocDecay c row x
  | .blocked => x

/-! ## Definite time (R69) -/

/-- The delay of a row in updates. -/
def delayOf (s : State) (row : ElementRow) : Nat :=
  match row.delayUpd with
  | some u => u
  | none => msToUpdates s.fNom row.delayMs

/-- R69: the operate test. -/
def operateTest (delay : Nat) (x : RtSlot) : RtSlot := if delay ≤ x.acc then { x with state := .operated } else x

/-- R69: a definite-time element at an update. -/
def evalDefinite (delay : Nat) (picked : Bool) (count : Nat) (x : RtSlot) : RtSlot :=
  match x.state, picked with
  | .idle, true => operateTest delay { x with state := .timing, acc := 0, pickupIdx := some count }
  | .idle, false => x
  | .timing, true => operateTest delay { x with acc := min delay (x.acc + 1) }
  | .operated, true => x
  | .timing, false | .operated, false => {}
  | .resetting, _ => {}
  | .blocked, _ => x

/-! ## Peaks and phases (R73) -/

/-- R73: the phases involved at this update. -/
def involved (s : State) (row : ElementRow) : Four Bool :=
  let n := pointNumber row.point
  let m := s.curMeas n
  let one := fun ph =>
    (passes row.direction (m.dir.get ph) && decide (row.pickup ≤ m.rms.get ph)) ||
      (decide (row.kind = .ioc) && m.sat.get ph)
  let r := (s.voltMeas n).rms
  match row.kind with
  | .toc | .ioc =>
    match row.scope with
    | .phases => ⟨one .a, one .b, one .c, false⟩
    | .residual => ⟨false, false, false, one .n⟩
  | .uv => ⟨decide (r.a ≤ row.pickup), decide (r.b ≤ row.pickup), decide (r.c ≤ row.pickup), false⟩
  | .ov => ⟨decide (row.pickup ≤ r.a), decide (row.pickup ≤ r.b), decide (row.pickup ≤ r.c), false⟩
  | .uf | .ovf | .rp => ⟨false, false, false, false⟩

/-- R73: the values that enter the peaks at this update: the RMS of each phase of the element's point, whatever its kind;
A, B, C and N of a current point, A, B and C of a voltage point. -/
def peakValues (s : State) (row : ElementRow) : Four Nat :=
  let n := pointNumber row.point
  match row.kind with
  | .toc | .ioc | .rp => (s.curMeas n).rms
  | .uv | .ov | .uf | .ovf => let r := (s.voltMeas n).rms; ⟨r.a, r.b, r.c, 0⟩

/-- R73: an unblocked update of the pickup enters the peaks and the phases. -/
def keepPickup (s : State) (row : ElementRow) (x : RtSlot) : RtSlot :=
  if x.state = .idle then x
  else { x with peaks := maxFour x.peaks (peakValues s row), phases := orFour x.phases (involved s row) }

/-! ## An element at an update (R59, R62, R63) -/

/-- R63: a BLOCKED slot takes its frozen state again. -/
def thaw (x : RtSlot) : RtSlot :=
  if x.state = .blocked then { x with state := x.frozen.getD .idle, frozen := none } else x

/-- R62: a slot enters BLOCKED; its state is frozen. -/
def freeze (x : RtSlot) : RtSlot :=
  if x.state = .blocked then x else { x with state := .blocked, frozen := some x.state }

/-- R59: the rules of the kind, on a slot that is not blocked. -/
def evalKind (s : State) (row : ElementRow) (x : RtSlot) : RtSlot :=
  match row.kind with
  | .toc => evalToc (s.tbl.curves.getD row.curve {}) row (quantity s row).toNat s.intake.count x
  | .ioc | .uv | .ov | .uf | .ovf | .rp =>
    evalDefinite (delayOf s row) (pickedUp s row (decide (x.state ≠ .idle))) s.intake.count x

/-- R71, R73: the operate index is set as the element enters OPERATED. -/
def markOperated (old : RtSlot) (count : Nat) (x : RtSlot) : RtSlot :=
  if x.state = .operated ∧ old.state ≠ .operated then { x with operIdx := some count } else x

/-- R59, R62, R63, R73: the slot of an enabled row after an update. -/
def evalSlot (s : State) (row : ElementRow) (x : RtSlot) : RtSlot :=
  if elementBlocked s row then freeze x
  else
    let old := thaw x
    keepPickup s row (markOperated old s.intake.count (evalKind s row old))

/-! ## What an operated element does (R71, R72) -/

/-- R72: the target of a row is latched. -/
def latchTarget (g : Group) (i : Nat) (s : State) : State :=
  let t : Option Target := some ⟨s.intake.count, s.intake.count⟩
  note .protection <| s.modProt fun p =>
    match g with
    | .a => { p with targetsA := modAt p.targetsA i fun _ => t }
    | .b => { p with targetsB := modAt p.targetsB i fun _ => t }

/-- R71 step 2: the lockout target is handed to the Arbiter. -/
def handLockout (g : Group) (i : Nat) (row : ElementRow) (s : State) : State :=
  match row.lockout with
  | .none => s
  | .breaker => row.trip.foldl (fun s n => setSlotLockout n (.element g i) s) s
  | .bus b => setBusLockout b (.element g i) s

/-- R71: what an element does on entering OPERATED. -/
def operateElement (g : Group) (i : Nat) (row : ElementRow) (s : State) : State :=
  let s := s.modRt i fun x => { x with operIdx := some s.intake.count, operGroup := some g }
  let s := handLockout g i row s
  let s := row.trip.foldl (fun s n => (raiseOpen .prot .prot n s).1) s
  let s := latchTarget g i s
  let x := s.rtSlot i
  takeTrigger (.element ⟨g, i, row.kind, s.intake.count⟩ row.trip x.phases x.peaks (x.pickupIdx.getD s.intake.count)) s

/-- R73: an element that leaves OPERATED hands over its final peaks and phases, for the group that operated. -/
def handPeaks (g : Group) (i : Nat) (x : RtSlot) (s : State) : State :=
  finalPeaks (x.operGroup.getD g) i x.phases x.peaks s

/-- R59, R73: one row of the active group at an update. DESIGN CHOICE (log 72): an element that goes from OPERATED straight
to IDLE hands over the peaks and phases of the update before; one that goes to RESETTING, those with this update in them. -/
def evalRow (i : Nat) (s : State) : State :=
  let g := s.prot.active
  let row := s.elemRow g i
  if row.enabled = false then s.modRt i fun _ => {}
  else
    let old := thaw (s.rtSlot i)
    let new := evalSlot s row (s.rtSlot i)
    let s := s.modRt i fun _ => new
    if new.state = .operated ∧ old.state ≠ .operated then operateElement g i row s
    else if old.state = .operated ∧ new.state ≠ .operated ∧ new.state ≠ .blocked then
      handPeaks g i (if new.state = .idle then old else new) s
    else s

/-! ## Outputs (R74, R75) -/

/-- R74: the slot is TIMING or OPERATED, or BLOCKED from one of them. -/
def holdsTransfer (x : RtSlot) : Bool :=
  let active := fun (st : ElemState) => decide (st = .timing) || decide (st = .operated)
  active x.state || (decide (x.state = .blocked) && x.frozen.any active)

/-- R75: the slot is OPERATED, or BLOCKED from OPERATED. -/
def indicates (x : RtSlot) : Bool :=
  decide (x.state = .operated) || (decide (x.state = .blocked) && decide (x.frozen = some .operated))

/-- R74: the transfer-block output of a section's bus. -/
def blockOutput (s : State) (q : SeqId) : Bool :=
  (List.range 64).any fun i =>
    let row := s.elemRow s.prot.active i
    row.enabled && decide (row.block = some q) && holdsTransfer (s.rtSlot i)

/-- R74, R75: outputs and indications are formed and published. -/
def publishOutputs (s : State) : State :=
  let one := blockOutput s .seq1
  let two := blockOutput s .seq2
  let ind := s.prot.slots.map fun x => if indicates x then some s.prot.active else none
  s.modProt fun p => { p with block1 := one, block2 := two, operated := ind }

/-! ## Group switch (R78) -/

/-- R78: whether a slot is carried over. -/
def carries (x y : ElementRow) : Bool :=
  x.enabled && y.enabled && decide (x.kind = y.kind) && decide (x.point = y.point)

/-- R73: every slot that is cleared while OPERATED hands over its final peaks first. -/
def handCleared (g : Group) (cleared : Nat → Bool) (s : State) : State :=
  (List.range 64).foldl (fun s i =>
    if cleared i && indicates (s.rtSlot i) then handPeaks g i (s.rtSlot i) s else s) s

/-- R78: the switch to a pending group. -/
def switchGroup (s : State) : State :=
  match s.prot.pendingGroup with
  | none => s
  | some g =>
    let old := s.prot.active
    let keep := fun i => carries (s.elemRow old i) (s.elemRow g i)
    let s := handCleared old (fun i => !keep i) s
    note .protection <| s.modProt fun p =>
      { p with active := g, pendingGroup := none
               slots := p.slots.mapIdx fun i x => if keep i then x else {} }

/-- R59: the work of one update. DESIGN CHOICE (log 85): the rows are evaluated from 0 to 63, and their lockouts, requests
and triggers are raised in that order. -/
def evaluateAll (s : State) : State :=
  publishOutputs ((List.range 64).foldl (fun s i => evalRow i s) (switchGroup s))

/-! ## CLEAR and part states (R72, R79, R80) -/

/-- R72: the targets a CLEAR leaves: those whose row index is indicated. -/
def keepIndicated (s : State) (l : List (Option Target)) : List (Option Target) :=
  l.mapIdx fun i t => if (s.prot.operated.getD i none).isSome then t else none

/-- R72: CLEAR with the TARGETS subset. -/
def clearTargets (s : State) : State :=
  let a := keepIndicated s s.prot.targetsA
  let b := keepIndicated s s.prot.targetsB
  if a = s.prot.targetsA ∧ b = s.prot.targetsB then s
  else note .protection (s.modProt fun p => { p with targetsA := a, targetsB := b })

/-- R80: slots, outputs and indications cleared. -/
def clearSlots (p : Prot) : Prot :=
  { p with slots := List.replicate 64 {}, block1 := false, block2 := false, operated := List.replicate 64 none }

/-- R80: entering CONFIG; a pending selection becomes the active group at once. -/
def protConfig (s : State) : State :=
  let s := handCleared s.prot.active (fun _ => true) s
  let switched := s.prot.pendingGroup.isSome
  let s := s.modProt fun p => { clearSlots p with active := p.pendingGroup.getD p.active, pendingGroup := none }
  if switched then note .protection s else s

/-- R80: the unit at COMMIT and DISCARD, with the stored active group. -/
def protCommit (g : Group) (s : State) : State :=
  s.modProt fun p => { clearSlots p with active := g, pendingGroup := none }

/-! ## The events of R65, R67 and R69 on their own -/

/-- R65: a TIMING element whose accumulator stands at the limit. -/
def tocOperateDue (s : State) (i : Nat) : Bool :=
  let row := s.elemRow s.prot.active i
  s.inService && row.enabled && decide (row.kind = .toc) && decide ((s.rtSlot i).state = .timing) &&
    decide ((s.rtSlot i).acc = fullScale)

/-- R69: a TIMING element whose counter has reached its delay. -/
def definiteOperateDue (s : State) (i : Nat) : Bool :=
  let row := s.elemRow s.prot.active i
  s.inService && row.enabled && decide (row.kind ≠ .toc) && decide ((s.rtSlot i).state = .timing) &&
    decide (delayOf s row ≤ (s.rtSlot i).acc)

/-- R65, R69, R71: a TIMING element enters OPERATED and raises its effects. -/
def enterOperated (i : Nat) (s : State) : State :=
  let g := s.prot.active
  let s := s.modRt i fun x => { x with state := .operated }
  publishOutputs (operateElement g i (s.elemRow g i) s)

/-- R67: a RESETTING slot whose accumulator has reached 0. -/
def resetEndDue (s : State) (i : Nat) : Bool :=
  decide ((s.rtSlot i).state = .resetting) && decide ((s.rtSlot i).acc = 0)

end Sys2Proof.Machine
end

