-- ==== Sys2Proof/Machine/Update.lean ====
section
/-!
DEFINITION. The measurement update (R23 step 6, R35; log 13) and the processing of indices (R21, R23), and the commands
that are index-time events of the Intake, Measurement and Protection Units and of the sync channels (log 3).
-/

namespace Sys2Proof.Machine

/-! ## The measurement update -/

/-- The sequencers at an update; each one's requests are settled before the other acts. -/
def updateSeqs (s : State) : State := finish (updateState .seq2 (finish (updateState .seq1 s)))

/-- R147 to R150 at an update. -/
def updateClosing (s : State) : State := finish (closeLive (grantDead (releaseOnLive (stopGenerators s))))

/-- R152 at an update: channels 0 to 3 in turn. -/
def updateChannels (s : State) : State :=
  finish (testChannel 3 (finish (testChannel 2 (finish (testChannel 1 (finish (testChannel 0 s)))))))

/-- A sharing update falls on every eighth measurement update (log 17). -/
def updateSharing (s : State) : State := if s.intake.count % 64 = 0 then sharingUpdate s else s

/-- The Protection Unit and the sequencers run in SERVICE only (chapter 9.5). -/
def inServiceOnly (f : State → State) (s : State) : State := if s.inService then f s else s

/-- A measurement update: every block acts on the new values in a fixed order (log 13). -/
def measurementUpdate (s : State) : State :=
  let s := measure (refreshQuality s)
  let s := finish (testAllBf s)
  let s := inServiceOnly (fun s => finish (evaluateAll s)) s
  let s := takeLoad .seq2 (takeLoad .seq1 (formCapacity s))
  let s := inServiceOnly updateSeqs s
  updateSharing (updateChannels (updateClosing s))

/-- R23: index k is processed; every eighth processing is a measurement update. -/
def processIndex (s : State) : State :=
  match s.intake.k with
  | none => s
  | some k =>
    let s := processOne k s
    if s.intake.count % 8 = 0 then measurementUpdate s else s

/-- R21: processing goes on while a condition holds for the new k. Buffers hold 16 sets, so 64 rounds are more than
any backlog. -/
def processWhile : Nat → State → State
  | 0, s => s
  | fuel + 1, s => if processable s then processWhile fuel (processIndex s) else s

/-- R21: the conditions are tested. -/
def processAll (s : State) : State := processWhile 64 s

/-! ## Commands -/

/-- FALLBACK (R22): the fallback time has run out. -/
def execFallback (s : State) : Host.Outcome State Fault Refusal := .next (if fallbackDue s then processAll s else s)

/-- STREAM_GOOD (R24). -/
def execStreamGood (r : Nat) (s : State) : Host.Outcome State Fault Refusal :=
  let x := s.stream r
  .next (if x.delRun = 32 ∧ (x.state = .acquiring ∨ x.state = .degraded ∨ x.state = .lost) then
    setStreamState r .good s else s)

/-- STREAM_LOST (R24). -/
def execStreamLost (r : Nat) (s : State) : Host.Outcome State Fault Refusal :=
  let x := s.stream r
  .next (if x.subRun = 32 ∧ x.state ≠ .lost ∧ x.state ≠ .idle then setStreamState r .lost s else s)

/-- HOLD_EXPIRY (R25): a hold count of 1 runs down to 0. -/
def execHoldExpiry (pt : PointId) (ph : Phase) (k : HoldKind) (s : State) : Host.Outcome State Fault Refusal :=
  .next (modPhaseRec pt ph (fun p =>
    match k with
    | .missing => { p with missHold := if p.missHold = 1 then 0 else p.missHold }
    | .clipped => { p with clipHold := if p.clipHold = 1 then 0 else p.clipHold }) s)

/-- DIVERGENT_SET (R30). -/
def execDivergentSet (pt : PointId) (ph : Phase) (s : State) : Host.Outcome State Fault Refusal :=
  .next (modPhaseRec pt ph (fun p => { p with divergent := p.divergent || decide (p.divRun = 8) }) s)

/-- DIVERGENT_CLEAR (R30). -/
def execDivergentClear (pt : PointId) (ph : Phase) (s : State) : Host.Outcome State Fault Refusal :=
  .next (modPhaseRec pt ph (fun p => { p with divergent := p.divergent && !decide (p.agrRun = 32) }) s)

/-- DIRECTION_MEMORY_EXPIRY (R40). -/
def execDirectionMemoryExpiry (slot : Nat) (ph : Phase) (s : State) : Host.Outcome State Fault Refusal :=
  .next (if memorySpent s slot ph then forgetDirection slot ph s else s)

/-- TRACKER_EMPTY (R46). -/
def execTrackerEmpty (v : Nat) (s : State) : Host.Outcome State Fault Refusal :=
  .next (if trackerEmptyDue s v then dropTracker v s else s)

/-- QUALIFIER_DECLARE (R50). -/
def execQualifierDeclare (v : Nat) (s : State) : Host.Outcome State Fault Refusal :=
  .next (if declareDue s v then declareClass v s else s)

/-- TOC_OPERATE (R65, R71). -/
def execTocOperate (i : Nat) (s : State) : Host.Outcome State Fault Refusal :=
  .next (if tocOperateDue s i then finish (enterOperated i s) else s)

/-- DEFINITE_TIME_OPERATE (R69, R71). -/
def execDefiniteTimeOperate (i : Nat) (s : State) : Host.Outcome State Fault Refusal :=
  .next (if definiteOperateDue s i then finish (enterOperated i s) else s)

/-- TOC_RESET_END (R67). -/
def execTocResetEnd (i : Nat) (s : State) : Host.Outcome State Fault Refusal :=
  .next (if resetEndDue s i then s.modRt i fun _ => {} else s)

/-- SYNC_FIRE (R152, R94): a channel whose hold count is 2 fires. -/
def execSyncFire (i : Nat) (s : State) : Host.Outcome State Fault Refusal :=
  .next (match s.par.channels.getD i none with
    | some c => if c.fired = false ∧ c.hold = 2 then finish (fireChannel i c.slot s) else s
    | none => s)

end Sys2Proof.Machine
end

