-- ==== Sys2Proof/Machine/ManageBase.lean ====
section
/-!
DEFINITION. The Management Unit's requests and answers (R172 to R177), the settings memory (R180, R185), the frames
that are copied inward (R6) with the commands SAMPLE, POSITION, GENSTAT and MANAGE, and the read requests.
-/

namespace Sys2Proof.Machine

/-! ## Managers and answers (R172, R175) -/

/-- R172: the rights of a station; none when it is not a manager. -/
def managerRights (s : State) (src : Nat) : Option Rights :=
  match s.mgmt.image with
  | none => some .operate
  | some im => (im.tables.managers.find? fun r => r.present && decide (r.station = src)).map fun r => r.rights

/-- R175: an ANSWER frame to a station. -/
def answer (src tag kind : Nat) (st : Status) (p : AnswerPayload) (s : State) : State :=
  originate src (.answer tag kind st p) s

/-- R175: the answer to a request. -/
def answerTo (r : Request) (st : Status) (p : AnswerPayload) (s : State) : State := answer r.src r.tag r.kind st p s

/-- R175: a refusal, which carries no payload. -/
def refuse (r : Request) (why : Reason) (s : State) : State := answerTo r (.refused why) .nothing s

/-- DONE without a payload. -/
def answerDone (r : Request) (s : State) : State := answerTo r .done .nothing s

/-! ## Taking a request (R174) -/

/-- R174: the unit is not carrying out a request: no RESTART (R186) and no DISCARD (R183) is under way, and the part
is not LOADING. -/
def unitFree (s : State) : Bool :=
  s.mgmt.restart.isNone && s.mgmt.discard.isNone && decide (s.mgmt.part ≠ .loading)

/-- The request queue replaced. -/
def setRequests (l : List Request) (s : State) : State := s.modMgmt fun m => { m with requests := l }

/-- R174 tests 1 to 5, in order; a request that passes is carried out. -/
def testRequest (k : Kind) (act : Request → State → State) (r : Request) (s : State) : State :=
  match managerRights s r.src with
  | none => s
  | some rights =>
    if argsShape k r.args = false then refuse r .badValue s
    else if includesRight rights (rightOf k) = false then refuse r .notPermitted s
    else if takenNow k s.mgmt.part = false then refuse r .wrongState s
    else if argsNumbered r.args = false then refuse r .badRow s
    else act r s

/-- R176: a request kind code. -/
def knownKind (n : Nat) : Bool := decide (1 ≤ n ∧ n ≤ 23)

/-- R174 tests 1 and 2: a head that no request row takes up is settled: it is discarded when its source is no manager,
and refused with BAD_VALUE when its kind code is none of R176. -/
def settleHeads : Nat → State → State
  | 0, s => s
  | fuel + 1, s =>
    match s.mgmt.requests with
    | [] => s
    | r :: rest =>
      if unitFree s = false then s
      else
        match managerRights s r.src with
        | none => settleHeads fuel (setRequests rest s)
        | some _ => if knownKind r.kind then s else settleHeads fuel (refuse r .badValue (setRequests rest s))

/-- Heads that no request row takes up are settled; the queue holds at most four (R173). -/
def settleQueue (s : State) : State := settleHeads 5 s

/-- R174: the request at the head, when it is of kind `k`, leaves the queue and is tested and carried out. -/
def takeKind (k : Kind) (act : Request → State → State) (s : State) : State :=
  match s.mgmt.requests with
  | [] => s
  | r :: rest =>
    if unitFree s = true ∧ r.kind = kindCodeOf k then settleQueue (testRequest k act r (setRequests rest s)) else s

/-! ## The settings memory (R180, R185) -/

/-- R185: what a write begun now stores. -/
def currentImage (s : State) : Image := ⟨s.tbl, s.prot.pendingGroup.getD s.prot.active⟩

/-- R185: the bank a write goes to: not the one that stands good. -/
def targetBank (m : Mgmt) : Bool :=
  match m.goodBank with
  | none => false
  | some b => !b

/-- R185: a write begins on the image as it stands. -/
def beginWrite (held : List HeldAnswer) (s : State) : State :=
  s.modMgmt fun m =>
    { m with lastGen := m.lastGen + 1
             write := some { bank := targetBank m, gen := m.lastGen + 1, image := currentImage s, held := held } }

/-- R185: a write is requested, with the request whose answer awaits it. -/
def requestWrite (a : HeldAnswer) (s : State) : State :=
  match s.mgmt.write with
  | none => beginWrite [a] s
  | some w => s.modMgmt fun m => { m with write := some { w with waiting := true, waitHeld := w.waitHeld ++ [a] } }

/-- R185: an image with its generation count and the CRC-32 over it. -/
def bankHolding (gen : Nat) (im : Image) : Bank := .holds true gen im (crc32 (Config.imageBytes gen im))

/-- A bank replaced. -/
def putBank (one : Bool) (b : Bank) (s : State) : State :=
  s.modNv fun v => if one then { v with bank1 := b } else { v with bank0 := b }

/-- R185: the answer of a request whose image has been written. -/
def answerHeld (s : State) (a : HeldAnswer) : State :=
  answer a.src a.tag a.kind (if a.clamped then .doneClamped else .done) .nothing s

/-- R185: the write in progress ends with the outcome of its read-back checks. -/
def endWrite (ok : Bool) (s : State) : State :=
  match s.mgmt.write with
  | none => s
  | some w =>
    let s := putBank w.bank (if ok then bankHolding w.gen w.image else .damaged w.gen) s
    let s := s.modMgmt fun m =>
      { m with write := none, fault := !ok, goodBank := if ok then some w.bank else m.goodBank }
    let s := w.held.foldl answerHeld s
    if w.waiting then beginWrite w.waitHeld s else s

/-- R180: a bank is valid: recognized layout version, and the CRC-32 it carries is that of its image. -/
def bankValid : Bank → Option (Nat × Image)
  | .holds recognized g im crc => if recognized = true ∧ crc = crc32 (Config.imageBytes g im) then some (g, im) else none
  | .empty => none
  | .damaged _ => none

/-- R180: the image taken: generation, image, and whether it is in bank 1. -/
def takenImage (v : NonVol) : Option (Nat × Image × Bool) :=
  match bankValid v.bank0, bankValid v.bank1 with
  | some (g, x), none => some (g, x, false)
  | none, some (g, x) => some (g, x, true)
  | some (g, x), some (h, y) => if h < g then some (g, x, false) else some (h, y, true)
  | none, none => none

/-- The generation count a bank carries; 0 for one never written. -/
def bankGen : Bank → Nat
  | .empty => 0
  | .holds _ g _ _ => g
  | .damaged g => g

/-! ## Frames copied inward (R5, R6) -/

/-- A well-formed vendor frame of kind `k` received on a port: forwarded under R5, and handed over when it is offered
for inward copy. -/
def takeFrame (k : FrameKind) (p : Port) (f : EthFrame) (hand : Header → State → State) (s : State) : State :=
  match receiving s p, frameClass f with
  | true, .vendor h =>
    if h.kind = k then
      let s' := forwardVendor p f h s
      if offeredInward s h then hand h s' else s'
    else s
  | _, _ => s

/-- R6, R17: a SAMPLE frame for the Intake Unit. -/
def handSample (f : EthFrame) (h : Header) (s : State) : State :=
  match samplePayload h f.body with
  | none => s
  | some x =>
    match subscriptionOf s h.src x.stream with
    | none => s
    | some r => if x.values.length = (s.sub r).count then processAll (arrive r ⟨x.index, x.sync, x.values⟩ s) else s

/-- R6, R84: a POSITION frame for the Order Arbiter. -/
def handPosition (f : EthFrame) (h : Header) (s : State) : State :=
  match positionPayload h f.body with
  | some x => if s.blocksRun = true ∧ positionValid s h.src x = true then finish (takePosition x s) else s
  | none => s

/-- R6, R141: a GENSTAT frame for the Paralleling Unit. -/
def handGenstat (f : EthFrame) (h : Header) (s : State) : State :=
  match genstatPayload h f.body with
  | some x => if s.blocksRun = true ∧ genstatValid s h.src x = true then finish (takeGenstat x s) else s
  | none => s

/-- R173: a request joins the tail of the queue, or is discarded. -/
def joinRequests (r : Request) (s : State) : State :=
  if (managerRights s r.src).isSome = true ∧ s.mgmt.requests.length < 4 then
    settleQueue (setRequests (s.mgmt.requests ++ [r]) s)
  else s

/-- R6, R7, R173: a MANAGE frame for the Management Unit, through the duplicate filter. -/
def handManage (f : EthFrame) (h : Header) (s : State) : State :=
  match managePayload h f with
  | none => s
  | some r =>
    if s.link.station = some h.dest then
      if isDuplicate s r.src r.tag then s else joinRequests r (addDup r.src r.tag s)
    else s

/-- SAMPLE (R17). -/
def execSample (p : Port) (f : EthFrame) (s : State) : Host.Outcome State Fault Refusal :=
  .next (takeFrame .sample p f (handSample f) s)

/-- POSITION (R84). -/
def execPosition (p : Port) (f : EthFrame) (s : State) : Host.Outcome State Fault Refusal :=
  .next (takeFrame .position p f (handPosition f) s)

/-- GENSTAT (R141). -/
def execGenstat (p : Port) (f : EthFrame) (s : State) : Host.Outcome State Fault Refusal :=
  .next (takeFrame .genstat p f (handGenstat f) s)

/-- MANAGE (R7, R173). -/
def execManage (p : Port) (f : EthFrame) (s : State) : Host.Outcome State Fault Refusal :=
  .next (takeFrame .manage p f (handManage f) s)

/-! ## Read requests (R177) -/

/-- R110: a sequencer as READ_STATUS returns it. -/
def seqView (s : State) (q : SeqId) : SeqView :=
  let x := s.seq q
  { state := x.state, pendingPark := x.pendingPark, alt := x.alt, spentTie := x.spentTie, spentGm := x.spentGm
    retReady := x.retReady, snapshot := x.snapshot, lastLoad := x.lastLoad, startup := remaining s x.startup
    loss := remaining s x.loss, dead := remaining s x.dead, retransfer := remaining s x.retransfer
    restore := remaining s x.restore, parallel := remaining s x.parallel, softLimit := remaining s x.softLimit }

/-- R177, R110: READ_STATUS. -/
def statusView (s : State) : StatusView :=
  { part := s.mgmt.part, mode := s.mgmt.mode, active := s.prot.active, pendingGroup := s.prot.pendingGroup
    fault := s.mgmt.fault, queued := s.mgmt.requests.length, streams := enabledStreams s
    indexSet := s.intake.k.isSome, targets := latchedTargets s, seq1 := seqView s .seq1, seq2 := seqView s .seq2
    claim := s.seqs.claim, inhibitLeft := if s.inhibitActive then remaining s s.seqs.inhibit else none
    pendingNotices := s.records.pendingNotices, openRecords := openRecords s, completeRecords := completeRecords s }

/-- R177, R35: READ_POINT. -/
def pointView (s : State) : PointId → AnswerPayload
  | .cur n =>
    let m := s.curMeas n
    .cur ⟨m.quality, m.rms, m.power, m.dir, m.sat⟩
  | .volt v =>
    let m := s.voltMeas v
    .volt ⟨m.quality, m.rms, m.freq, m.latest, m.sum4, m.raw, m.run, m.declared⟩

/-- R99: what READ_BREAKER shows of the order in service. -/
def orderView (o : Order) : OrderView :=
  { type := o.type, causes := o.causes, tag := o.tag, phase := o.phase, issueTime := o.issueTime
    requesters := o.requesters, acked := o.acked }

/-- R99, R190: READ_BREAKER. -/
def breakerView (s : State) (n : Nat) : BreakerView :=
  let a := s.slot n
  { real := a.position
    emulated := (match s.mgmt.mode with
      | .loop => (s.emuOf n).map fun e => e.pos
      | .live | .blocked => none)
    localCtl := a.localCtl, ready := a.ready, lastTag := a.lastTag, order := a.order.map orderView, lastResult := a.lastResult
    lock := a.lock, buses := (s.busSides n).map fun b => (b, s.busLock b), bf := a.bf, bfTimer := a.bfTimer
    line := (s.brk n).line, energized := a.lineOn.isSome }

/-- R177, R72: READ_ELEMENT. -/
def elementPayload (s : State) (g : Group) (row : Nat) : AnswerPayload :=
  .element (s.elemRow g row)
    ((match g with
      | .a => s.prot.targetsA
      | .b => s.prot.targetsB).getD row none)
    (if s.prot.active = g then some { s.rtSlot row with operGroup := none } else none)

/-- The place of a breaker in the sync queue, 0 the oldest. -/
def queuePlace (s : State) (slot : Nat) : Option Nat := s.par.queue.findIdx? fun r => decide (r.slot = slot)

/-- R144: READ_GENERATOR naming Gk. DESIGN CHOICE (log 94): where the row of Gk is not present, so that the generator has no
record (R139), the answer is that row with a record at its values of reset. -/
def genView (s : State) (k : Nat) : GenView :=
  let g := s.gen k
  { row := s.genRow k, state := g.state, cause := g.cause, running := g.running, ready := g.ready, fault := g.fault
    manualMode := g.manualMode, lost := g.lost, age := g.lastStat.map fun t => s.now - t, power := genPower s k
    filter := g.filter, bias := g.bias, startSent := g.startSent, awaited := g.awaited
    channel := channelOf s (genSlot k), queuePlace := queuePlace s (genSlot k) }

/-- R146: READ_GENERATOR naming generator 0. -/
def genBusView (s : State) : GenBusView :=
  { demand := s.par.demand, stopLeft := remaining s s.par.stopTimer, stopPending := s.par.stopPending
    grant := s.par.grant.map fun g => g.gen, channels := s.par.channels, queue := s.par.queue, unload := s.par.unload
    freeCap := s.par.freeCap, gbusP := s.par.gbusP }

/-- R177: the tables READ_ROW reads: the edit set in CONFIG, the tables in force in SERVICE. -/
def readTables (s : State) : Tables := if s.inConfig then s.mgmt.edit.getD s.tbl else s.tbl

/-- A read: DONE with its payload; the state read is the one in which the request was taken. -/
def readRequest (k : Kind) (view : State → Args → AnswerPayload) (s : State) : State :=
  takeKind k (fun r s => answerTo r .done (view s r.args) s) s

/-- What READ_POINT returns for its arguments. -/
def viewPoint (s : State) : Args → AnswerPayload
  | .point p => pointView s p
  | _ => .nothing

/-- What READ_BREAKER returns for its arguments. -/
def viewBreaker (s : State) : Args → AnswerPayload
  | .slot n => .breaker (breakerView s n)
  | _ => .nothing

/-- What READ_ELEMENT returns for its arguments. -/
def viewElement (s : State) : Args → AnswerPayload
  | .element (some g) row => elementPayload s g row
  | _ => .nothing

/-- What READ_GENERATOR returns for its arguments. -/
def viewGenerator (s : State) : Args → AnswerPayload
  | .generator k => if k = 0 then .genBus (genBusView s) else .generator (genView s k)
  | _ => .nothing

/-- What READ_ROW returns for its arguments. -/
def viewRow (s : State) : Args → AnswerPayload
  | .row table row =>
    match tableRow table row with
    | some t => .row (getRow t row (readTables s))
    | none => .nothing
  | _ => .nothing

/-- What READ_RECORD returns (R167). -/
def viewRecord (s : State) : AnswerPayload :=
  .record ((oldestComplete s).map recordView) (openRecords s) (completeRecords s)

/-- READ_STATUS (R177). -/
def execReadStatus (s : State) : Host.Outcome State Fault Refusal :=
  .next (readRequest .readStatus (fun s _ => .status (statusView s)) s)

/-- READ_POINT (R177). -/
def execReadPoint (s : State) : Host.Outcome State Fault Refusal := .next (readRequest .readPoint viewPoint s)

/-- READ_BREAKER (R99). -/
def execReadBreaker (s : State) : Host.Outcome State Fault Refusal := .next (readRequest .readBreaker viewBreaker s)

/-- READ_ELEMENT (R177). -/
def execReadElement (s : State) : Host.Outcome State Fault Refusal := .next (readRequest .readElement viewElement s)

/-- READ_GENERATOR (R144, R146). -/
def execReadGenerator (s : State) : Host.Outcome State Fault Refusal :=
  .next (readRequest .readGenerator viewGenerator s)

/-- READ_ROW (R177). -/
def execReadRow (s : State) : Host.Outcome State Fault Refusal := .next (readRequest .readRow viewRow s)

/-- READ_RECORD (R167). -/
def execReadRecord (s : State) : Host.Outcome State Fault Refusal :=
  .next (readRequest .readRecord (fun s _ => viewRecord s) s)

end Sys2Proof.Machine
end

