-- ==== Sys2Proof/Machine/Configure.lean ====
section
/-!
DEFINITION. Tables, groups, modes, part states and supply: WRITE_ROW, ENTER_CONFIG, COMMIT, DISCARD, SELECT_GROUP,
SET_MODE, RESTART with WARM_RESTART, LOADING_END, the ends of non-volatile writes, and the supply (R12 to R14, R76, R77,
R178 to R191).
-/

namespace Sys2Proof.Machine

/-! ## WRITE_ROW (R77, R178) -/

/-- The edit set. -/
def editSet (s : State) : Tables := s.mgmt.edit.getD s.tbl

/-- R178 first step: a row clamped and converted. -/
def preparedRow (fNom : Option Nat) (d : RowData) : RowData := convertRow fNom (clampRow d)

/-- R178: DONE_CLAMPED when any field was brought in. -/
def wasClamped (d : RowData) : Bool := decide (clampRow d ≠ d)

/-- The status of an answer. -/
def doneStatus (clamped : Bool) : Status := if clamped then .doneClamped else .done

/-- R58: the element checks of a row written in SERVICE. -/
def serviceElementOk (t : Tables) : RowData → Bool
  | .element x => !x.enabled || elementOk t x
  | _ => true

/-- The group whose Element Table a table is. -/
def groupOfTable : TableId → Option Group
  | .elementsA => some .a
  | .elementsB => some .b
  | _ => none

/-- R178 in CONFIG: the write goes to the edit set. -/
def writeEdit (r : Request) (t : TableId) (row : Nat) (d : RowData) (listsOk : Bool) (s : State) : State :=
  let d' := preparedRow (editSet s).site.fNom d
  if listsOk && rowStructure d' then
    answerTo r (doneStatus (wasClamped d)) .nothing (s.modMgmt fun m => { m with edit := some (editRow t row d' (editSet s)) })
  else refuse r .badValue s

/-- The tables in force replaced. -/
def setTables (t : Tables) (s : State) : State :=
  s.modMgmt fun m => { m with image := m.image.map fun im => { im with tables := t } }

/-- R77, R178 in SERVICE: the write goes to the tables in force and then to the settings memory. -/
def writeService (r : Request) (t : TableId) (row : Nat) (d : RowData) (listsOk : Bool) (s : State) : State :=
  match groupOfTable t with
  | none => refuse r .wrongState s
  | some g =>
    if s.prot.pendingGroup.isSome = true ∨ s.prot.active = g then refuse r .activeGroup s
    else
      let d' := preparedRow s.site.fNom d
      if listsOk && rowStructure d' && serviceElementOk s.tbl d' then
        requestWrite ⟨r.src, r.tag, r.kind, wasClamped d⟩ (setTables (putRow t row d' s.tbl) s)
      else refuse r .badValue s

/-- R178: a WRITE_ROW that passed the tests of R174. -/
def actWriteRow (r : Request) (s : State) : State :=
  match r.args with
  | .write table row d listsOk =>
    match tableRow table row with
    | some t => if s.inConfig then writeEdit r t row d listsOk s else writeService r t row d listsOk s
    | none => s
  | _ => s

/-! ## ENTER_CONFIG (R181) -/

/-- The part state changes (R184). -/
def setPart (p : PartState) (s : State) : State := note .sequencer (s.modMgmt fun m => { m with part := p })

/-- R138: both sequencers are forced to PARKED. -/
def parkBoth (s : State) : State := configPark .seq2 (configPark .seq1 s)

/-- R181: entry to CONFIG from SERVICE, with the effects of R80, R108, R138 and R161. -/
def configFromService (s : State) : State :=
  let s := setPart (.config true) (s.modMgmt fun m => { m with edit := some s.tbl })
  let s := withdrawAllCloses (parkBoth (protConfig s))
  finish (endUnload (releaseGrant s))

/-- R181: entry to CONFIG from UNCONFIGURED, with a fresh edit set. -/
def configFresh (s : State) : State :=
  finish (parkBoth (setPart (.config false) (s.modMgmt fun m => { m with edit := some Tables.fresh })))

/-- R181: ENTER_CONFIG; in CONFIG it changes nothing. -/
def enterConfig (s : State) : State :=
  match s.mgmt.part with
  | .service _ => configFromService s
  | .unconfigured => configFresh s
  | .config _ | .loading => s

/-! ## Bringing an image into force (R182, R183) -/

/-- A stream is not IDLE. -/
def anyStreaming (s : State) : Bool := s.intake.streams.any fun r => decide (r.state ≠ .idle)

/-- What the GENERATOR condition sees of the Paralleling Unit. -/
structure ParSeen where
  gens : List GenState
  demand : Bool
  stopTimer : Option Nat
  stopPending : Bool
  grant : Option Grant
  channels : List (Option Channel)
  unload : Option Unload
  deriving DecidableEq, Repr

/-- What the GENERATOR condition sees of the Paralleling Unit. -/
def parSeen (p : Par) : ParSeen :=
  ⟨p.gens.map fun g => g.state, p.demand, p.stopTimer, p.stopPending, p.grant, p.channels, p.unload⟩

/-- The Paralleling Unit at a commit, with the voltage window of the Site Record now in force (R139, R160). -/
def parAtCommit (s : State) : Par := { parReset with voltWin := voltWindow s }

/-- R33, R51: the Intake and Measurement Units at a commit. -/
def resetIntake (s : State) : State :=
  let s' := s.modMeas fun m => { thr := m.thr }
  let s' := s'.modIntake fun _ => {}
  if anyStreaming s then note .stream s' else s'

/-- R48, R51: the thresholds formed from the Site Record in force. -/
def refreshThresholds (s : State) : State := s.modMeas fun m => { m with thr := formThresholds s.site }

/-- R160: the Paralleling Unit at a commit, its changes reported. -/
def commitPar (s : State) : State :=
  let s' := s.modPar fun _ => parAtCommit s
  if parSeen s.par = parSeen parReset then s' else note .generator s'

/-- R137: the sequencers at the first moment of SERVICE; the claim is free and the inhibit stands as `keep` says. -/
def seqsAtService (keep : Option Nat) (s : State) : State :=
  s.modSeqs fun _ => { seq1 := seqAtService s .seq1, seq2 := seqAtService s .seq2, claim := none, inhibit := keep }

/-- R171: the Record and Notice Unit at a commit. -/
def commitRecords (s : State) : State := keepEnabledNotices (closeRecords .withdrawn s)

/-- R80: the Protection Unit at a commit; a change of the active group is a group switch. -/
def commitProt (g : Group) (s : State) : State :=
  if s.prot.active = g then protCommit g s else note .protection (protCommit g s)

/-- R184: the entry to SERVICE with STARTING set: its first moment. -/
def enterService (s : State) : State :=
  setPart (.service true) (s.modMgmt fun m => { m with serviceAt := some s.now })

/-- R182 steps 1 to 4, R183: an image comes into force, every block takes its state at a commit and the part enters
SERVICE. `clear` says whether intake and measurement are reset (R33, R51). -/
def bringIntoForce (im : Image) (clear : Bool) (s : State) : State :=
  let s := s.modMgmt fun m =>
    { m with image := some im, edit := none, mode := .live, emu := List.replicate 25 none }
  let s := setStation (s.site.station.getD commissioningNumber) s
  let s := refreshThresholds (if clear then resetIntake s else s)
  let s := commitProt im.group s
  let s := commitArb s
  let s := seqsAtService s.seqs.inhibit s
  let s := commitPar s
  let s := enterService (commitRecords s)
  finish s

/-! ## COMMIT (R182) and DISCARD (R183) -/

/-- R182: COMMIT of an edit set that passed every check. -/
def commitTables (r : Request) (e : Tables) (s : State) : State :=
  requestWrite ⟨r.src, r.tag, r.kind, false⟩ (bringIntoForce ⟨convertTables e, s.prot.active⟩ true s)

/-- R182: COMMIT. -/
def actCommit (r : Request) (s : State) : State :=
  match commitCheck (editSet s) with
  | some (t, row) => answerTo r (.refused .badValue) (.failedCheck t row) s
  | none => commitTables r (editSet s) s

/-- R183: the image that is read, or the tables in force with the settings memory fault set. -/
def discardImage (s : State) : Image × Bool :=
  match takenImage s.nv with
  | some (_, im, _) => (im, s.mgmt.fault)
  | none => (⟨s.tbl, s.prot.active⟩, true)

/-- R183: the image is read and brought into force, and DISCARD is answered. -/
def discardRead (src tag : Nat) (s : State) : State :=
  let x := discardImage s
  let s := bringIntoForce x.1 (decide (x.1.tables ≠ s.tbl)) (s.modMgmt fun m => { m with fault := x.2, discard := none })
  answer src tag (kindCodeOf .discard) .done .nothing s

/-- R183: DISCARD; with a write in progress the read waits for it to end. -/
def actDiscard (r : Request) (s : State) : State :=
  if s.mgmt.write.isSome then s.modMgmt fun m => { m with discard := some (r.src, r.tag) }
  else discardRead r.src r.tag s

/-! ## SELECT_GROUP (R76) -/

/-- R76: the pending group replaced. -/
def setPending (g : Option Group) (s : State) : State := s.modProt fun p => { p with pendingGroup := g }

/-- R76, R175: a second SELECT_GROUP of the pending group is answered with the write that holds the selection. -/
def joinSelection (r : Request) (g : Group) (s : State) : State :=
  let a : HeldAnswer := ⟨r.src, r.tag, r.kind, false⟩
  match s.mgmt.write with
  | none => answerDone r s
  | some w =>
    if w.image.group = g then s.modMgmt fun m => { m with write := some { w with held := w.held ++ [a] } }
    else if w.waiting then s.modMgmt fun m => { m with write := some { w with waitHeld := w.waitHeld ++ [a] } }
    else answerDone r s

/-- R76: SELECT_GROUP. -/
def selectGroup (r : Request) (g : Group) (s : State) : State :=
  let a : HeldAnswer := ⟨r.src, r.tag, r.kind, false⟩
  if s.prot.active = g then
    if s.prot.pendingGroup.isSome then requestWrite a (setPending none s) else answerDone r s
  else if s.prot.pendingGroup = some g then joinSelection r g s
  else requestWrite a (setPending (some g) s)

/-- SELECT_GROUP with its arguments. -/
def actSelectGroup (r : Request) (s : State) : State :=
  match r.args with
  | .group (some g) => selectGroup r g s
  | _ => s

/-! ## SET_MODE (R187 to R191) -/

/-- R187: a present breaker has an order in service, or a sequencer is in a transitional state. -/
def modeBusy (s : State) : Bool :=
  (allSlots.any fun n => (s.brk n).present && (s.slot n).order.isSome) ||
    !isStable s.seqs.seq1.state || !isStable s.seqs.seq2.state

/-- R188, R189: every direct trip line de-energizes at once. -/
def dropLines (s : State) : State :=
  s.modArb fun a => { a with slots := a.slots.map fun x => { x with lineOn := none } }

/-- R191: the real position of a slot is published where it differs from the emulated one. -/
def publishReal (old : State) (s : State) (n : Nat) : State :=
  match old.emuOf n with
  | some e =>
    if (old.brk n).present = true ∧ e.pos ≠ (old.slot n).position then
      (note .position s).post (.posChanged n e.pos (old.slot n).position)
    else s
  | none => s

/-- R191: LOOP is left by SET_MODE; the mode has already changed. DESIGN CHOICE (log 82): the positions are published in
ascending order of slot, and SEQ1 derives before SEQ2. -/
def leaveLoop (s : State) : State :=
  let s' := s.modMgmt fun m => { m with emu := List.replicate 25 none }
  let s' := finish (allSlots.foldl (publishReal s) s')
  finish (deriveUnparked .seq2 (finish (deriveUnparked .seq1 s')))

/-- R189: on entry to LOOP each present slot's emulated position becomes its real one. DESIGN CHOICE (log 96): ORDER frames
that already stand in an URGENT queue stay there, and leave by R9. -/
def enterLoop (s : State) : State :=
  let emu := (List.range 25).map fun n => if (s.brk n).present then some { pos := (s.slot n).position : Emu } else none
  dropLines (s.modMgmt fun m => { m with emu := emu })

/-- R188: on entry to BLOCKED both sequencers are forced to PARKED with no pending park. -/
def enterBlocked (s : State) : State := finish (dropLines (enterParked .seq2 (enterParked .seq1 s)))

/-- R187: the new mode holds at once, and is reported. -/
def setModeField (m : Mode) (s : State) : State := note .sequencer (s.modMgmt fun x => { x with mode := m })

/-- R187 to R191: a change of mode. -/
def changeMode (m : Mode) (s : State) : State :=
  let old := s.mgmt.mode
  let s := setModeField m s
  let s := if old = .loop then leaveLoop s else s
  match m with
  | .live => s
  | .blocked => enterBlocked s
  | .loop => enterLoop s

/-- R187: SET_MODE. -/
def setMode (r : Request) (m : Mode) (s : State) : State :=
  if s.mgmt.mode = m then answerDone r s
  else if modeBusy s then refuse r .busy s
  else answerDone r (changeMode m s)

/-- SET_MODE with its arguments. -/
def actSetMode (r : Request) (s : State) : State :=
  match r.args with
  | .mode (some m) => setMode r m s
  | _ => s

/-! ## RESTART and WARM_RESTART (R14, R186) -/

/-- A frame the part originated. -/
def isOwn : QFrame → Bool
  | .own _ => true
  | .fwd _ => false

/-- R14: a port's queues lose every frame the part originated. -/
def dropOwn (p : PortState) : PortState :=
  { p with urgent := p.urgent.filter fun f => !isOwn f, stream := p.stream.filter fun f => !isOwn f
           bulk := p.bulk.filter fun f => !isOwn f }

/-- R14: the Link Unit at a warm restart. -/
def restartLink (l : Link) : Link := { l with p1 := dropOwn l.p1, p2 := dropOwn l.p2, dup := [] }

/-- R171: the Record and Notice Unit at a warm restart. -/
def restartRecords (s : State) : State :=
  (closeRecords .abandoned s).modRecords fun r => { r with pendingNotices := [], lastSend := none }

/-- R186: the Management Unit at a warm restart. The tables in force are kept until LOADING ends (chapter 9.5). -/
def restartMgmt (m : Mgmt) : Mgmt :=
  { part := .loading, image := m.image, goodBank := m.goodBank, lastGen := m.lastGen, fault := m.fault
    restart := m.restart }

/-- R186: the restart itself: every block takes its state after a warm restart. -/
def warmRestart (s : State) : State :=
  let s := restartRecords s
  let s := { s with
    link := restartLink s.link, intake := {}, meas := {}, prot := {}, seqs := {}, par := {}, mail := []
    arb := { s.arb with slots := s.arb.slots.map fun x => { lock := x.lock } }
    mgmt := restartMgmt s.mgmt }
  restoreLockouts s

/-- R186: the writes have ended and the restart is made. -/
def restartDue (s : State) : Bool :=
  s.mgmt.restart.isSome && s.mgmt.write.isNone && decide (s.mgmt.part ≠ .loading)

/-! ## LOADING (R180) -/

/-- R186: the restart requester is answered DONE, and is cleared. -/
def answerRestart (s : State) : State :=
  match s.mgmt.restart with
  | none => s
  | some (src, tag) =>
    answer src tag (kindCodeOf .restart) .done .nothing (s.modMgmt fun m => { m with restart := none })

/-- R180: the image taken comes into force and the part enters SERVICE with STARTING set. -/
def loadImage (im : Image) (one : Bool) (s : State) : State :=
  let s := s.modMgmt fun m =>
    { m with image := some im, goodBank := some one
             lastGen := max m.lastGen (max (bankGen s.nv.bank0) (bankGen s.nv.bank1)) }
  let s := setStation (s.site.station.getD commissioningNumber) s
  let s := refreshThresholds (s.modProt fun p => { p with active := im.group })
  let s := (seqsAtService none s).modPar fun p => { p with voltWin := voltWindow s }
  finish (enterService s)

/-- R180: no bank is valid; the part enters UNCONFIGURED on the commissioning number. -/
def loadNothing (s : State) : State :=
  let s := s.modMgmt fun m =>
    { m with image := none, goodBank := none, part := .unconfigured
             lastGen := max m.lastGen (max (bankGen s.nv.bank0) (bankGen s.nv.bank1)) }
  setStation commissioningNumber (s.modProt fun p => { p with active := .a })

/-- R180, R186: LOADING ends. -/
def endLoading (s : State) : State :=
  let s := restoreLockouts s
  answerRestart (match takenImage s.nv with
    | some (_, im, one) => loadImage im one s
    | none => loadNothing s)

/-- LOADING ends only in LOADING, with the Link Unit RUNNING. -/
def loadingHolds (s : State) : Bool := s.link.running && decide (s.mgmt.part = .loading)

/-! ## Supply (R12, R13) -/

/-- R185: a write interrupted by a loss of supply leaves its bank without a valid image, so that LOADING takes the image
from before the write (log 71). -/
def interruptedBank (w : Writing) : Bank := .damaged w.gen

/-- R104: what an interrupted write leaves in the copy of the lockout store being written (log 12). -/
def interruptedCopy (free : Nat) (v : NonVol) (content : LockoutSet) : NonVol :=
  if Config.freeBit free then storeCopy content v
  else if v.nextCopy then { v with copy1 := .damaged } else { v with copy0 := .damaged }

/-- The settings memory after a loss of supply. -/
def lossBanks (s : State) : State :=
  match s.mgmt.write with
  | some w => putBank w.bank (interruptedBank w) s
  | none => s

/-- The lockout store after a loss of supply. -/
def lossStore (s : State) : State :=
  s.modNv fun v =>
    { (match v.storeWrite with
        | some c => interruptedCopy s.free v c
        | none => v) with
      storeWrite := none, storeWaiting := false, restoreWait := false }

/-- R12, R13: everything but the non-volatile memories is lost. The wall clock, the counter of free values and the
commands that wait are the model's own and go on. -/
def volatileLost (supplied : Bool) (s : State) : State :=
  let v := (lossStore (lossBanks s)).nv
  { now := s.now, free := s.free + 1, supply := supplied, nv := v, pending := s.pending }

/-- R12: initialization of the Link Unit ends. -/
def linkReady (s : State) : State := s.modLink fun _ => { running := true }

/-! ## Commands -/

/-- POWER_ON (R12): supply is applied. -/
def execPowerOn (s : State) : Host.Outcome State Fault Refusal :=
  .next (if s.supply then s else volatileLost true s)

/-- LINK_INIT_END (R12): the part is in LOADING from the application of supply. -/
def execLinkInitEnd (s : State) : Host.Outcome State Fault Refusal :=
  .next (if s.supply ∧ s.link.running = false then linkReady s else s)

/-- SUPPLY_LOSS (R13). -/
def execSupplyLoss (s : State) : Host.Outcome State Fault Refusal :=
  .next (if s.supply then volatileLost false s else s)

/-- WRITE_ROW (R178). -/
def execWriteRow (s : State) : Host.Outcome State Fault Refusal := .next (takeKind .writeRow actWriteRow s)

/-- ENTER_CONFIG (R181). -/
def execEnterConfig (s : State) : Host.Outcome State Fault Refusal :=
  .next (takeKind .enterConfig (fun r s => answerDone r (enterConfig s)) s)

/-- COMMIT (R182). -/
def execCommit (s : State) : Host.Outcome State Fault Refusal := .next (takeKind .commit actCommit s)

/-- DISCARD (R183). -/
def execDiscard (s : State) : Host.Outcome State Fault Refusal := .next (takeKind .discard actDiscard s)

/-- DISCARD_READ (R183): the write in progress at DISCARD has ended. -/
def execDiscardRead (s : State) : Host.Outcome State Fault Refusal :=
  .next (match s.mgmt.discard, s.mgmt.write with
    | some (src, tag), none => settleQueue (discardRead src tag s)
    | _, _ => s)

/-- SELECT_GROUP (R76). -/
def execSelectGroup (s : State) : Host.Outcome State Fault Refusal := .next (takeKind .selectGroup actSelectGroup s)

/-- SET_MODE (R187). -/
def execSetMode (s : State) : Host.Outcome State Fault Refusal := .next (takeKind .setMode actSetMode s)

/-- RESTART (R186): the requester is recorded. -/
def execRestart (s : State) : Host.Outcome State Fault Refusal :=
  .next (takeKind .restart (fun r s => s.modMgmt fun m => { m with restart := some (r.src, r.tag) }) s)

/-- WARM_RESTART (R186). -/
def execWarmRestart (s : State) : Host.Outcome State Fault Refusal :=
  .next (if restartDue s then warmRestart s else s)

/-- SETTINGS_WRITE_END (R185). -/
def execSettingsWriteEnd (ok : Bool) (s : State) : Host.Outcome State Fault Refusal := .next (endWrite ok s)

/-- LOCKOUT_STORE_WRITE_END (R104). -/
def execLockoutStoreWriteEnd (s : State) : Host.Outcome State Fault Refusal := .next (endStoreWrite s)

/-- LOADING_END (R180). -/
def execLoadingEnd (s : State) : Host.Outcome State Fault Refusal :=
  .next (if loadingHolds s then endLoading s else s)

end Sys2Proof.Machine
end

