-- ==== Sys2Proof/Machine/Requests.lean ====
section
/-!
DEFINITION. The requests settled by the Arbiter, the sequencers, the Paralleling Unit and the Record and Notice Unit
(R176), and the commands that are expiries of the wall clock. An expiry that falls when nothing is due has no effect
(R110).
-/

namespace Sys2Proof.Machine

/-! ## OPERATE (R89 to R92, R98) -/

/-- R175: the answer to OPERATE reports acceptance or the Arbiter's reason. -/
def answerReply (r : Request) (reply : Reply) (s : State) : State :=
  match reply with
  | .refused why => refuse r why s
  | .noChange | .taken _ => answerDone r s

/-- R176: OPR-O or OPR-C. -/
def operate (r : Request) (n : Nat) (t : OrdType) (s : State) : State :=
  let who : Requester := .manager r.src r.tag
  let x := match t with
    | .opn => raiseOpen .oprO who n s
    | .close => raiseClose .oprC who n s
  answerReply r x.2 (finish x.1)

/-- OPERATE with its arguments. -/
def actOperate (r : Request) (s : State) : State :=
  match r.args with
  | .operate n (some t) => operate r n t s
  | _ => s

/-! ## RESET_LOCKOUT (R105) -/

/-- R105: a lockout is not set, is held by an active setter, or may be cleared. -/
def anyActive (s : State) (l : Lockout) : Bool := l.setters.any (setterActive s)

/-- R105: the breaker lockout of a slot. -/
def resetSlotLockout (r : Request) (n : Nat) (s : State) : State :=
  let l := (s.slot n).lock
  if l.isSet = false then answerDone r s
  else if anyActive s l then refuse r .busy s
  else answerDone r (lockoutChanged (s.modSlot n fun a => { a with lock := {} }))

/-- R105: the bus lockout of a bus; its clearing is published (R133). -/
def resetBusLockout (r : Request) (b : Bus) (s : State) : State :=
  let l := s.busLock b
  if l.isSet = false then answerDone r s
  else if anyActive s l then refuse r .busy s
  else answerDone r (finish ((lockoutChanged (s.setBusLock b {})).post (.busLockCleared b)))

/-- RESET_LOCKOUT with its arguments. -/
def actResetLockout (r : Request) (s : State) : State :=
  match r.args with
  | .lockSlot n => resetSlotLockout r n s
  | .lockBus (some b) => resetBusLockout r b s
  | _ => s

/-! ## CLEAR (R30, R72, R144, R167) -/

/-- R144: CLEAR with the GENERATORS subset. DESIGN CHOICE (log 90): the FAILED generators are taken from G1 to G8. -/
def clearGenerators (s : State) : State := finish ((presentGens s).foldl (fun s k => clearFailed k s) s)

/-- R176: the subsets named, in the order listed. -/
def clearSubsets (targets divergence generators records : Bool) (s : State) : State :=
  let s := if targets then clearTargets s else s
  let s := if divergence then clearAllDivergence s else s
  let s := if generators then clearGenerators s else s
  if records then clearRecords s else s

/-- CLEAR with its arguments. -/
def actClear (r : Request) (s : State) : State :=
  match r.args with
  | .clear t d g x => answerDone r (clearSubsets t d g x s)
  | _ => s

/-! ## The sequencers' requests (R125, R134 to R136) -/

/-- R136: INHIBIT_TRANSFER with its arguments; a duration above 3,600 s is brought to 3,600. -/
def actInhibit (r : Request) (s : State) : State :=
  match r.args with
  | .duration n =>
    answerTo r (doneStatus (decide (3600 < n))) .nothing (finish (setInhibit (min 3600 n) s))
  | _ => s

/-- The sequencer an argument names. -/
def seqOfArgs : Args → SeqId
  | .sequencer n => if n = 2 then .seq2 else .seq1
  | _ => .seq1

/-- R109: an inactive sequencer in SERVICE refuses every request. -/
def seqRequest (act : SeqId → Request → State → State) (r : Request) (s : State) : State :=
  let q := seqOfArgs r.args
  if s.inService = true ∧ seqActive s q = false then refuse r .wrongState s else act q r s

/-- R134, R138: PARK; in CONFIG it changes nothing. -/
def actPark (q : SeqId) (r : Request) (s : State) : State :=
  answerDone r (if s.inConfig then s else finish (parkSeq q s))

/-- A request that a sequencer takes or refuses with WRONG_STATE. -/
def tryRequest (x : Option State) (r : Request) (s : State) : State :=
  match x with
  | some s' => answerDone r (finish s')
  | none => refuse r .wrongState s

/-- R134: RESUME. -/
def actResume (q : SeqId) (r : Request) (s : State) : State := tryRequest (resumeSeq q s) r s

/-- R135: ABORT. -/
def actAbort (q : SeqId) (r : Request) (s : State) : State := tryRequest (abortSeq q s) r s

/-- R125: RETRANSFER_NOW. -/
def actRetransfer (q : SeqId) (r : Request) (s : State) : State :=
  if (s.seq q).state = .returnWatch then
    if s.inhibitActive then refuse r .busy s else answerDone r (finish (beginReturn q s))
  else refuse r .wrongState s

/-! ## DISCARD_RECORD (R167) -/

/-- R167: the oldest COMPLETE record is removed when it has the number named. -/
def removeRecord (r : Request) (n : Nat) (s : State) : State :=
  match oldestComplete s with
  | some x => if x.number = n then answerDone r (discardRecord n s) else refuse r .badRow s
  | none => refuse r .badRow s

/-- DISCARD_RECORD with its arguments. -/
def actDiscardRecord (r : Request) (s : State) : State :=
  match r.args with
  | .recordNo n => removeRecord r n s
  | _ => s

/-! ## Request commands -/

/-- OPERATE (R89). -/
def execOperate (s : State) : Host.Outcome State Fault Refusal := .next (takeKind .operate actOperate s)

/-- RESET_LOCKOUT (R105). -/
def execResetLockout (s : State) : Host.Outcome State Fault Refusal := .next (takeKind .resetLockout actResetLockout s)

/-- CLEAR (R176). -/
def execClear (s : State) : Host.Outcome State Fault Refusal := .next (takeKind .clear actClear s)

/-- INHIBIT_TRANSFER (R136). -/
def execInhibitTransfer (s : State) : Host.Outcome State Fault Refusal := .next (takeKind .inhibitTransfer actInhibit s)

/-- PARK (R134). -/
def execPark (s : State) : Host.Outcome State Fault Refusal := .next (takeKind .park (seqRequest actPark) s)

/-- RESUME (R134). -/
def execResume (s : State) : Host.Outcome State Fault Refusal := .next (takeKind .resume (seqRequest actResume) s)

/-- ABORT (R135). -/
def execAbort (s : State) : Host.Outcome State Fault Refusal := .next (takeKind .abort (seqRequest actAbort) s)

/-- RETRANSFER_NOW (R125). -/
def execRetransferNow (s : State) : Host.Outcome State Fault Refusal :=
  .next (takeKind .retransferNow (seqRequest actRetransfer) s)

/-- DISCARD_RECORD (R167). -/
def execDiscardRecord (s : State) : Host.Outcome State Fault Refusal :=
  .next (takeKind .discardRecord actDiscardRecord s)

/-! ## Expiries of the Arbiter -/

/-- An act that is carried out when it is due, its messages delivered. -/
def whenDue (due : Bool) (act : State → State) (s : State) : State := if due then finish (act s) else s

/-- ORDER_REPEAT (R88). -/
def execOrderRepeat (n : Nat) (s : State) : Host.Outcome State Fault Refusal :=
  .next (if repeatDue s n then repeatOrder n s else s)

/-- OPEN_LIMIT_EXPIRY (R96). -/
def execOpenLimitExpiry (n : Nat) (s : State) : Host.Outcome State Fault Refusal :=
  .next (whenDue (openLimitDue s n) (failOpen n) s)

/-- CLOSE_LIMIT_EXPIRY (R96). -/
def execCloseLimitExpiry (n : Nat) (s : State) : Host.Outcome State Fault Refusal :=
  .next (whenDue (closeLimitDue s n) (failClose n) s)

/-- WITHDRAW_RESEND (R97). -/
def execWithdrawResend (n : Nat) (s : State) : Host.Outcome State Fault Refusal :=
  .next (if withdrawDue s n then resendWithdraw n s else s)

/-- TRAVEL_TIMEOUT (R86). -/
def execTravelTimeout (n : Nat) (s : State) : Host.Outcome State Fault Refusal :=
  .next (whenDue (travelDue s n) (setRealPos n .faulty) s)

/-- POSITION_SILENCE (R86). -/
def execPositionSilence (n : Nat) (s : State) : Host.Outcome State Fault Refusal :=
  .next (whenDue (silenceDue s n) (silencePosition n) s)

/-- OPERATOR_WINDOW_EXPIRY (R98). -/
def execOperatorWindowExpiry (n : Nat) (s : State) : Host.Outcome State Fault Refusal :=
  .next (if windowDue s n then s.modSlot n fun a => { a with window := none } else s)

/-- R101, R102: the BF timer of a TIMING slot has reached the BF time. -/
def bfOperateDue (s : State) (n : Nat) : Bool :=
  decide ((s.slot n).bf = .timing) && decide (bfUpdates s n ≤ (s.slot n).bfTimer)

/-- BF_OPERATE (R102). -/
def execBfOperate (n : Nat) (s : State) : Host.Outcome State Fault Refusal :=
  .next (whenDue (bfOperateDue s n) (operateBf n) s)

/-- DIRECT_TRIP_RELEASE (R106). -/
def execDirectTripRelease (n : Nat) (s : State) : Host.Outcome State Fault Refusal := .next (releaseLine n s)

/-- R189: a move that is due is taken. -/
def moveIfDue (n : Nat) (s : State) : State :=
  match moveDue s n with
  | some t => finish (takeMove n t s)
  | none => s

/-- EMULATED_MOVE_DUE (R189). -/
def execEmulatedMoveDue (n : Nat) (s : State) : Host.Outcome State Fault Refusal := .next (moveIfDue n s)

/-! ## Expiries of the sequencers -/

/-- STARTUP_TIMER_EXPIRY (R114). -/
def execStartupTimerExpiry (q : SeqId) (s : State) : Host.Outcome State Fault Refusal :=
  .next (whenDue (startupDue s q) (derive q) s)

/-- LOSS_TIMER_EXPIRY (R118). -/
def execLossTimerExpiry (q : SeqId) (s : State) : Host.Outcome State Fault Refusal :=
  .next (whenDue (lossDue s q) (lossExpired q) s)

/-- DEAD_TIMER_EXPIRY (R120, R123, R124, R130). -/
def execDeadTimerExpiry (q : SeqId) (s : State) : Host.Outcome State Fault Refusal :=
  .next (whenDue (deadDue s q) (deadExpired q) s)

/-- RETRANSFER_TIMER_EXPIRY (R125). -/
def execRetransferTimerExpiry (q : SeqId) (s : State) : Host.Outcome State Fault Refusal :=
  .next (whenDue (retransferDue s q) (retransferExpired q) s)

/-- PARALLEL_TIMER_EXPIRY (R127). -/
def execParallelTimerExpiry (q : SeqId) (s : State) : Host.Outcome State Fault Refusal :=
  .next (whenDue (parallelDue s q) (raiseOverrun q) s)

/-- SOFT_LIMIT_EXPIRY (R128). -/
def execSoftLimitExpiry (q : SeqId) (s : State) : Host.Outcome State Fault Refusal :=
  .next (whenDue (softDue s q) (endSoft q) s)

/-- RESTORE_TIMER_EXPIRY (R122, R132). -/
def execRestoreTimerExpiry (q : SeqId) (s : State) : Host.Outcome State Fault Refusal :=
  .next (whenDue (restoreDue s q) (restoreExpired q) s)

/-- R136: the transfer inhibit has reached its end time. -/
def inhibitDue (s : State) : Bool := timerDue s s.seqs.inhibit

/-- INHIBIT_END (R136). -/
def execInhibitEnd (s : State) : Host.Outcome State Fault Refusal := .next (whenDue (inhibitDue s) endInhibit s)

/-! ## Expiries of the Paralleling Unit -/

/-- STOP_TIMER_EXPIRY (R146). -/
def execStopTimerExpiry (s : State) : Host.Outcome State Fault Refusal :=
  .next (whenDue (timerDue s s.par.stopTimer) stopExpired s)

/-- STATUS_LOSS (R141). -/
def execStatusLoss (k : Nat) (s : State) : Host.Outcome State Fault Refusal :=
  .next (whenDue (statusLossDue s k) (loseStatus k) s)

/-- SYNC_WAIT_LIMIT (R153). -/
def execSyncWaitLimit (n : Nat) (s : State) : Host.Outcome State Fault Refusal :=
  .next (whenDue (syncWaitDue s n) (expireSyncWait n) s)

end Sys2Proof.Machine
end

