-- ==== Sys2Proof/Machine/Clock.lean ====
section
/-!
DEFINITION. The wall clock (log 1, log 2): the commands that fall due by themselves at a moment, and the tick an
empty queue takes. Ends of transmissions and of non-volatile writes, the end of LOADING and of the Link Unit's
initialization, frames, ports and supply come from outside; index-time events come about in the processing (log 3).
-/

namespace Sys2Proof.Machine

/-- A command, where it is due. -/
def ifDue (due : Bool) (i : Instr) : List Instr := if due then [i] else []

/-- Commands of one slot. -/
def dueAtSlot (s : State) (n : Nat) : List Instr :=
  ifDue (repeatDue s n) (.orderRepeat n) ++ ifDue (openLimitDue s n) (.openLimitExpiry n) ++
  ifDue (closeLimitDue s n) (.closeLimitExpiry n) ++ ifDue (withdrawDue s n) (.withdrawResend n) ++
  ifDue (travelDue s n) (.travelTimeout n) ++ ifDue (silenceDue s n) (.positionSilence n) ++
  ifDue (windowDue s n) (.operatorWindowExpiry n) ++ ifDue (lineReleasable s n) (.directTripRelease n) ++
  ifDue (syncWaitDue s n) (.syncWaitLimit n) ++ ifDue (moveDue s n).isSome (.emulatedMoveDue n)

/-- Commands of one sequencer. -/
def dueAtSeq (s : State) (q : SeqId) : List Instr :=
  ifDue (startupDue s q) (.startupTimerExpiry q) ++ ifDue (lossDue s q) (.lossTimerExpiry q) ++
  ifDue (deadDue s q) (.deadTimerExpiry q) ++ ifDue (retransferDue s q) (.retransferTimerExpiry q) ++
  ifDue (parallelDue s q) (.parallelTimerExpiry q) ++ ifDue (softDue s q) (.softLimitExpiry q) ++
  ifDue (restoreDue s q) (.restoreTimerExpiry q)

/-- R4: the retired number is 1,000 ms old. -/
def retiredDue (s : State) : Bool :=
  match s.link.retired with
  | some (_, t) => decide (t + ms 1000 ≤ s.now)
  | none => false

/-- R7: an entry of the duplicate filter is 500 ms old. -/
def dupDue (s : State) : Bool := s.link.dup.any fun e => decide (e.arrival + ms 500 ≤ s.now)

/-- R174: the row that takes a request of a kind code. -/
def requestRow (kind : Nat) : List Instr :=
  match kind with
  | 1 => [.readStatus]
  | 2 => [.readPoint]
  | 3 => [.readBreaker]
  | 4 => [.readElement]
  | 5 => [.readGenerator]
  | 6 => [.readRow]
  | 7 => [.writeRow]
  | 8 => [.enterConfig]
  | 9 => [.commit]
  | 10 => [.discard]
  | 11 => [.selectGroup]
  | 12 => [.setMode]
  | 13 => [.operate]
  | 14 => [.resetLockout]
  | 15 => [.clear]
  | 16 => [.inhibitTransfer]
  | 17 => [.park]
  | 18 => [.resume]
  | 19 => [.abort]
  | 20 => [.retransferNow]
  | 21 => [.readRecord]
  | 22 => [.discardRecord]
  | 23 => [.restart]
  | _ => []

/-- R174: the request at the head, when the unit may take it. -/
def dueRequest (s : State) : List Instr :=
  match unitFree s, s.mgmt.requests with
  | true, r :: _ => requestRow r.kind
  | _, _ => []

/-- R183: the read that a DISCARD waits for. -/
def discardDue (s : State) : Bool := s.mgmt.discard.isSome && s.mgmt.write.isNone

/-- Every command that is due by itself at this moment. -/
def due (s : State) : List Instr :=
  ifDue (retiredDue s) .retiredNumberExpiry ++ ifDue (dupDue s) .duplicateFilterExpiry ++
  ifDue (fallbackDue s) .fallback ++ allSlots.flatMap (dueAtSlot s) ++ dueAtSeq s .seq1 ++ dueAtSeq s .seq2 ++
  ifDue (inhibitDue s) .inhibitEnd ++ ifDue (timerDue s s.par.stopTimer) .stopTimerExpiry ++
  allGens.flatMap (fun k => ifDue (statusLossDue s k) (.statusLoss k)) ++
  ifDue (s.siteInForce && noticeDue s) .noticeSend ++ dueRequest s ++ ifDue (discardDue s) .discardRead ++
  ifDue (restartDue s) .warmRestart

/-- Commands that fall due together are taken in an order that begins at a free place (log 2). -/
def rotate (n : Nat) (l : List Instr) : List Instr := l.drop (n % l.length) ++ l.take (n % l.length)

/-- The tick of an empty queue: one microsecond passes, and the commands then due wait (log 1, log 2). -/
def tick (s : State) : State :=
  let s := { s with now := s.now + 1 }
  match due s with
  | [] => { s with pending := [] }
  | [i] => { s with pending := [i] }
  | l => { s with pending := rotate (Config.freeNat s.free) l, free := s.free + 1 }

end Sys2Proof.Machine
end

