-- ==== Sys2Proof/Machine/Dispatch.lean ====
section
/-!
DEFINITION. exec: one arm for each command, each one call of its meaning.
-/

namespace Sys2Proof.Machine

/-- The effect of a command on everything but the queue of waiting commands. -/
def exec (i : Instr) (s : State) : Host.Outcome State Fault Refusal :=
  match i with
  | .powerOn => Sys2Proof.Machine.execPowerOn s
  | .linkInitEnd => Sys2Proof.Machine.execLinkInitEnd s
  | .supplyLoss => Sys2Proof.Machine.execSupplyLoss s
  | .portLinkUp p => Sys2Proof.Machine.execPortLinkUp p s
  | .portLinkDown p => Sys2Proof.Machine.execPortLinkDown p s
  | .badFrame p f => Sys2Proof.Machine.execBadFrame p f s
  | .foreignFrame p f => Sys2Proof.Machine.execForeignFrame p f s
  | .forwardedFrame p f => Sys2Proof.Machine.execForwardedFrame p f s
  | .sample p f => Sys2Proof.Machine.execSample p f s
  | .position p f => Sys2Proof.Machine.execPosition p f s
  | .genstat p f => Sys2Proof.Machine.execGenstat p f s
  | .manage p f => Sys2Proof.Machine.execManage p f s
  | .frameTransmitEnd p => Sys2Proof.Machine.execFrameTransmitEnd p s
  | .retiredNumberExpiry => Sys2Proof.Machine.execRetiredNumberExpiry s
  | .duplicateFilterExpiry => Sys2Proof.Machine.execDuplicateFilterExpiry s
  | .fallback => Sys2Proof.Machine.execFallback s
  | .streamGood sub => Sys2Proof.Machine.execStreamGood sub s
  | .streamLost sub => Sys2Proof.Machine.execStreamLost sub s
  | .holdExpiry pt ph kind => Sys2Proof.Machine.execHoldExpiry pt ph kind s
  | .divergentSet pt ph => Sys2Proof.Machine.execDivergentSet pt ph s
  | .divergentClear pt ph => Sys2Proof.Machine.execDivergentClear pt ph s
  | .directionMemoryExpiry slot ph => Sys2Proof.Machine.execDirectionMemoryExpiry slot ph s
  | .trackerEmpty v => Sys2Proof.Machine.execTrackerEmpty v s
  | .qualifierDeclare v => Sys2Proof.Machine.execQualifierDeclare v s
  | .tocOperate row => Sys2Proof.Machine.execTocOperate row s
  | .definiteTimeOperate row => Sys2Proof.Machine.execDefiniteTimeOperate row s
  | .tocResetEnd row => Sys2Proof.Machine.execTocResetEnd row s
  | .orderRepeat slot => Sys2Proof.Machine.execOrderRepeat slot s
  | .openLimitExpiry slot => Sys2Proof.Machine.execOpenLimitExpiry slot s
  | .closeLimitExpiry slot => Sys2Proof.Machine.execCloseLimitExpiry slot s
  | .withdrawResend slot => Sys2Proof.Machine.execWithdrawResend slot s
  | .travelTimeout slot => Sys2Proof.Machine.execTravelTimeout slot s
  | .positionSilence slot => Sys2Proof.Machine.execPositionSilence slot s
  | .operatorWindowExpiry slot => Sys2Proof.Machine.execOperatorWindowExpiry slot s
  | .bfOperate slot => Sys2Proof.Machine.execBfOperate slot s
  | .lockoutStoreWriteEnd => Sys2Proof.Machine.execLockoutStoreWriteEnd s
  | .directTripRelease slot => Sys2Proof.Machine.execDirectTripRelease slot s
  | .startupTimerExpiry q => Sys2Proof.Machine.execStartupTimerExpiry q s
  | .lossTimerExpiry q => Sys2Proof.Machine.execLossTimerExpiry q s
  | .deadTimerExpiry q => Sys2Proof.Machine.execDeadTimerExpiry q s
  | .retransferTimerExpiry q => Sys2Proof.Machine.execRetransferTimerExpiry q s
  | .parallelTimerExpiry q => Sys2Proof.Machine.execParallelTimerExpiry q s
  | .softLimitExpiry q => Sys2Proof.Machine.execSoftLimitExpiry q s
  | .restoreTimerExpiry q => Sys2Proof.Machine.execRestoreTimerExpiry q s
  | .inhibitEnd => Sys2Proof.Machine.execInhibitEnd s
  | .stopTimerExpiry => Sys2Proof.Machine.execStopTimerExpiry s
  | .statusLoss gen => Sys2Proof.Machine.execStatusLoss gen s
  | .syncFire channel => Sys2Proof.Machine.execSyncFire channel s
  | .syncWaitLimit slot => Sys2Proof.Machine.execSyncWaitLimit slot s
  | .noticeSend => Sys2Proof.Machine.execNoticeSend s
  | .readStatus => Sys2Proof.Machine.execReadStatus s
  | .readPoint => Sys2Proof.Machine.execReadPoint s
  | .readBreaker => Sys2Proof.Machine.execReadBreaker s
  | .readElement => Sys2Proof.Machine.execReadElement s
  | .readGenerator => Sys2Proof.Machine.execReadGenerator s
  | .readRow => Sys2Proof.Machine.execReadRow s
  | .writeRow => Sys2Proof.Machine.execWriteRow s
  | .enterConfig => Sys2Proof.Machine.execEnterConfig s
  | .commit => Sys2Proof.Machine.execCommit s
  | .discard => Sys2Proof.Machine.execDiscard s
  | .discardRead => Sys2Proof.Machine.execDiscardRead s
  | .selectGroup => Sys2Proof.Machine.execSelectGroup s
  | .setMode => Sys2Proof.Machine.execSetMode s
  | .operate => Sys2Proof.Machine.execOperate s
  | .resetLockout => Sys2Proof.Machine.execResetLockout s
  | .clear => Sys2Proof.Machine.execClear s
  | .inhibitTransfer => Sys2Proof.Machine.execInhibitTransfer s
  | .park => Sys2Proof.Machine.execPark s
  | .resume => Sys2Proof.Machine.execResume s
  | .abort => Sys2Proof.Machine.execAbort s
  | .retransferNow => Sys2Proof.Machine.execRetransferNow s
  | .readRecord => Sys2Proof.Machine.execReadRecord s
  | .discardRecord => Sys2Proof.Machine.execDiscardRecord s
  | .restart => Sys2Proof.Machine.execRestart s
  | .warmRestart => Sys2Proof.Machine.execWarmRestart s
  | .settingsWriteEnd readBackOk => Sys2Proof.Machine.execSettingsWriteEnd readBackOk s
  | .loadingEnd => Sys2Proof.Machine.execLoadingEnd s
  | .emulatedMoveDue slot => Sys2Proof.Machine.execEmulatedMoveDue slot s

end Sys2Proof.Machine
end

