-- ==== Sys2Proof/Safety.lean ====
section
/-!
DEFINITION. What the statements call a safe state: every table of slots of its size, every buffer within its capacity,
every bias within its range, and no direct trip line energized outside LIVE; and the words in which they say what a
command leaves alone, when it finds what it needs, what a tick finds due, and what an update or a sequencer's act brings
about.
-/

namespace Sys2Proof.Machine

/-! ## Safe states -/

/-- R8: the three egress queues of a port are within their capacities. -/
def portOk (p : PortState) : Prop := p.urgent.length ≤ 8 ∧ p.stream.length ≤ 32 ∧ p.bulk.length ≤ 16

/-- R155, R156: a bias lies in −1,000 to +1,000. -/
def biasOk (g : Gen) : Prop := -1000 ≤ g.bias ∧ g.bias ≤ 1000

/-- R188, R189: outside LIVE no direct trip line is energized. -/
def linesOk (m : Mode) (a : Arb) : Prop := m ≠ .live → ∀ x ∈ a.slots, x.lineOn = none

/-- Every part holds as many slots, points, rows, generators and channels as the part has (00_scope.md), every buffer
is within its capacity (R7, R8, R163, R173), every bias within its range (R156), and no line is energized outside LIVE
(R188, R189). -/
structure State.Safe (s : State) : Prop where
  port1 : portOk s.link.p1
  port2 : portOk s.link.p2
  dup : s.link.dup.length ≤ 8
  requests : s.mgmt.requests.length ≤ 4
  records : s.records.queue.length ≤ 16
  biases : ∀ g ∈ s.par.gens, biasOk g
  lines : linesOk s.mgmt.mode s.arb
  slots : s.arb.slots.length = 25
  gens : s.par.gens.length = 8
  channels : s.par.channels.length = 4
  views : s.records.bfView.length = 25
  streams : s.intake.streams.length = 48
  elements : s.prot.slots.length = 64

/-! ## What a command leaves alone -/

/-- `t` is `s` but for the Link Unit. -/
def onlyLink (s t : State) : Prop := t = { s with link := t.link }

/-- `t` is `s` but for the Link Unit and the request queue. -/
def onlyLinkRequests (s t : State) : Prop :=
  t = { s with link := t.link, mgmt := { s.mgmt with requests := t.mgmt.requests } }

/-- `t` is `s` but for the two ports. -/
def onlyPorts (s t : State) : Prop := t = { s with link := { s.link with p1 := t.link.p1, p2 := t.link.p2 } }

/-- `t` is `s` but for one port. -/
def onlyPort (p : Port) (s t : State) : Prop :=
  onlyPorts s t ∧ portOf t.link (oppositePort p) = portOf s.link (oppositePort p)

/-- R1, R8, R9: `t` is `s` after a frame is directed to a queue of a port: dropped when the port is DOWN or the queue full,
else at the tail of the queue, from which an idle port takes its next frame at once. -/
def directed (p : Port) (q : Egress) (f : QFrame) (s t : State) : Prop :=
  onlyPort p s t ∧
    if (portOf s.link p).up = true ∧ (queueOf (portOf s.link p) q).length < capacity q then
      portOf t.link p = takeNext (setQueue (portOf s.link p) q (queueOf (portOf s.link p) q ++ [f]))
    else portOf t.link p = portOf s.link p

/-- R4, R5, R8: `t` is `s` once a frame with header `h`, received on port `p`, has been forwarded to queue `q` of the
opposite port, or kept from it, by the first row that applies. -/
def Forwarded (p : Port) (f : EthFrame) (h : Header) (q : Egress) (s t : State) : Prop :=
  (s.link.station = none → directed (oppositePort p) q (.fwd f) s t) ∧
    ∀ own, s.link.station = some own →
      let gone := h.src = own ∨ (∃ since, s.link.retired = some (h.src, since) ∧ s.now < since + 1000000) ∨ h.dest = own
      (gone → t = s) ∧ (¬gone → directed (oppositePort p) q (.fwd f) s t)

/-- Every sequencer but `q` is as it was. -/
def onlySeq (q : SeqId) (s t : State) : Prop := t.seq (otherSeq q) = s.seq (otherSeq q)

/-- Every slot but `n`, and every bus lockout, is as it was. -/
def onlySlot (n : Nat) (s t : State) : Prop :=
  (∀ m, m ≠ n → t.slot m = s.slot m) ∧ t.arb.bus1 = s.arb.bus1 ∧ t.arb.bus2 = s.arb.bus2 ∧ t.arb.gbus = s.arb.gbus

/-- What the Arbiter, the sequencers, the Paralleling Unit and the Record and Notice Unit never touch while they settle
a command among themselves: the clocks, the station number, intake, measurement and protection, the non-volatile
memories, the transfer inhibit, and the Management Unit but for the emulator and the end of STARTING. -/
structure SameOutside (s t : State) : Prop where
  now : t.now = s.now
  supply : t.supply = s.supply
  intake : t.intake = s.intake
  meas : t.meas = s.meas
  prot : t.prot = s.prot
  nv : t.nv = s.nv
  pending : t.pending = s.pending
  running : t.link.running = s.link.running
  station : t.link.station = s.link.station
  retired : t.link.retired = s.link.retired
  dup : t.link.dup = s.link.dup
  inhibit : t.seqs.inhibit = s.seqs.inhibit
  mgmt : t.mgmt = { s.mgmt with emu := t.mgmt.emu, part := t.mgmt.part }
  part : t.mgmt.part = s.mgmt.part ∨ s.mgmt.part = .service true ∧ t.mgmt.part = .service false

/-! ## When a command finds what it needs -/

/-- R5, R6: a frame of a kind reaches the block its copy is for. -/
structure Inward (k : FrameKind) (p : Port) (f : EthFrame) (h : Header) (s : State) : Prop where
  received : receiving s p = true
  frame : frameClass f = .vendor h
  kind : h.kind = k
  offered : offeredInward s h = true

/-- R6, R17: a SAMPLE frame of an enabled subscription, with the channel count its row expects. -/
structure SampleFor (p : Port) (f : EthFrame) (h : Header) (x : SamplePayload) (r : Nat) (s : State) : Prop where
  inward : Inward .sample p f h s
  payload : samplePayload h f.body = some x
  row : subscriptionOf s h.src x.stream = some r
  count : x.values.length = (s.sub r).count

/-- R174: the head of the request queue is of kind `k`, the unit may take it, and it passes the five tests. -/
structure Taken (k : Kind) (r : Request) (rest : List Request) (s : State) : Prop where
  head : s.mgmt.requests = r :: rest
  kind : r.kind = kindCodeOf k
  free : unitFree s = true
  rights : ∃ x, managerRights s r.src = some x ∧ includesRight x (rightOf k) = true
  shape : argsShape k r.args = true
  state : takenNow k s.mgmt.part = true
  numbered : argsNumbered r.args = true

/-- R173, R174: the head of the request queue, if there is one, waits to be taken up by a request row. -/
def headWaits (s : State) : Prop :=
  unitFree s = false ∨
    ∀ r ∈ s.mgmt.requests.head?, (managerRights s r.src).isSome = true ∧ knownKind r.kind = true

/-- An order of a slot is ISSUED, and its limit in milliseconds has passed (R96). -/
structure PastLimit (n : Nat) (t : OrdType) (limit : Nat) (o : Order) (issued : Nat) (s : State) : Prop where
  slot : n < 25
  order : (s.slot n).order = some o
  type : o.type = t
  phase : o.phase = .issued
  time : o.issueTime = some issued
  due : issued + limit * 1000 ≤ s.now

/-! ## What a tick finds due -/

/-- The commands that are due by themselves in `s`, each with the condition of its rule. That a tick queues these, and leaves
every other command to whoever drives the part, is the model's (log 1, log 14). -/
inductive DueNow (s : State) : Instr → Prop
  /-- R4. -/
  | retiredNumber (n since : Nat) : s.link.retired = some (n, since) → since + 1000000 ≤ s.now →
      DueNow s .retiredNumberExpiry
  /-- R7. -/
  | duplicate (e : DupEntry) : e ∈ s.link.dup → e.arrival + 500000 ≤ s.now → DueNow s .duplicateFilterExpiry
  /-- R21, R22. -/
  | fallback (k last : Nat) : s.blocksRun = true → s.intake.k = some k → s.intake.lastProc = some last →
      last + (if s.fNom = 60 then 2083 else 2500) ≤ s.now → DueNow s .fallback
  /-- R88. -/
  | orderRepeat (n : Nat) (o : Order) : n < 25 → (s.slot n).order = some o → o.phase = .issued → o.nextRepeat ≤ s.now →
      DueNow s (.orderRepeat n)
  /-- R96. -/
  | openLimit (n t : Nat) (o : Order) : PastLimit n .opn (s.brk n).openLimit o t s → DueNow s (.openLimitExpiry n)
  /-- R96. -/
  | closeLimit (n t : Nat) (o : Order) : PastLimit n .close (s.brk n).closeLimit o t s → DueNow s (.closeLimitExpiry n)
  /-- R97. -/
  | withdraw (n : Nat) (w : Withdraw) : n < 25 → (s.slot n).withdraw = some w → w.next ≤ s.now →
      DueNow s (.withdrawResend n)
  /-- R86. -/
  | travel (n t : Nat) : n < 25 → (s.slot n).position = .travel → (s.slot n).travelAt = some t →
      t + max (s.brk n).openLimit (s.brk n).closeLimit * 1000 ≤ s.now → DueNow s (.travelTimeout n)
  /-- R86. -/
  | silence (n t : Nat) : n < 25 → (s.brk n).present = true → (s.slot n).lastFrame = some t → t + 50000 ≤ s.now →
      DueNow s (.positionSilence n)
  /-- R98. -/
  | window (n t : Nat) (type : OrdType) : n < 25 → (s.slot n).window = some (type, t) → t + 500000 ≤ s.now →
      DueNow s (.operatorWindowExpiry n)
  /-- R106. -/
  | line (n t : Nat) : n < 25 → (s.slot n).lineOn = some t → t + 100000 ≤ s.now →
      (∀ o, (s.slot n).order = some o → o.type = .opn → .prot ∉ o.causes ∧ .bft ∉ o.causes) →
      DueNow s (.directTripRelease n)
  /-- R153. -/
  | syncWait (n t : Nat) : n < 25 → waitingSince s n = some t → t + s.tbl.par.syncWait * 1000000 ≤ s.now →
      DueNow s (.syncWaitLimit n)
  /-- R189. -/
  | move (n due : Nat) (t : OrdType) (e : Emu) : n < 25 → s.mgmt.mode = .loop → s.emuOf n = some e →
      e.move = some (t, due) → due ≤ s.now → DueNow s (.emulatedMoveDue n)
  /-- R114. -/
  | startup (q : SeqId) (t : Nat) : (s.seq q).state = .starting → s.inService = true → (s.seq q).startup = some t →
      t ≤ s.now → DueNow s (.startupTimerExpiry q)
  /-- R118. -/
  | loss (q : SeqId) (t : Nat) : (s.seq q).state = .lossPending → (s.seq q).loss = some t → t ≤ s.now →
      DueNow s (.lossTimerExpiry q)
  /-- R120, R123, R124, R130; log 53. -/
  | dead (q : SeqId) (t : Nat) :
      (s.seq q).state = .deadWait ∨ ((s.seq q).state = .altClosing ∧ (s.seq q).awaited = none) ∨
        (s.seq q).state = .onAlternate ∨ (s.seq q).state = .returnOpening →
      (s.seq q).dead = some t → t ≤ s.now → DueNow s (.deadTimerExpiry q)
  /-- R125. -/
  | retransfer (q : SeqId) (t : Nat) : (s.seq q).state = .returnWatch → (s.seq q).retransfer = some t → t ≤ s.now →
      DueNow s (.retransferTimerExpiry q)
  /-- R127. -/
  | parallel (q : SeqId) (t : Nat) : (s.seq q).state = .parallelFast → (s.seq q).parallel = some t → t ≤ s.now →
      DueNow s (.parallelTimerExpiry q)
  /-- R128. -/
  | softLimit (q : SeqId) (t : Nat) : (s.seq q).state = .parallelSoft → (s.seq q).softLimit = some t → t ≤ s.now →
      DueNow s (.softLimitExpiry q)
  /-- R122, R132. -/
  | restore (q : SeqId) (t : Nat) :
      (s.seq q).state = .genWait ∨ ((s.seq q).state = .deadBus ∧ (s.seq q).awaited = none) →
      (s.seq q).restore = some t → t ≤ s.now → DueNow s (.restoreTimerExpiry q)
  /-- R136. -/
  | inhibit (t : Nat) : s.seqs.inhibit = some t → t ≤ s.now → DueNow s .inhibitEnd
  /-- R146. -/
  | stop (t : Nat) : s.par.stopTimer = some t → t ≤ s.now → DueNow s .stopTimerExpiry
  /-- R141. -/
  | status (k t : Nat) : 1 ≤ k → k ≤ 8 → s.mgmt.serviceAt = some t → s.blocksRun = true → (s.genRow k).present = true →
      (s.gen k).lost = false → max t ((s.gen k).lastStat.getD t) + 1000000 ≤ s.now → DueNow s (.statusLoss k)
  /-- R169, R171. -/
  | notice (c : NoticeClass) : s.siteInForce = true → c ∈ s.records.pendingNotices →
      (∀ t, s.records.lastSend = some t → t + 10000 ≤ s.now) → DueNow s .noticeSend
  /-- R174. -/
  | request (r : Request) (rest : List Request) (c : Instr) : s.mgmt.requests = r :: rest → s.mgmt.restart = none →
      s.mgmt.discard = none → s.mgmt.part ≠ .loading → c ∈ requestRow r.kind → DueNow s c
  /-- R183. -/
  | discardRead (x : Nat × Nat) : s.mgmt.discard = some x → s.mgmt.write = none → DueNow s .discardRead
  /-- R186. -/
  | restart (x : Nat × Nat) : s.mgmt.restart = some x → s.mgmt.write = none → s.mgmt.part ≠ .loading → DueNow s .warmRestart

/-! ## What a measurement update brings about -/

/-- R32, R35 to R50, R59, R62, R63, R71, R72, R74, R75, R78, R101, R142, R155: `u` is the state after a processing of `s` whose
count is a multiple of 8. The qualities and the Measurement Table are those of this update; the tracker, the voltage class, the
direction of each phase, each element and each BF timer have advanced by it; a pending group has become the active one; an
element that entered OPERATED has latched its target and opened its trip list; the outputs and indications are those of the
slots; and at a multiple of 64 the sharing update has followed. That the processed count tells the sharing update, and that it
comes last, is the model's (log 17, log 13), as are the RMS of a phase without a usable source in a total loss of samples
(log 59), which slots the BF tests reach (log 61), and the group kept with a slot (log 48). -/
structure UpdateMade (s u : State) : Prop where
  quality : ∀ pt, let steps := u.intake.streams.map fun r => ({ stream := r } : StreamStep)
    let q := fun (x : Four PhaseRec) => some (pointQuality steps (usedRows s.tbl) pt x)
    match pt with
    | .cur n => ∀ x, u.intake.cur[n]? = some x → u.intake.curQ[n]? = q x
    | .volt v => ∀ x, u.intake.volt[v]? = some x → u.intake.voltQ[v]? = q x
  volts : ∀ v, v < s.meas.volt.length → (u.voltMeas v).quality = u.intake.voltQ.getD v .invalid ∧
    ∀ ph, ph ≠ .n → (u.voltMeas v).rms.get ph = phaseRms (usedRows s.tbl) (.volt v) ph (phaseRec u (.volt v) ph)
  amps : ∀ n, n < s.meas.cur.length → (u.curMeas n).quality = u.intake.curQ.getD n .invalid ∧
    (∀ ph, ph ≠ .n → (u.curMeas n).rms.get ph = phaseRms (usedRows s.tbl) (.cur n) ph (phaseRec u (.cur n) ph)) ∧
    ∀ ph, (u.curMeas n).sat.get ph = decide (0 < (phaseRec u (.cur n) ph).clipHold)
  residuals : (∀ v x, v < s.meas.volt.length → u.intake.volt[v]? = some x →
      (u.voltMeas v).rms.n = residualVolts (usedRows s.tbl) (.volt v) x) ∧
    ∀ n x, n < s.meas.cur.length → u.intake.cur[n]? = some x →
      (u.curMeas n).rms.n = residualAmps (usedRows s.tbl) (.cur n) x
  power : ∀ n, n < s.meas.cur.length →
    ((s.brk n).present = false ∨ (s.brk n).vref = none →
      (u.curMeas n).power = none ∧ ∀ ph, (u.curMeas n).dir.get ph = .unknown) ∧
    ∀ v, (s.brk n).present = true → (s.brk n).vref = some v →
      (u.intake.curQ.getD n .invalid = .invalid ∨ u.intake.voltQ.getD v .invalid = .invalid →
        (u.curMeas n).power = none) ∧
      (u.intake.curQ.getD n .invalid ≠ .invalid → u.intake.voltQ.getD v .invalid ≠ .invalid →
        let term := fun ph => productMean (phaseRec u (.volt v) ph).hist (phaseRec u (.cur n) ph).hist *
          scaleProduct (usedRows s.tbl) (.volt v) (.cur n) ph
        (u.curMeas n).power = some
          (max (-2000000) (min 2000000 ((term .a + term .b + term .c).tdiv 1000000000))))
  classes : ∀ v, v < s.meas.volt.length →
    let m := trackCrossings u (phaseRec u (.volt v) .a).hist
      { s.voltMeas v with quality := (u.voltMeas v).quality, rms := (u.voltMeas v).rms }
    u.voltMeas v = qualify s.site (rawClass s.meas.thr m) m
  directions : ∀ n v, n < s.meas.cur.length → v < s.meas.volt.length → (s.brk n).present = true →
    (s.brk n).vref = some v →
    (∀ ph, ph ≠ .n →
      ((u.curMeas n).dir.get ph, (u.curMeas n).mem.get ph) =
        formDirection ((u.voltMeas v).rms.get ph) s.meas.thr.dir10
          (productMean (phaseRec u (.volt v) ph).hist (phaseRec u (.cur n) ph).hist) ((s.curMeas n).mem.get ph)) ∧
    ∀ x, u.intake.volt[v]? = some x →
      ((u.curMeas n).dir.n, (u.curMeas n).mem.n) =
        formDirection (u.voltMeas v).rms.n s.meas.thr.dir2
          (residualTorque (residualSamples (usedRows s.tbl) (.volt v) x) (phaseRec u (.cur n) .n).hist) (s.curMeas n).mem.n
  breakers : ∀ n, n < 25 → (s.slot n).bf = .timing → carriesCurrent u n = true ∨ s.pos n ≠ .opn →
    ((s.slot n).bfTimer + 1 < bfUpdates s n →
      (u.slot n).bf = .timing ∧ (u.slot n).bfTimer = (s.slot n).bfTimer + 1) ∧
    (bfUpdates s n ≤ (s.slot n).bfTimer + 1 → (u.slot n).bf = .operated)
  elements : s.inService = true →
    let g := s.prot.pendingGroup.getD s.prot.active
    u.prot.active = g ∧ u.prot.pendingGroup = none ∧ ∀ i, i < 64 →
      let before := s.elemRow s.prot.active i
      let row := s.elemRow g i
      let carried := s.prot.pendingGroup = none ∨
        (before.enabled = true ∧ row.enabled = true ∧ before.kind = row.kind ∧ before.point = row.point)
      ∀ x, (carried → x = s.rtSlot i) → (¬carried → x = {}) →
        let y := evalSlot u row x
        (row.enabled = false → u.rtSlot i = {}) ∧
        (row.enabled = true → ¬(y.state = .operated ∧ (thaw x).state ≠ .operated) → u.rtSlot i = y) ∧
        (row.enabled = true → y.state = .operated → (thaw x).state ≠ .operated →
          u.rtSlot i = { y with operIdx := some u.intake.count, operGroup := some g } ∧
          (match g with
            | .a => u.prot.targetsA
            | .b => u.prot.targetsB)[i]? = (match g with
            | .a => s.prot.targetsA
            | .b => s.prot.targetsB)[i]?.map (fun _ => some ⟨u.intake.count, u.intake.count⟩) ∧
          ∀ n ∈ row.trip, n < 25 → (s.brk n).present = true → s.pos n ≠ .opn →
            ∃ o, (u.slot n).order = some o ∧ o.type = .opn ∧ .prot ∈ o.causes)
  outputs : s.inService = true →
    let g := u.prot.active
    let stands := fun (x : RtSlot) (st : ElemState) => x.state = st ∨ x.state = .blocked ∧ x.frozen = some st
    (∀ q, (match q with
        | .seq1 => u.prot.block1
        | .seq2 => u.prot.block2) = true ↔
      ∃ i, i < 64 ∧ (s.elemRow g i).enabled = true ∧ (s.elemRow g i).block = some q ∧
        (stands (u.rtSlot i) .timing ∨ stands (u.rtSlot i) .operated)) ∧
    ∀ i, i < 64 → (stands (u.rtSlot i) .operated → u.prot.operated[i]? = some (some g)) ∧
      (¬stands (u.rtSlot i) .operated → u.prot.operated[i]? = some none)
  blocks : ∃ v : State, v.intake = u.intake ∧ v.meas = u.meas ∧ v.prot = u.prot ∧
    let w := takeLoad .seq2 (takeLoad .seq1 (formCapacity v))
    let x := if s.inService then finish (updateState .seq2 (finish (updateState .seq1 w))) else w
    let y := finish (closeLive (grantDead (releaseOnLive (stopGenerators x))))
    let z := finish (testChannel 3 (finish (testChannel 2 (finish (testChannel 1 (finish (testChannel 0 y)))))))
    u = if u.intake.count % 64 = 0 then sharingUpdate z else z
  sharing : u.intake.count % 64 = 0 →
    (∃ v, u = sharingUpdate v ∧ v.intake = u.intake ∧ v.meas = u.meas ∧ v.arb = u.arb) ∧
    ∀ k, 1 ≤ k → k ≤ 8 → (s.genRow k).present = true → (u.gen k).startSent = startRequest u k
  noSharing : u.intake.count % 64 ≠ 0 → ∀ k, 1 ≤ k → k ≤ 8 → (u.gen k).startSent = (s.gen k).startSent

/-- R153: channel `i` of `s` has been freed, and holds the oldest queued request in `u`, or none when the queue was empty. -/
def ChannelRefilled (i : Nat) (s u : State) : Prop :=
  (∀ j, j ≠ i → u.par.channels[j]? = s.par.channels[j]?) ∧
    (s.par.queue = [] → u.par.channels[i]? = some none ∧ u.par.queue = []) ∧
    ∀ r rest, s.par.queue = r :: rest →
      u.par.queue = rest ∧ u.par.channels[i]? = some (some
        { slot := r.slot, ref := r.ref, inc := r.inc, closing := r.closing, start := r.arrival, hold := 0, fired := false })

/-- R95, R97, R153: `u` is the state after the close `o` of slot `n` of `s` left service with the outcome `t`, told to its
requesters. It has freed the place or the grant it held; where it was ISSUED a WITHDRAW is started, its first frame sent at once
in LIVE. -/
structure CloseLeft (n : Nat) (o : Order) (t : Told) (s u : State) : Prop where
  left : (u.slot n).order = none ∧ (u.slot n).lastResult = some ⟨.close, o.tag, o.causes, t⟩
  told : ∀ r ∈ o.requesters, .told r n .close (some o.tag) t ∈ u.mail
  issued : o.phase = .issued → (u.slot n).withdraw = some ⟨o.tag, causeOf o.causes, 2, s.now + 10000⟩ ∧
    u.link = (if s.mgmt.mode = .live then
      originate (s.brk n).station (.order n .withdraw o.tag (causeOf o.causes)) s else s).link
  waiting : o.phase = .syncWait → (u.slot n).withdraw = (s.slot n).withdraw ∧ u.link = s.link
  grant : o.grantHeld = true → u.par.grant = none
  channel : ∀ i, channelOf s n = some i → ChannelRefilled i s u
  queue : channelOf s n = none →
    u.par.channels = s.par.channels ∧ u.par.queue = s.par.queue.filter fun x => decide (x.slot ≠ n)

/-- R95, R98: `u` is the state after a request on slot `n` met a CONFLICT in `s`. An operator's close that is still in service
leaves with CONFLICT. Any other order stays, and so does the window entry. -/
structure ConflictMet (n : Nat) (s u : State) : Prop where
  window : (u.slot n).window = (s.slot n).window
  stays : (∀ o, (s.slot n).order = some o → o.type = .opn ∨ .oprC ∉ o.causes) → u = s
  leaves : ∀ o, (s.slot n).order = some o → o.type = .close → .oprC ∈ o.causes →
    CloseLeft n o .conflict s u ∧ (o.grantHeld = false → u.par.grant = s.par.grant)

/-! ## What an act of a sequencer or of the Paralleling Unit brings about -/

/-- R111, R145, R89 to R91: `u` is the state after `who`, a sequencer or the Paralleling Unit, raised an SCH-O on slot `n` in a
state whose slots are those of `s`; the request is awaited by the tag of the order that carries it, or, where it ended at once,
its outcome is told. -/
structure OpenRaised (who : Requester) (n : Nat) (awaited : Option Awaited) (s u : State) : Prop where
  absent : (s.brk n).present = false →
    awaited = some ⟨n, .opn, none⟩ ∧ .told who n .opn none (.refused .badRow) ∈ u.mail
  local_ : (s.brk n).present = true → (s.slot n).localCtl = true →
    awaited = some ⟨n, .opn, none⟩ ∧ .told who n .opn none (.refused .loc) ∈ u.mail
  open_ : (s.brk n).present = true → (s.slot n).localCtl = false → (s.slot n).order = none → s.pos n = .opn →
    awaited = some ⟨n, .opn, none⟩ ∧ .told who n .opn none .noChange ∈ u.mail
  sent : (s.brk n).present = true → (s.slot n).localCtl = false → (s.slot n).order = none → s.pos n ≠ .opn →
    awaited = some ⟨n, .opn, some (nextTag (s.slot n))⟩ ∧
      (u.slot n).order = some
        { type := .opn, causes := [.schO], tag := nextTag (s.slot n), phase := .issued, issueTime := some s.now
          requesters := [who], nextRepeat := s.now + 10000 }
  joined : (s.brk n).present = true → (s.slot n).localCtl = false → ∀ o, (s.slot n).order = some o → o.type = .opn →
    awaited = some ⟨n, .opn, some o.tag⟩ ∧
      ∃ o', (u.slot n).order = some o' ∧ o'.tag = o.tag ∧ .schO ∈ o'.causes ∧ o'.requesters = o.requesters ++ [who]
  preempts : (s.brk n).present = true → (s.slot n).localCtl = false → ∀ o, (s.slot n).order = some o → o.type = .close →
    awaited = some ⟨n, .opn, some (nextTag (s.slot n))⟩ ∧
      (u.slot n).order = some
        { type := .opn, causes := [.schO], tag := nextTag (s.slot n), phase := .issued, issueTime := some s.now
          requesters := [who], nextRepeat := s.now + 10000 } ∧
      (u.slot n).lastResult = some ⟨.close, o.tag, o.causes, .preempted⟩ ∧
      ∀ r ∈ o.requesters, .told r n .close (some o.tag) .preempted ∈ u.mail

/-- R111, R145, R92, R93: `u` is the state after `who` raised an SCH-C on slot `n`, an incomer, the TIE, a GM, or a GEN breaker
that holds the grant or stands between two live sides, in a state whose slots are those of `s`. -/
structure CloseRaised (who : Requester) (n : Nat) (awaited : Option Awaited) (s u : State) : Prop where
  absent : (s.brk n).present = false →
    awaited = some ⟨n, .close, none⟩ ∧ .told who n .close none (.refused .badRow) ∈ u.mail
  refused : (s.brk n).present = true → ∀ why, closeLadder s n = .refused why →
    awaited = some ⟨n, .close, none⟩ ∧ .told who n .close none (.refused why) ∈ u.mail
  closed : (s.brk n).present = true → closeLadder s n = .noChange →
    awaited = some ⟨n, .close, none⟩ ∧ .told who n .close none .noChange ∈ u.mail
  taken : (s.brk n).present = true → ∀ tag, closeLadder s n = .taken tag →
    awaited = some ⟨n, .close, some tag⟩ ∧
      ∃ o, (u.slot n).order = some o ∧ o.type = .close ∧ o.causes = [.schC] ∧ o.tag = tag ∧ o.requesters = [who] ∧
        o.phase = (if bothLive s n then .syncWait else .issued) ∧
        o.issueTime = (if bothLive s n then none else some s.now)

/-- R111: sequencer `q` raised an SCH-O on slot `n`. -/
def SeqOpens (q : SeqId) (n : Nat) (s u : State) : Prop := OpenRaised (.seq q) n (u.seq q).awaited s u

/-- R111: sequencer `q` raised an SCH-C on slot `n`, an incomer, the TIE or a GM. -/
def SeqCloses (q : SeqId) (n : Nat) (s u : State) : Prop := CloseRaised (.seq q) n (u.seq q).awaited s u

/-- R145: the Paralleling Unit raised an SCH-O on the breaker of Gk. -/
def GenOpens (k : Nat) (s u : State) : Prop := OpenRaised .par (genSlot k) (u.gen k).awaited s u

/-- R145: the Paralleling Unit raised an SCH-C on the breaker of Gk. -/
def GenCloses (k : Nat) (s u : State) : Prop := CloseRaised .par (genSlot k) (u.gen k).awaited s u

/-- What derivation asks for (R115): a state and an alternate. -/
def derivation (s : State) (q : SeqId) : SeqState × Option Alt :=
  if (s.busLock (secBus q)).isSet = true then (.lockedOut, none)
  else if s.pos (incSlot q) = .closed ∧ s.declared (utilPoint q) = .healthy then (.preferred, none)
  else if s.pos (incSlot q) = .closed then (.lossPending, none)
  else if s.pos (gmSlot q) = .closed then (.onAlternate, some .gm)
  else if s.pos 2 = .closed ∧ (s.pos (incSlot (otherSeq q)) = .closed ∨ s.pos (gmSlot (otherSeq q)) = .closed) ∧
    s.seqs.claim ≠ some (otherSeq q) then (.onAlternate, some .tie)
  else (.deadBus, none)

/-- R115, R134: `u` is the state after sequencer `q` applied derivation in `s`; a pending park makes a stable state
PARKED. That no alternate is left in use where the rule names none is the model's (log 63, log 21). -/
structure Derived (q : SeqId) (s u : State) : Prop where
  state : (u.seq q).state =
    if (s.seq q).pendingPark = true ∧ (derivation s q).1 ≠ .lossPending then .parked else (derivation s q).1
  alt : (u.seq q).alt = (derivation s q).2
  claim : u.seqs.claim =
    if (derivation s q).2 = some .tie then some q else if s.seqs.claim = some q then none else s.seqs.claim
  cleared : (u.seq q).awaited = none ∧ (u.seq q).spentTie = false ∧ (u.seq q).spentGm = false ∧
    (u.seq q).retReady = false ∧ (u.seq q).inhibitHold = false ∧ (u.seq q).overrun = false
  timers : (u.seq q).startup = none ∧ (u.seq q).retransfer = none ∧ (u.seq q).restore = none ∧
    (u.seq q).parallel = none ∧ (u.seq q).softLimit = none
  loss : (u.seq q).loss =
    if (derivation s q).1 = .lossPending then some (s.now + (s.scheme q).lossQualify * 1000) else none
  proven : (u.seq q).state = .onAlternate →
    (u.seq q).busProven = isLive (s.declared (busPoint q)) ∧
      (u.seq q).dead =
        if isLive (s.declared (busPoint q)) then none else some (s.now + (s.scheme q).deadLimit * 1000)
  loads : (u.seq q).lastLoad = (s.seq q).lastLoad ∧ (u.seq q).snapshot = (s.seq q).snapshot

/-- R125: the return of sequencer `q` begins in `s`, by the first row that applies; `a` is the alternate in use. -/
structure ReturnBegun (q : SeqId) (a : Alt) (s u : State) : Prop where
  opening : (s.scheme q).mode = .opn ∨ (a = .tie ∧ s.site.utilPar = false) →
    (u.seq q).state = .returnOpening ∧ SeqOpens q (altSlot q a) s u
  closing : ¬((s.scheme q).mode = .opn ∨ (a = .tie ∧ s.site.utilPar = false)) →
    (u.seq q).state = .returnSync ∧ SeqCloses q (incSlot q) s u ∧
      (u.seq q).kind = if (s.scheme q).mode = .soft ∧ a = .gm ∧ s.pos (gmSlot (otherSeq q)) = .opn then .soft else .fast

/-- R120: an alternate of section `q` is not spent and is usable now. -/
def altReady (s : State) (q : SeqId) : Alt → Prop
  | .tie => (s.seq q).spentTie = false ∧ (s.seq (otherSeq q)).state = .preferred ∧
      s.declared (utilPoint (otherSeq q)) = .healthy ∧ s.seqs.claim = none ∧ (s.slot 2).lock.isSet = false
  | .gm => (s.seq q).spentGm = false ∧ (s.slot (gmSlot q)).lock.isSet = false ∧ s.arb.gbus.isSet = false

/-- R134: the state that `q` enters in place of the stable state `st`. -/
def stableState (q : SeqId) (st : SeqState) (s : State) : SeqState := if (s.seq q).pendingPark then .parked else st

/-- R121: the TIE claim once `q` has released it, if it is the TIE `q` gives up. -/
def claimAfter (q : SeqId) (a : Alt) (s : State) : Option SeqId :=
  if a = .tie ∧ s.seqs.claim = some q then none else s.seqs.claim

/-- R122, R132: the restore timer at an update. -/
def restoreAfter (q : SeqId) (s : State) : Option Nat :=
  if s.declared (utilPoint q) = .healthy then
    some ((s.seq q).restore.getD (s.now + (s.scheme q).restoreDelay * 1000000))
  else none

/-- R120: sequencer `q` has made the trial of the entries `l` in `s`: the first that is not spent and is usable is used, and
DEAD_BUS, with no alternate in use (log 21, log 87), is entered when there is none. -/
structure TrialMade (q : SeqId) (l : List Alt) (s u : State) : Prop where
  tie : ∀ before after, l = before ++ .tie :: after → (∀ b ∈ before, ¬altReady s q b) → altReady s q .tie →
    (u.seq q).state = .altClosing ∧ (u.seq q).alt = some .tie ∧ u.seqs.claim = some q ∧ SeqCloses q 2 s u
  gen : ∀ before after, l = before ++ .gm :: after → (∀ b ∈ before, ¬altReady s q b) → altReady s q .gm →
    (u.seq q).state = .genWait ∧ (u.seq q).alt = some .gm ∧ u.seqs.claim = s.seqs.claim ∧ u.arb = s.arb
  none_ : (∀ b ∈ l, ¬altReady s q b) → (u.seq q).state = stableState q .deadBus s ∧ (u.seq q).alt = none ∧
    u.seqs.claim = s.seqs.claim ∧ ((s.seq q).awaited = none → u.arb = s.arb)
  spent : (u.seq q).spentTie = (s.seq q).spentTie ∧ (u.seq q).spentGm = (s.seq q).spentGm
  load : (u.seq q).snapshot = (s.seq q).snapshot

/-- R122, R123: alternate `a` has failed in `s`: it is spent, the claim goes with the TIE, and the trial is made from the next
entry of the list. -/
def AlternateSpent (q : SeqId) (a : Alt) (s u : State) : Prop :=
  ∃ v : State, onlySeq q s v ∧ v = { s with seqs := v.seqs, records := v.records } ∧ v.seqs.claim = claimAfter q a s ∧
    v.seq q = (match a with
      | .tie => { s.seq q with spentTie := true }
      | .gm => { s.seq q with spentGm := true }) ∧
    (∀ before after, (s.scheme q).alternates = before ++ a :: after → a ∉ before → TrialMade q after v u) ∧
    (a ∉ (s.scheme q).alternates → TrialMade q [] v u)

/-- R124: alternate `a`, in use by `q`, has been lost in `s`. Where it is not OPEN it is opened and stays in use until its open
ends (log 21); a pending park turns DEAD_BUS into PARKED, in which the open is no longer awaited (log 32, log 87). -/
structure AlternateLost (q : SeqId) (a : Alt) (s u : State) : Prop where
  state : (u.seq q).state = stableState q .deadBus s
  opened : s.pos (altSlot q a) = .opn → (u.seq q).alt = none ∧ u.seqs.claim = claimAfter q a s ∧
    ((s.seq q).awaited = none → u.arb = s.arb)
  opens : s.pos (altSlot q a) ≠ .opn → (u.seq q).alt = some a ∧ u.seqs.claim = s.seqs.claim ∧
    ((s.seq q).pendingPark = false → SeqOpens q (altSlot q a) s u) ∧
    ((s.seq q).pendingPark = true → (u.seq q).awaited = none)

/-- R124: `q` has entered ON_ALTERNATE, or PARKED in its place, with alternate `a` in use. -/
structure OnAlternate (q : SeqId) (a : Alt) (proven : Bool) (s u : State) : Prop where
  state : (u.seq q).state = stableState q .onAlternate s
  alt : (u.seq q).alt = some a
  proven : (s.seq q).pendingPark = false → (u.seq q).busProven = proven ∧
    (u.seq q).dead = if proven then none else some (s.now + (s.scheme q).deadLimit * 1000)
  timers : (u.seq q).loss = none ∧ (u.seq q).retransfer = none ∧ (u.seq q).restore = none ∧ (u.seq q).parallel = none ∧
    (u.seq q).softLimit = none

/-- R117, R127, R131, R132: `q` has entered PREFERRED, or PARKED in its place; the spent alternates are cleared, in PARKED too
(log 87). -/
structure Preferred (q : SeqId) (s u : State) : Prop where
  state : (u.seq q).state = stableState q .preferred s
  spent : (u.seq q).spentTie = false ∧ (u.seq q).spentGm = false
  timers : (u.seq q).loss = none ∧ (u.seq q).dead = none ∧ (u.seq q).retransfer = none ∧ (u.seq q).restore = none ∧
    (u.seq q).parallel = none ∧ (u.seq q).softLimit = none

/-- R117, R118: a transfer of `q` has begun in DEAD_WAIT. -/
structure DeadWaitEntered (q : SeqId) (s u : State) : Prop where
  state : (u.seq q).state = .deadWait
  dead : (u.seq q).dead = some (s.now + (s.scheme q).deadLimit * 1000)
  timers : (u.seq q).loss = none ∧ (u.seq q).retransfer = none ∧ (u.seq q).restore = none

/-- R158: the soft unload of `q`, if it runs, has ended, and no other has. -/
def UnloadEnded (q : SeqId) (s u : State) : Prop :=
  (∀ x, s.par.unload = some x → x.owner = q → u.par.unload = none ∧ ∀ k, 1 ≤ k → k ≤ 8 →
    ((s.gen k).state = .unloading → (u.gen k).state = .online) ∧
    ((s.gen k).state ≠ .unloading → (u.gen k).state = (s.gen k).state)) ∧
  ((∀ x, s.par.unload = some x → x.owner ≠ q) → u.par.unload = s.par.unload)

/-- R111: `q` has withdrawn its close. -/
structure SeqWithdrew (q : SeqId) (s u : State) : Prop where
  close : ∀ w o, (s.seq q).awaited = some w → w.type = .close → (s.slot w.slot).order = some o → o.type = .close →
    .seq q ∈ o.requesters → CloseLeft w.slot o .withdrawn s u ∧ onlySlot w.slot s u
  open_ : (∀ w, (s.seq q).awaited = some w → w.type = .opn) → u.arb = s.arb ∧ u.link = s.link

/-- R133: `q` has entered LOCKED_OUT, or PARKED in its place, the claim released either way (log 65). -/
structure LockedOut (q : SeqId) (s u : State) : Prop where
  state : (u.seq q).state = stableState q .lockedOut s
  withdrew : SeqWithdrew q s u
  unload : UnloadEnded q s u
  claim : u.seqs.claim = claimAfter q .tie s
  cleared : (u.seq q).awaited = none ∧ (u.seq q).retReady = false ∧ (u.seq q).inhibitHold = false ∧
    (u.seq q).overrun = false
  timers : (u.seq q).startup = none ∧ (u.seq q).loss = none ∧ (u.seq q).dead = none ∧ (u.seq q).retransfer = none ∧
    (u.seq q).restore = none ∧ (u.seq q).parallel = none ∧ (u.seq q).softLimit = none
  keeps : (u.seq q).alt = (s.seq q).alt ∧ (u.seq q).snapshot = (s.seq q).snapshot ∧
    (u.seq q).lastLoad = (s.seq q).lastLoad

/-- R127: the parallel of `q` with alternate `a` has ended as an overrun: PROT is raised on the alternate, whatever its LOC, and
an OVERRUN trigger. -/
structure OverrunRaised (q : SeqId) (a : Alt) (s u : State) : Prop where
  seq : (u.seq q).overrun = true ∧ (u.seq q).parallel = none ∧ (u.seq q).state = .parallelFast ∧ (u.seq q).alt = some a
  opens : (s.brk (altSlot q a)).present = true → s.pos (altSlot q a) ≠ .opn →
    ∃ o, (u.slot (altSlot q a)).order = some o ∧ o.type = .opn ∧ .prot ∈ o.causes ∧ .seq q ∈ o.requesters ∧
      (u.seq q).awaited = some ⟨altSlot q a, .opn, some o.tag⟩
  record : (∀ r ∈ s.records.queue, r.complete = true ∨ r.firstTime + 1000000 < s.now) →
    ∃ r ∈ u.records.queue, r.kind = .overrun ∧ r.overrun = some ⟨q, altSlot q a, s.intake.count⟩

/-- R127, R129: the alternate of `q` has opened, and the return is over; the claim goes with the TIE. -/
structure ParallelOver (q : SeqId) (a : Alt) (s u : State) : Prop where
  preferred : Preferred q s u
  cleared : (u.seq q).alt = none ∧ (u.seq q).overrun = false ∧ (u.seq q).awaited = none
  claim : u.seqs.claim = claimAfter q a s
  arb : u.arb = s.arb

/-- R174: the head request names sequencer `q`, which is not inactive in SERVICE (R109). -/
def namesSeq (r : Request) (q : SeqId) (s : State) : Prop :=
  (r.args = .sequencer 1 ∧ q = .seq1 ∨ r.args = .sequencer 2 ∧ q = .seq2) ∧
    (s.inService = false ∨ (s.brk (incSlot q)).present = true)

end Sys2Proof.Machine
end

