-- ==== Sys2Proof/WellFormed.lean ====
section
/-!
DEFINITION. Which commands name objects the part has (00_scope.md): slots 0 to 24, rows 0 to 47 and 0 to 63,
generators 1 to 8, channels 0 to 3, voltage points 0 to 12, and frames of the kind their row is about.
-/

namespace Sys2Proof

/-- Slots are numbered 0 to 24. -/
def slotOk (n : Nat) : Bool := decide (n < 25)

/-- C0 to C24, V0 to V12. -/
def pointOk : PointId → Bool
  | .cur n => decide (n < 25)
  | .volt n => decide (n < 13)

/-- A voltage point has no phase N. -/
def phaseOk : PointId → Phase → Bool
  | .volt _, .n => false
  | _, _ => true

/-- The frame is a well-formed vendor frame of the kind (R3). -/
def frameIs (k : FrameKind) (f : EthFrame) : Bool :=
  match Machine.frameClass f with
  | .vendor h => decide (h.kind = k)
  | _ => false

/-- A command is well-formed when its operands name objects the part has. -/
def Instr.wf : Instr → Bool
  | .badFrame _ f => decide (Machine.frameClass f = .bad)
  | .foreignFrame _ f => decide (Machine.frameClass f = .foreign)
  | .forwardedFrame _ f =>
    frameIs .order f || frameIs .gencmd f || frameIs .answer f || frameIs .notice f
  | .sample _ f => frameIs .sample f
  | .position _ f => frameIs .position f
  | .genstat _ f => frameIs .genstat f
  | .manage _ f => frameIs .manage f
  | .streamGood r => decide (r < 48)
  | .streamLost r => decide (r < 48)
  | .holdExpiry pt ph _ => pointOk pt && phaseOk pt ph
  | .divergentSet pt ph => pointOk pt && phaseOk pt ph
  | .divergentClear pt ph => pointOk pt && phaseOk pt ph
  | .directionMemoryExpiry n _ => slotOk n
  | .trackerEmpty v => decide (v < 13)
  | .qualifierDeclare v => decide (v < 13)
  | .tocOperate r => decide (r < 64)
  | .definiteTimeOperate r => decide (r < 64)
  | .tocResetEnd r => decide (r < 64)
  | .orderRepeat n => slotOk n
  | .openLimitExpiry n => slotOk n
  | .closeLimitExpiry n => slotOk n
  | .withdrawResend n => slotOk n
  | .travelTimeout n => slotOk n
  | .positionSilence n => slotOk n
  | .operatorWindowExpiry n => slotOk n
  | .bfOperate n => slotOk n
  | .directTripRelease n => slotOk n
  | .statusLoss k => decide (1 ≤ k ∧ k ≤ 8)
  | .syncFire c => decide (c < 4)
  | .syncWaitLimit n => slotOk n
  | .emulatedMoveDue n => slotOk n
  | .powerOn | .linkInitEnd | .supplyLoss | .portLinkUp _ | .portLinkDown _ | .frameTransmitEnd _
  | .retiredNumberExpiry | .duplicateFilterExpiry | .fallback | .lockoutStoreWriteEnd
  | .startupTimerExpiry _ | .lossTimerExpiry _ | .deadTimerExpiry _ | .retransferTimerExpiry _
  | .parallelTimerExpiry _ | .softLimitExpiry _ | .restoreTimerExpiry _ | .inhibitEnd | .stopTimerExpiry
  | .noticeSend | .readStatus | .readPoint | .readBreaker | .readElement | .readGenerator | .readRow | .writeRow
  | .enterConfig | .commit | .discard | .discardRead | .selectGroup | .setMode | .operate | .resetLockout
  | .clear | .inhibitTransfer | .park | .resume | .abort | .retransferNow | .readRecord | .discardRecord
  | .restart | .warmRestart | .settingsWriteEnd _ | .loadingEnd => true

end Sys2Proof
end

