-- ==== Sys2Proof/Rules.lean ====
section
/-!
DEFINITION. Tables and checks of the reference, in the words in which the statements hold the model against them: the
request kinds with their arguments (R174, R176), the configuration tables (chapter 9.4), and the checks of a row and of a
COMMIT (R57, R178, R182).
-/

namespace Sys2Proof.Machine

/-! ## Sources and quality (R28, R32) -/

/-- R28: `y` is a usable source of a phase. -/
def UsableSource (x : Sources) (y : Source') : Prop := (x.main = some y ∨ x.check = some y) ∧ y.usable = true

/-- R32: the only usable source of a phase has a DEGRADED stream. -/
def OnlyDegraded (x : Sources) : Prop :=
  (∃ m, x.main = some m ∧ m.usable = true ∧ m.degraded = true ∧ ∀ c, x.check = some c → c.usable = false) ∨
    ∃ c, x.check = some c ∧ c.usable = true ∧ c.degraded = true ∧ ∀ m, x.main = some m → m.usable = false

/-- R23, R25, R30, R36: `q` is the record of a phase after a processing that gave it the value of `m`, from the record `p`
before it. In a total loss of samples the values RMS is formed from stand; a phase without a usable source takes the 0 of R36
all the same (log 59). -/
def PhaseProcessed (totalLoss missing clipped : Bool) (m : Merged) (p q : PhaseRec) : Prop :=
  let hist := (m.value :: p.hist).take 32
  q = { compareRuns m.cmp p with
    hist := hist
    missHold := if missing then 32 else p.missHold - 1
    clipHold := if clipped then 32 else p.clipHold - 1
    level := if totalLoss then (if m.has then p.level else (0 :: p.level).take 32) else hist }

/-- The point lies in the tables of Intake. -/
def pointHeld (s : State) : PointId → Prop
  | .cur n => n < s.intake.cur.length
  | .volt v => v < s.intake.volt.length

/-! ## Requests (R174, R176) -/

/-- A row of the table of R176: a kind, its code, its right, and whether it is taken in UNCONFIGURED, in CONFIG entered from
UNCONFIGURED, in CONFIG entered from SERVICE ("tables"), and in SERVICE. -/
structure KindRow where
  kind : Kind
  code : Nat
  right : Rights
  inU : Bool
  inC : Bool
  inTables : Bool
  inS : Bool
  deriving DecidableEq, Repr

/-- The table of R176. -/
def kindRows : List KindRow :=
  [⟨.readStatus, 0x01, .view, true, true, true, true⟩,
    ⟨.readPoint, 0x02, .view, false, false, true, true⟩,
    ⟨.readBreaker, 0x03, .view, false, false, true, true⟩,
    ⟨.readElement, 0x04, .view, false, false, true, true⟩,
    ⟨.readGenerator, 0x05, .view, false, false, true, true⟩,
    ⟨.readRow, 0x06, .view, false, true, true, true⟩,
    ⟨.writeRow, 0x07, .setting, false, true, true, true⟩,
    ⟨.enterConfig, 0x08, .setting, true, true, true, true⟩,
    ⟨.commit, 0x09, .setting, false, true, true, false⟩,
    ⟨.discard, 0x0A, .setting, false, false, true, false⟩,
    ⟨.selectGroup, 0x0B, .setting, false, false, false, true⟩,
    ⟨.setMode, 0x0C, .operate, false, false, false, true⟩,
    ⟨.operate, 0x0D, .operate, false, false, true, true⟩,
    ⟨.resetLockout, 0x0E, .operate, true, true, true, true⟩,
    ⟨.clear, 0x0F, .operate, true, true, true, true⟩,
    ⟨.inhibitTransfer, 0x10, .operate, false, true, true, true⟩,
    ⟨.park, 0x11, .operate, false, true, true, true⟩,
    ⟨.resume, 0x12, .operate, false, false, false, true⟩,
    ⟨.abort, 0x13, .operate, false, false, false, true⟩,
    ⟨.retransferNow, 0x14, .operate, false, false, false, true⟩,
    ⟨.readRecord, 0x15, .view, true, true, true, true⟩,
    ⟨.discardRecord, 0x16, .setting, true, true, true, true⟩,
    ⟨.restart, 0x17, .operate, true, true, true, true⟩]

/-- Chapter 9.4: each table with its code and its number of rows. -/
def tableRows : List (TableId × Nat × Nat) :=
  [(.site, 1, 1), (.managers, 2, 4), (.subscriptions, 3, 48), (.channels, 4, 384), (.breakers, 5, 25), (.curves, 6, 8),
    (.elementsA, 7, 64), (.elementsB, 8, 64), (.schemes, 9, 2), (.generators, 10, 9)]

/-- Chapter 9.4: a table code and a row number lie within the numbering. -/
def InTables (code row : Nat) : Prop := ∃ id rows, (id, code, rows) ∈ tableRows ∧ row < rows

/-- A row carries the fields of the row of a table; the SITE row has one enable for each of the eight notice classes. -/
def RowOf : TableId → Nat → RowData → Prop
  | .site, _, d => ∃ r : SiteRow, d = .site r ∧ r.noticeOn.length = 8
  | .managers, _, d => ∃ r, d = .manager r
  | .subscriptions, _, d => ∃ r, d = .sub r
  | .channels, _, d => ∃ r, d = .chan r
  | .breakers, _, d => ∃ r, d = .breaker r
  | .curves, _, d => ∃ r, d = .curve r
  | .elementsA, _, d => ∃ r, d = .element r
  | .elementsB, _, d => ∃ r, d = .element r
  | .schemes, _, d => ∃ r, d = .scheme r
  | .generators, i, d => (i < 8 ∧ ∃ r, d = .gen r) ∨ (i = 8 ∧ ∃ r, d = .par r)

/-- R174 test 2, R176: the arguments each kind requires. -/
def ArgsOf (a : Args) : Kind → Prop
  | .readStatus | .enterConfig | .commit | .discard | .readRecord | .restart => a = .absent
  | .readPoint => ∃ p, a = .point p
  | .readBreaker => ∃ n, a = .slot n
  | .readElement => ∃ g i, a = .element g i
  | .readGenerator => ∃ k, a = .generator k
  | .readRow => ∃ t i, a = .row t i
  | .writeRow => ∃ t i d ok, a = .write t i d ok ∧ ∀ id rows, (id, t, rows) ∈ tableRows → i < rows → RowOf id i d
  | .selectGroup => ∃ g, a = .group (some g)
  | .setMode => ∃ m, a = .mode (some m)
  | .operate => ∃ n t, a = .operate n (some t)
  | .resetLockout => (∃ n, a = .lockSlot n) ∨ ∃ b, a = .lockBus b
  | .clear => ∃ t d g r, a = .clear t d g r ∧ (t = true ∨ d = true ∨ g = true ∨ r = true)
  | .inhibitTransfer => ∃ n, a = .duration n
  | .park | .resume | .abort | .retransferNow => ∃ q, a = .sequencer q
  | .discardRecord => ∃ n, a = .recordNo n

/-- R174 test 5: each object the arguments name lies within the numbering of its kind. -/
def Numbered : Args → Prop
  | .point (.cur n) => n ≤ 24
  | .point (.volt v) => v ≤ 12
  | .slot n | .operate n _ | .lockSlot n => n ≤ 24
  | .element g i => (g = some .a ∨ g = some .b) ∧ i ≤ 63
  | .generator k => k ≤ 8
  | .row t i | .write t i _ _ => InTables t i
  | .lockBus b => b = some .bus1 ∨ b = some .bus2 ∨ b = some .gbus
  | .sequencer q => q = 1 ∨ q = 2
  | .absent | .group _ | .mode _ | .clear _ _ _ _ | .duration _ | .recordNo _ | .malformed => True

/-! ## Rows (R57, R178) -/

/-- R178: a numeric field outside its range takes the nearer limit. -/
def nearer (lo hi x : Nat) : Nat := if x < lo then lo else if hi < x then hi else x

/-- R54, R109, R178: the structural tests of a row at writing. That a curve number, a trip slot and a direct trip line number
count as enumerated values is the model's (log 60). -/
def WellStructured : RowData → Prop
  | .site r => ∀ f, r.fNom = some f → f = 50 ∨ f = 60
  | .chan r => pointOk r.point = true
  | .breaker r => (∀ v, r.vref = some v → v ≤ 12) ∧ (∀ l, r.line = some l → l ≤ 3) ∧ r.busSide ≠ .gbus
  | .curve r => r.points.length ≠ 1 ∧ r.points.length ≤ 24
  | .element r => pointOk r.point = true ∧ r.curve ≤ 7 ∧ ∀ n ∈ r.trip, n ≤ 24
  | .scheme r => r.alternates.Nodup
  | .manager _ | .sub _ | .gen _ | .par _ => True

/-- R57: the structural checks of an enabled element row. -/
structure ElementOk (t : Tables) (r : ElementRow) : Prop where
  point : match r.kind with
    | .toc | .ioc | .rp => ∃ n, r.point = .cur n
    | .uv | .ov | .uf | .ovf => ∃ v, r.point = .volt v
  plain : r.kind ≠ .toc → r.kind ≠ .ioc → r.scope = .phases ∧ r.direction = .none
  reference : r.direction ≠ .none ∨ r.kind = .rp →
    ∃ n v, r.point = .cur n ∧ (t.breakers.getD n {}).present = true ∧ (t.breakers.getD n {}).vref = some v
  curve : r.kind = .toc → (t.curves.getD r.curve {}).points ≠ []
  trips : 1 ≤ r.trip.length ∧ r.trip.length ≤ 4 ∧ r.trip.Nodup ∧
    ∀ n ∈ r.trip, (t.breakers.getD n {}).present = true

/-! ## COMMIT (R182) -/

/-- R16: the used Channel Map row `i` of an enabled subscription. -/
def usedChannel (t : Tables) (i : Nat) (r : ChanRow) : Prop :=
  t.chans[i]? = some r ∧ r.used = true ∧ (t.subs.getD (i / 8) {}).enabled = true

/-- R172: row `i` names a station already named by an earlier present row, or the part station number. -/
def managerRepeats (t : Tables) (i : Nat) : Prop :=
  i ≤ 3 ∧ (t.managers.getD i {}).present = true ∧ (t.site.station = some (t.managers.getD i {}).station ∨
    ∃ j, j < i ∧ (t.managers.getD j {}).present = true ∧ (t.managers.getD j {}).station = (t.managers.getD i {}).station)

/-- R15, R16, R55, R58, R83, R109, R140, R172, R179: a check of COMMIT that fails, by the table and the row it names. That
the missing OPERATE row is found after the rows of MANAGERS is the model's (log 97). -/
def CommitFault (t : Tables) : TableId → Nat → Prop
  | .site, i => i = 0 ∧ (t.site.fNom = none ∨ t.site.vn = none ∨ t.site.station = none ∨ t.site.noticeDest = none ∨
      t.site.livePct ≤ t.site.deadPct ∨ t.site.healthyLo < t.site.livePct)
  | .managers, i => managerRepeats t i ∨
      (i = 0 ∧ (∀ j, ¬managerRepeats t j) ∧ ∀ r ∈ t.managers, r.present = true → r.rights ≠ .operate)
  | .subscriptions, i => i ≤ 47 ∧ (t.subs.getD i {}).enabled = true ∧ ∃ j, j < i ∧ (t.subs.getD j {}).enabled = true ∧
      (t.subs.getD j {}).station = (t.subs.getD i {}).station ∧ (t.subs.getD j {}).stream = (t.subs.getD i {}).stream
  | .channels, i => ∃ r, usedChannel t i r ∧
      ((t.subs.getD (i / 8) {}).count ≤ i % 8 ∨ (∃ v, r.point = .volt v ∧ r.phase = .n) ∨
        (∃ j x, usedChannel t j x ∧ j ≠ i ∧ x.point = r.point ∧ x.phase = r.phase ∧ x.role = r.role) ∨
        (r.role = .check ∧ ∀ j x, usedChannel t j x → ¬(x.point = r.point ∧ x.phase = r.phase ∧ x.role = .main)))
  | .breakers, i => i ≤ 24 ∧ (t.breakers.getD i {}).present = true ∧
      (t.site.station = some (t.breakers.getD i {}).station ∨
        ∃ j l, j < i ∧ (t.breakers.getD i {}).line = some l ∧ (t.breakers.getD j {}).present = true ∧
          (t.breakers.getD j {}).line = some l)
  | .schemes, i => i ≤ 1 ∧
      ((.tie ∈ (t.schemes.getD i {}).alternates ∧ (t.breakers.getD 2 {}).present = false) ∨
        (.gm ∈ (t.schemes.getD i {}).alternates ∧ (t.breakers.getD (3 + i) {}).present = false))
  | .generators, i => i ≤ 7 ∧ (t.gens.getD i {}).present = true ∧
      ((∃ j, j < i ∧ (t.gens.getD j {}).present = true ∧ (t.gens.getD j {}).priority = (t.gens.getD i {}).priority) ∨
        t.site.station = some (t.gens.getD i {}).station ∨ (t.breakers.getD (5 + i) {}).present = false ∨
        (t.breakers.getD (5 + i) {}).vref = none)
  | .curves, i => i ≤ 7 ∧ ∃ p rest, (t.curves.getD i {}).points = p :: rest ∧
      (rest = [] ∨ p.1 ≠ 16 ∨ ¬(p :: rest).Pairwise fun x y => x.1 < y.1)
  | .elementsA, i => i ≤ 63 ∧ (t.elemsA.getD i {}).enabled = true ∧ ¬ElementOk t (t.elemsA.getD i {})
  | .elementsB, i => i ≤ 63 ∧ (t.elemsB.getD i {}).enabled = true ∧ ¬ElementOk t (t.elemsB.getD i {})

/-- R182: the place of a table in the order of the checks. -/
def commitPlace : TableId → Nat
  | .site => 0
  | .managers => 1
  | .subscriptions => 2
  | .channels => 3
  | .breakers => 4
  | .schemes => 5
  | .generators => 6
  | .curves => 7
  | .elementsA => 8
  | .elementsB => 9

end Sys2Proof.Machine
end

