-- ==== Sys2Proof/Certificates/Slice0/Obligations.lean ====
section
/-!
DEFINITION. The statements for the provers. A statement about a command gives the state it answers; where the command
ends in the delivery of the messages it caused, the statement speaks of the state `u` before that (`.next (finish u)`),
and Sys2Proof/Laws/InternalMail.lean says what `finish` leaves alone.
-/

open Sys2Proof Sys2Proof.Machine

/-! ## The step, the clock, reset -/

/-- A step takes the command at the front of the queue (log 1). -/
def Obligations.StepTakesFrontCommand : Prop :=
  ∀ (c : Instr) (s : State), step { s with pending := c :: s.pending } = exec c s

/-- Log 1, log 2, log 14: with no command waiting, one microsecond passes, and the commands then due wait, each once: those
whose condition stands, each by its own rule (R4, R7, R21, R86, R88, R96 to R98, R106, R114 to R136, R141, R146, R153, R169,
R174, R183, R186, R189). The tick, and which commands it queues, are the model's own. -/
def Obligations.IdleTickQueuesWhatIsDue : Prop :=
  ∀ s : State, s.pending = [] →
    ∃ t, step s = .next t ∧ t = { s with now := s.now + 1, pending := t.pending, free := t.free } ∧
      t.pending.Perm (due { s with now := s.now + 1 }) ∧ t.pending.Nodup ∧
      ∀ c, c ∈ t.pending ↔ DueNow { s with now := s.now + 1 } c

/-- What power-on leaves by R12, R33, R79, R107, R146, R148, R171, R173 and R187. That the part state is LOADING from the
application of supply on is the model's (log 6). -/
def Obligations.ResetLeaves : Prop :=
  let s := State.reset
  s.link.running = false ∧ s.link.station = none ∧ s.link.retired = none ∧ s.link.dup = [] ∧
  s.link.p1.up = false ∧ s.link.p2.up = false ∧
  (∀ r ∈ s.intake.streams, r.state = .idle ∧ r.buffer = [] ∧ r.sync = true ∧ r.outcomes = []) ∧
  s.intake.k = none ∧ s.intake.count = 0 ∧ (∀ q ∈ s.intake.curQ, q = .invalid) ∧ (∀ q ∈ s.intake.voltQ, q = .invalid) ∧
  (∀ m ∈ s.meas.volt, m.raw = .indeterminate ∧ m.declared = .indeterminate ∧ m.freq = none) ∧
  (∀ x ∈ s.prot.slots, x.state = .idle) ∧ (∀ x ∈ s.prot.targetsA, x = none) ∧ (∀ x ∈ s.prot.targetsB, x = none) ∧
  (∀ a ∈ s.arb.slots, a.position = .unknown ∧ a.order = none ∧ a.lastTag = none ∧ a.bf = .idle ∧ a.lineOn = none) ∧
  s.seqs.claim = none ∧ s.seqs.inhibit = none ∧ s.par.demand = false ∧ s.par.grant = none ∧ s.par.queue = [] ∧
  s.records.queue = [] ∧ s.records.nextNumber = 1 ∧ s.records.pendingNotices = [] ∧
  s.mgmt.requests = [] ∧ s.mgmt.part = .loading ∧ s.mgmt.mode = .live ∧ s.mgmt.edit = none ∧ s.pending = []

/-- The state after reset is safe. -/
def Obligations.ResetSafe : Prop := State.reset.Safe

/-- R7, R8, R156, R163, R173, R188, R189: every step from a safe state gives a safe state. -/
def Obligations.StepKeepsSafe : Prop := ∀ s t : State, s.Safe → step s = .next t → t.Safe

/-! ## Chapter 1: the link -/

/-- R12: POWER_ON of a part without supply begins anew, in BYPASS and LOADING, with the memories as they stand; at the end
of initialization the unit enters RUNNING with both ports DOWN and nothing held. R12, R13, R104, R185: a loss of supply closes
the relay, loses all but the memories, and de-energizes the lines; of the banks and copies only one that is being written can
change. The model's: that LOADING stands before RUNNING, and that a part without supply stands in the state of reset, in
LOADING, with its clock and its waiting commands kept (log 6); that the bank being written then holds no valid image, its
reading of R185 (log 71); what the copy being written then holds is free (log 12). -/
def Obligations.SupplyComesAndGoes : Prop :=
  ((∀ s : State, s.supply = false → s.mgmt.write = none → s.nv.storeWrite = none →
     ∃ t, exec .powerOn s = .next t ∧ t.supply = true ∧ t.link.running = false ∧ t.link.station = none ∧
       t.link.retired = none ∧ t.link.dup = [] ∧ t.mgmt.part = .loading ∧ t.mgmt.image = none ∧
       t = { State.reset with now := s.now, free := t.free, nv := t.nv, pending := s.pending } ∧
       t.nv.bank0 = s.nv.bank0 ∧ t.nv.bank1 = s.nv.bank1 ∧ t.nv.copy0 = s.nv.copy0 ∧ t.nv.copy1 = s.nv.copy1) ∧
   ∀ s : State, s.supply = true → s.link.running = false →
     ∃ t, exec .linkInitEnd s = .next t ∧ onlyLink s t ∧ t.link.running = true ∧ t.link.station = none ∧
       t.link.retired = none ∧ t.link.dup = [] ∧
       ∀ p, (portOf t.link p).up = false ∧ (portOf t.link p).urgent = [] ∧ (portOf t.link p).stream = [] ∧
         (portOf t.link p).bulk = [] ∧ (portOf t.link p).tx = none) ∧
  ∀ s : State, s.supply = true →
    ∃ t, exec .supplyLoss s = .next t ∧
      t = { State.reset with now := s.now, supply := false, free := t.free, nv := t.nv, pending := s.pending } ∧
      t.link.running = false ∧ t.link.station = none ∧ t.link.dup = [] ∧ t.link.p1.tx = none ∧ t.link.p2.tx = none ∧
      (∀ n, (t.slot n).lineOn = none) ∧
      (∀ w, s.mgmt.write = some w → w.bank = true → t.nv.bank0 = s.nv.bank0) ∧
      (∀ w, s.mgmt.write = some w → w.bank = false → t.nv.bank1 = s.nv.bank1) ∧
      (∀ w, s.mgmt.write = some w → bankValid (if w.bank then t.nv.bank1 else t.nv.bank0) = none) ∧
      (s.mgmt.write = none → t.nv.bank0 = s.nv.bank0 ∧ t.nv.bank1 = s.nv.bank1) ∧
      (s.nv.storeWrite = none ∨ s.nv.nextCopy = true → t.nv.copy0 = s.nv.copy0) ∧
      (s.nv.storeWrite = none ∨ s.nv.nextCopy = false → t.nv.copy1 = s.nv.copy1)

/-- R1: a port that goes to DOWN abandons its frame and empties its queues, and one that goes to UP in RUNNING starts with
empty queues; the other port is not affected. R9: at the end of a transmission an UP port takes the head of URGENT, else of
STREAM, else of BULK. -/
def Obligations.PortsAndTransmission : Prop :=
  (∀ (p : Port) (s : State),
     (∃ t, exec (.portLinkDown p) s = .next t ∧ onlyPort p s t ∧ (portOf t.link p).up = false ∧
       (portOf t.link p).tx = none ∧ (portOf t.link p).urgent = [] ∧ (portOf t.link p).stream = [] ∧
       (portOf t.link p).bulk = []) ∧
     (s.link.running = true → (portOf s.link p).up = false →
       ∃ t, exec (.portLinkUp p) s = .next t ∧ onlyPort p s t ∧ (portOf t.link p).up = true ∧
         (portOf t.link p).urgent = [] ∧ (portOf t.link p).stream = [] ∧ (portOf t.link p).bulk = [])) ∧
  ∀ (p : Port) (s : State), (portOf s.link p).up = true →
    ∃ t, exec (.frameTransmitEnd p) s = .next t ∧ onlyPort p s t ∧ (portOf t.link p).up = true ∧
      (let a := portOf s.link p
       let b := portOf t.link p
       (∀ f l, a.urgent = f :: l → b.tx = some f ∧ b.urgent = l ∧ b.stream = a.stream ∧ b.bulk = a.bulk) ∧
       (∀ f l, a.urgent = [] → a.stream = f :: l → b.tx = some f ∧ b.urgent = [] ∧ b.stream = l ∧ b.bulk = a.bulk) ∧
       (∀ f l, a.urgent = [] → a.stream = [] → a.bulk = f :: l →
         b.tx = some f ∧ b.urgent = [] ∧ b.stream = [] ∧ b.bulk = l) ∧
       (a.urgent = [] → a.stream = [] → a.bulk = [] →
         b.tx = none ∧ b.urgent = [] ∧ b.stream = [] ∧ b.bulk = []))

/-- R2, R3: a frame with a wrong check sequence or length is dropped; a sound frame that is no well-formed vendor frame
goes to the opposite port's BULK queue without station tests. R5, R6: an ORDER, GENCMD, ANSWER or NOTICE frame is
forwarded or removed by the first row that applies; and which frames are offered for inward copy. -/
def Obligations.FramesForwardedOrRemoved : Prop :=
  (∀ (p : Port) (f : EthFrame) (s : State),
     (f.fcsOk = false ∨ f.body.length + 18 < 64 ∨ 1518 < f.body.length + 18 →
       exec (.badFrame p f) s = .next s ∧ exec (.foreignFrame p f) s = .next s) ∧
     (receiving s p = true → frameSound f = true → f.etherType ≠ 0x9A31 ∨ headerCheck f.body = none →
       ∃ t, exec (.foreignFrame p f) s = .next t ∧ directed (oppositePort p) .bulk (.fwd f) s t)) ∧
  (∀ (p : Port) (f : EthFrame) (h : Header) (s : State), receiving s p = true → frameClass f = .vendor h →
    h.kind = .order ∨ h.kind = .gencmd ∨ h.kind = .answer ∨ h.kind = .notice →
    ∃ t, exec (.forwardedFrame p f) s = .next t ∧ Forwarded p f h .bulk s t) ∧
  ∀ (h : Header) (s : State), offeredInward s h = true ↔
    s.mgmt.part ≠ .loading ∧ ∃ own, s.link.station = some own ∧ h.src ≠ own ∧
      (∀ since, s.link.retired = some (h.src, since) → since + 1000000 ≤ s.now) ∧ (h.dest = own ∨ h.dest = 65535)

/-- R4, R7: the retired number goes 1,000 ms after its retirement and not before; the entries of the duplicate filter go
when they are 500 ms old. -/
def Obligations.LinkExpiries : Prop :=
  ∀ s : State,
    (∀ n since, s.link.retired = some (n, since) → since + 1000000 ≤ s.now →
      ∃ t, exec .retiredNumberExpiry s = .next t ∧ t = { s with link := { s.link with retired := none } }) ∧
    (∀ n since, s.link.retired = some (n, since) → s.now < since + 1000000 →
      exec .retiredNumberExpiry s = .next s) ∧
    ∃ t, exec .duplicateFilterExpiry s = .next t ∧ t = { s with link := { s.link with dup := t.link.dup } } ∧
      t.link.dup.Sublist s.link.dup ∧ ∀ e ∈ s.link.dup, e ∈ t.link.dup ↔ s.now < e.arrival + 500000

/-- R4, R8, R10: a frame the part originates goes to the queue of its kind on each port, independently, with the station
number in force as source. -/
def Obligations.OwnFrameOnBothPorts : Prop :=
  ∀ (dest n : Nat) (x : OwnPayload) (s : State), s.link.running = true → s.link.station = some n →
    let q : Egress := match x with
      | .order .. => .urgent
      | .gencmd .. => .stream
      | .answer .. => .bulk
      | .notice .. => .bulk
    ∃ u, directed .p1 q (.own ⟨dest, n, x⟩) s u ∧ directed .p2 q (.own ⟨dest, n, x⟩) u (originate dest x s)

/-- R7, R172, R173: a MANAGE frame for the part. A second copy within 500 ms is discarded; a request of no manager, and a
fifth request, is discarded after it has entered the filter; any other joins the tail of the request queue. One to all
stations is forwarded and not copied. -/
def Obligations.ManageJoinsQueue : Prop :=
  ∀ (p : Port) (f : EthFrame) (h : Header) (r : Request) (s : State), s.Safe → Inward .manage p f h s →
    managePayload h f = some r →
    let entry : DupEntry := ⟨r.src, r.tag, s.now⟩
    (s.link.station ≠ some h.dest →
      ∃ t, exec (.manage p f) s = .next t ∧ directed (oppositePort p) .bulk (.fwd f) s t) ∧
    (s.link.station = some h.dest →
    ((∃ e ∈ s.link.dup, e.src = r.src ∧ e.tag = r.tag ∧ s.now < e.arrival + 500000) →
      exec (.manage p f) s = .next s) ∧
    ((∀ e ∈ s.link.dup, e.src = r.src → e.tag = r.tag → e.arrival + 500000 ≤ s.now) →
      ((managerRights s r.src = none ∨ s.mgmt.requests.length = 4) →
        ∃ t, exec (.manage p f) s = .next t ∧ t = { s with link := { s.link with dup := t.link.dup } } ∧
          entry ∈ t.link.dup) ∧
      ((managerRights s r.src).isSome = true → s.mgmt.requests.length < 4 →
        headWaits (setRequests (s.mgmt.requests ++ [r]) s) →
        ∃ t, exec (.manage p f) s = .next t ∧ onlyLinkRequests s t ∧ t.mgmt.requests = s.mgmt.requests ++ [r] ∧
          t.link = { s.link with dup := t.link.dup } ∧ entry ∈ t.link.dup)))

/-- R3, R10 and the frame formats: every frame the part builds passes the header check with its own fields, and its ORDER
and GENCMD payloads read back as what was sent. What follows the given fields of an ANSWER or NOTICE is laid out by the
model's Config (log 15). -/
def Obligations.OwnFramesReadBack : Prop :=
  (∀ (f : OwnFrame) (dst own : BitVec 48) (a : Args), 1 ≤ f.dest → f.dest ≤ 65535 → 1 ≤ f.src → f.src ≤ 65534 →
    (ownPayloadBytes f.payload).length ≤ 1492 →
    frameClass ⟨dst, own, true, 0x9A31, ownBody f, a⟩ =
      .vendor ⟨ownKind f.payload, f.dest, f.src, (ownPayloadBytes f.payload).length⟩) ∧
  ∀ f : OwnFrame,
    (∀ n code tag cause, f.payload = .order n code tag cause → n < 25 → tag < 256 →
      byteAt (ownBody f) 8 = n ∧ byteAt (ownBody f) 9 = orderCode code ∧ byteAt (ownBody f) 10 = tag ∧
        byteAt (ownBody f) 11 = rank cause) ∧
    (∀ k start bias, f.payload = .gencmd k start bias → k ≤ 8 → -1000 ≤ bias → bias ≤ 1000 →
      byteAt (ownBody f) 8 = k ∧ byteAt (ownBody f) 9 = (if start then 1 else 0) ∧
        signed16 (word16At (ownBody f) 10) = bias) ∧
    (∀ tag kind st x, f.payload = .answer tag kind st x → tag < 65536 → kind < 256 →
      word16At (ownBody f) 8 = tag ∧ byteAt (ownBody f) 10 = kind ∧ byteAt (ownBody f) 11 = statusCode st ∧
        byteAt (ownBody f) 12 = statusReason st) ∧
    (∀ c x, f.payload = .notice c x → byteAt (ownBody f) 8 = noticeCode c)

/-! ## Chapter 2: intake -/

/-- R17, R20: a sample set that arrives once the processing index is k is stored when its index is k to k + 15 and not yet
buffered, and dropped otherwise; an IDLE stream becomes ACQUIRING either way. The conditions of R21 are then tested. -/
def Obligations.SampleArrivesOnceIndexSet : Prop :=
  ∀ (p : Port) (f : EthFrame) (h : Header) (x : SamplePayload) (r k : Nat) (s : State), s.Safe → SampleFor p f h x r s →
    s.intake.k = some k →
    ∃ u, exec (.sample p f) s = .next (processAll u) ∧
      u = { forwardVendor p f h s with intake := u.intake, records := u.records } ∧
      u.intake = { s.intake with streams := u.intake.streams } ∧ (∀ i, i ≠ r → u.stream i = s.stream i) ∧
      (u.stream r).state = (if (s.stream r).state = .idle then .acquiring else (s.stream r).state) ∧
      (u.stream r).buffer =
        if (x.index + 65536 - k % 65536) % 65536 ≤ 15 ∧ ∀ y ∈ (s.stream r).buffer, y.index ≠ x.index then
          (s.stream r).buffer ++ [⟨x.index, x.sync, x.values⟩]
        else (s.stream r).buffer

/-- R17, R18, R19: a sample set that arrives while the processing index is unset, by the first case that applies; at an
arrival run of 32 the stream becomes GOOD and its latest index is the processing index. -/
def Obligations.SampleArrivesBeforeIndex : Prop :=
  ∀ (p : Port) (f : EthFrame) (h : Header) (x : SamplePayload) (r : Nat) (s : State), s.Safe → SampleFor p f h x r s →
    s.intake.k = none →
    let old := s.stream r
    let set : SampleSet := ⟨x.index, x.sync, x.values⟩
    let new := storeEarly set old
    (old.latest = none → new.buffer = [set] ∧ new.latest = some x.index ∧ new.arrRun = 1) ∧
    (∀ m, old.latest = some m →
      if (∃ y ∈ old.buffer, y.index = x.index) then new = old
      else if 1 ≤ aheadBy x.index m ∧ aheadBy x.index m ≤ 32767 then
        new.latest = some x.index ∧ set ∈ new.buffer ∧ new.arrRun = (if aheadBy x.index m = 1 then old.arrRun + 1 else 1) ∧
        ∀ y ∈ old.buffer, y ∈ new.buffer ↔ aheadBy x.index y.index ≤ 15
      else if 1 ≤ aheadBy m x.index ∧ aheadBy m x.index ≤ 15 then new = { old with buffer := old.buffer ++ [set] }
      else new = old) ∧
    (new.arrRun < 32 →
      ∃ u, exec (.sample p f) s = .next u ∧ u.intake.k = none ∧ (∀ i, i ≠ r → u.stream i = s.stream i) ∧
        u.stream r = { new with state := if old.state = .idle then .acquiring else old.state } ∧
        u = { forwardVendor p f h s with intake := u.intake, records := u.records }) ∧
    (32 ≤ new.arrRun → ∀ m, new.latest = some m →
      ∃ u, exec (.sample p f) s = .next (processAll u) ∧ u.intake.k = some m ∧ u.intake.count = 0 ∧
        u.intake.lastProc = some s.now ∧ (u.stream r).state = .good ∧
        (∀ z ∈ u.intake.streams, z.delRun = 0 ∧ z.subRun = 0 ∧ z.outcomes = [] ∧
          ∀ y ∈ z.buffer, aheadBy y.index m ≤ 15) ∧
        u = { forwardVendor p f h s with intake := u.intake, records := u.records })

/-- R6, R17, R34: a SAMPLE frame that is not offered, has an invalid payload, matches no enabled subscription or has
another channel count is forwarded as R5 says and changes nothing else. -/
def Obligations.SampleNotTaken : Prop :=
  ∀ (p : Port) (f : EthFrame) (h : Header) (s : State), receiving s p = true → frameClass f = .vendor h →
    h.kind = .sample →
    (offeredInward s h = false ∨ samplePayload h f.body = none ∨
      (∃ x, samplePayload h f.body = some x ∧ (subscriptionOf s h.src x.stream = none ∨
        ∃ r, subscriptionOf s h.src x.stream = some r ∧ x.values.length ≠ (s.sub r).count))) →
    ∃ t, exec (.sample p f) s = .next t ∧ Forwarded p f h .stream s t

/-- R21, R22, R23, R35, R53, R59, R142, R155: when the fallback time has run out index k is processed, whatever the buffers hold:
k and the processed count move on, the timer restarts, and each phase takes the value that the merge of its sources gives (R29),
with its runs and flag (R30), its holds (R25) and the values RMS is formed from, which are those of the history and stand in a
total loss of sample data, with every buffer empty (R53); so does a derived residual (R31). A processing whose count is a multiple
of 8 makes the measurement update, and every eighth of these the sharing update (R155); at any other count nothing but the index
is processed. Before the fallback time nothing happens. The model's choices: the sharing update falls
where the count is a multiple of 64 (log 17) and is the last act of the update (log 13); in a total loss of samples a phase
without a usable source takes a 0 (log 59); the BF tests are those of log 61. -/
def Obligations.FallbackProcessesIndex : Prop :=
  ∀ (k last : Nat) (s : State), s.intake.k = some k → s.intake.lastProc = some last → s.blocksRun = true →
    (last + (if s.fNom = 60 then 2083 else 2500) ≤ s.now →
      ∃ u, exec .fallback s = .next (processWhile 63 u) ∧ u = processIndex s ∧
        u.intake.k = some ((k + 1) % 65536) ∧ u.intake.count = (s.intake.count + 1) % 4294967296 ∧
        u.intake.lastProc = some s.now ∧ u.intake.streams = s.intake.streams.map (fun r => (stepStream k r).stream) ∧
        (∀ pt ph, (phaseRec s pt ph).hist.length ≤ 32 → (phaseRec u pt ph).hist.length ≤ 32) ∧
        (let src := sourcesOf (s.intake.streams.map (stepStream k)) (usedRows s.tbl)
         let loss := decide (∀ z ∈ s.intake.streams, z.buffer = [])
         let merged := fun (pt : PointId) (ph : Phase) => mergePhase (match pt with
           | .cur _ => true
           | .volt _ => false) (src pt ph)
         let sources := fun (pt : PointId) (ph : Phase) => [(src pt ph).main, (src pt ph).check].filterMap id
         let missing := fun (pt : PointId) (ph : Phase) => (sources pt ph).any fun y => y.missing
         let clipped := fun (pt : PointId) (ph : Phase) => (sources pt ph).any fun y => y.clipped
         (∀ pt ph, pointHeld s pt → ph ≠ .n ∨ ((∃ n, pt = .cur n) ∧ (src pt .n).main ≠ none) →
           PhaseProcessed loss (missing pt ph) (clipped pt ph) (merged pt ph) (phaseRec s pt ph) (phaseRec u pt ph)) ∧
         (∀ n, pointHeld s (.cur n) → (src (.cur n) .n).main = none →
           let pt := PointId.cur n
           let d := deriveResidual (merged pt .a) (merged pt .b) (merged pt .c)
           PhaseProcessed loss (missing pt .a || missing pt .b || missing pt .c)
             (clipped pt .a || clipped pt .b || clipped pt .c || d.2) d.1 (phaseRec s pt .n) (phaseRec u pt .n)) ∧
         ∀ v, phaseRec u (.volt v) .n = phaseRec s (.volt v) .n) ∧
        (u.intake.count % 8 ≠ 0 → u = processOne k s) ∧
        (s.Safe → u.intake.count % 8 = 0 → UpdateMade s u)) ∧
    (s.now < last + (if s.fNom = 60 then 2083 else 2500) → exec .fallback s = .next s)

/-- R24, with what R23, R26 and R27 say of a delivered and of a substituted stream: a stream at a processing. A
delivered stream gives up its set, takes its values after marker handling and its flag; a substituted one keeps its
values; the state follows the table. -/
def Obligations.StreamAtProcessing : Prop :=
  ∀ (k : Nat) (r : StreamRec), r.state ≠ .idle → r.delRun ≤ 32 → r.subRun ≤ 32 →
    let t := (stepStream k r).stream
    (∀ x, r.buffer.find? (fun y => decide (y.index = k)) = some x →
      t.delRun = min 32 (r.delRun + 1) ∧ t.subRun = 0 ∧ t.sync = x.sync ∧ (∀ y ∈ t.buffer, y.index ≠ k) ∧
      t.outcomes = (true :: r.outcomes).take 7 ∧
      (∀ i v, i < 8 → x.values[i]? = some v →
        t.last[i]? = some (if v = -32768 then r.last.getD i 0
          else if v = -32767 then (if 0 ≤ r.last.getD i 0 then 32767 else -32767) else v)) ∧
      t.state = if t.delRun = 32 ∧ r.state ≠ .good then .good else r.state) ∧
    ((∀ y ∈ r.buffer, y.index ≠ k) →
      t.subRun = min 32 (r.subRun + 1) ∧ t.delRun = 0 ∧ t.sync = r.sync ∧ t.last = r.last ∧ t.buffer = r.buffer ∧
      t.outcomes = (false :: r.outcomes).take 7 ∧
      t.state = if t.subRun = 32 then .lost else if r.state = .good ∧ false ∈ r.outcomes then .degraded else r.state)

/-- R24: STREAM_GOOD and STREAM_LOST, each at a run of 32. R25, R30: HOLD_EXPIRY, DIVERGENT_SET and DIVERGENT_CLEAR change one
phase of one point; every other phase of every point, the streams, the processing index and all the rest stand. As commands
of their own they are the model's (log 3). -/
def Obligations.StreamAndPhaseEvents : Prop :=
  (∀ (r : Nat) (s : State), s.Safe → r < 48 →
     ((s.stream r).delRun = 32 → (s.stream r).state = .acquiring ∨ (s.stream r).state = .degraded ∨ (s.stream r).state = .lost →
       ∃ t, exec (.streamGood r) s = .next t ∧ t.stream r = { s.stream r with state := .good } ∧
         (∀ i, i ≠ r → t.stream i = s.stream i) ∧ t = { s with intake := t.intake, records := t.records } ∧
         t.intake = { s.intake with streams := t.intake.streams } ∧
         (s.siteInForce = true → noticeEnabled s .stream = true → .stream ∈ t.records.pendingNotices)) ∧
     ((s.stream r).subRun = 32 → (s.stream r).state = .acquiring ∨ (s.stream r).state = .good ∨ (s.stream r).state = .degraded →
       ∃ t, exec (.streamLost r) s = .next t ∧ t.stream r = { s.stream r with state := .lost } ∧
         (∀ i, i ≠ r → t.stream i = s.stream i) ∧ t = { s with intake := t.intake, records := t.records } ∧
         t.intake = { s.intake with streams := t.intake.streams } ∧
         (s.siteInForce = true → noticeEnabled s .stream = true → .stream ∈ t.records.pendingNotices))) ∧
  ∀ (pt : PointId) (ph : Phase) (s : State), pointOk pt = true → s.intake.cur.length = 25 → s.intake.volt.length = 13 →
    let p := phaseRec s pt ph
    let becomes := fun (i : Instr) (new : PhaseRec) => ∃ t, exec i s = .next t ∧
      t = { s with intake := { s.intake with cur := t.intake.cur, volt := t.intake.volt } } ∧
      t.intake.cur.length = 25 ∧ t.intake.volt.length = 13 ∧ phaseRec t pt ph = new ∧
      ∀ point phase, point ≠ pt ∨ phase ≠ ph → phaseRec t point phase = phaseRec s point phase
    (p.missHold = 1 → becomes (.holdExpiry pt ph .missing) { p with missHold := 0 }) ∧
    (p.clipHold = 1 → becomes (.holdExpiry pt ph .clipped) { p with clipHold := 0 }) ∧
    (p.divRun = 8 → becomes (.divergentSet pt ph) { p with divergent := true }) ∧
    (p.agrRun = 32 → becomes (.divergentClear pt ph) { p with divergent := false })

/-- R16, R28 to R32: the used rows, the source a row gives, the value of a phase with two, one or no usable sources, what a
comparison does to its runs and its flag, a derived residual, and the quality of a point, the worst over its phases. -/
def Obligations.MergeAndDivergence : Prop :=
  (∀ (t : Tables) (i : Nat) (row : ChanRow), (i, row) ∈ usedRows t ↔ usedChannel t i row) ∧
  (∀ (steps : List StreamStep) (i : Nat) (row : ChanRow),
    let st := steps.getD (i / 8) { stream := {} }
    let y := sourceAt steps i row
    (y.usable = true ↔ st.stream.state = .good ∨ st.stream.state = .degraded) ∧
    (y.clean = true ↔ st.missing.getD (i % 8) false = false ∧ st.clipped.getD (i % 8) false = false) ∧
    y.value = st.stream.last.getD (i % 8) 0 ∧ (y.degraded = true ↔ st.stream.state = .degraded) ∧
    y.sync = st.stream.sync ∧ y.scale = row.scale ∧ y.limit = row.divLimit) ∧
  (∀ (steps : List StreamStep) (rows : List (Nat × ChanRow)) (pt : PointId) (ph : Phase) (role : Role),
    let y := match role with
      | .main => (sourcesOf steps rows pt ph).main
      | .check => (sourcesOf steps rows pt ph).check
    (y = none ↔ ∀ x ∈ rows, ¬(x.2.point = pt ∧ x.2.phase = ph ∧ x.2.role = role)) ∧
    ∀ z, y = some z → ∃ x ∈ rows, x.2.point = pt ∧ x.2.phase = ph ∧ x.2.role = role ∧ z = sourceAt steps x.1 x.2) ∧
  (∀ (isCurrent : Bool) (m c : Source') (x : Option Source'),
    let only := fun (v : Int) (r : Merged) => r.value = v ∧ r.has = true ∧ r.cmp = none
    let nothing := fun (r : Merged) => r.value = 0 ∧ r.has = false ∧ r.cmp = none
    nothing (mergePhase isCurrent ⟨none, x⟩) ∧
    (m.usable = true → (∀ y, x = some y → y.usable = false) → only m.value (mergePhase isCurrent ⟨some m, x⟩)) ∧
    (m.usable = false → c.usable = true →
      only (max (-32767) (min 32767 ((c.value * (c.scale : Int)).tdiv (m.scale : Int)))) (mergePhase isCurrent ⟨some m, some c⟩)) ∧
    (m.usable = false → (∀ y, x = some y → y.usable = false) → nothing (mergePhase isCurrent ⟨some m, x⟩))) ∧
  (∀ a b c : Merged,
    let sum := a.value + (b.value * (b.scale : Int)).tdiv (a.scale : Int) + (c.value * (c.scale : Int)).tdiv (a.scale : Int)
    let r := deriveResidual a b c
    (a.has = true → b.has = true → c.has = true → r.1.value = max (-32767) (min 32767 sum) ∧ r.1.has = true ∧
      r.1.cmp = none ∧ r.1.scale = a.scale ∧ (r.2 = true ↔ sum < -32767 ∨ 32767 < sum)) ∧
    (a.has = false ∨ b.has = false ∨ c.has = false →
      r.1.value = 0 ∧ r.1.has = false ∧ r.1.cmp = none ∧ r.2 = false)) ∧
  (∀ (steps : List StreamStep) (rows : List (Nat × ChanRow)) (pt : PointId) (x : Four PhaseRec),
    let src := sourcesOf steps rows pt
    let current := ∃ n, pt = .cur n
    let fed := fun (ph : Phase) => ph ≠ .n ∨ (current ∧ (src .n).main ≠ none)
    let phase := fun (ph : Phase) => ph ≠ .n ∨ current
    let invalid := ∃ ph, fed ph ∧ ∀ y, ¬UsableSource (src ph) y
    let degraded := (∃ ph, fed ph ∧ OnlyDegraded (src ph)) ∨ ∃ ph, phase ph ∧ 0 < (x.get ph).missHold
    let suspect := (∃ ph, phase ph ∧ (x.get ph).divergent = true) ∨ ∃ ph y, fed ph ∧ UsableSource (src ph) y ∧ y.sync = false
    let q := pointQuality steps rows pt x
    (invalid → q = .invalid) ∧ (¬invalid → degraded → q = .degraded) ∧
      (¬invalid → ¬degraded → suspect → q = .suspect) ∧ (¬invalid → ¬degraded → ¬suspect → q = .good)) ∧
  ∀ (isCurrent : Bool) (m c : Source') (p : PhaseRec), m.usable = true → c.usable = true →
    let a := m.value
    let b := limitCount ((c.value * (c.scale : Int)).tdiv (m.scale : Int))
    let r := mergePhase isCurrent ⟨some m, some c⟩
    (m.clean = true → c.clean = true → (a - b).natAbs ≤ m.limit → r.value = (a + b).tdiv 2 ∧ r.cmp = some true) ∧
    (m.clean = true → c.clean = true → m.limit < (a - b).natAbs →
      r.cmp = some false ∧ (r.value = a ∨ r.value = b) ∧
      (isCurrent = true → r.value.natAbs = min a.natAbs b.natAbs) ∧
      (isCurrent = false → r.value.natAbs = max a.natAbs b.natAbs) ∧ (a.natAbs = b.natAbs → r.value = a)) ∧
    (m.clean = true → c.clean = false → r.value = a ∧ r.cmp = none) ∧
    (m.clean = false → c.clean = true → r.value = b ∧ r.cmp = none) ∧
    (m.clean = false → c.clean = false → r.value = a ∧ r.cmp = none) ∧
    compareRuns none p = p ∧
    (p.agrRun ≤ 32 → (compareRuns (some true) p).divRun = 0 ∧ (compareRuns (some true) p).agrRun = min 32 (p.agrRun + 1) ∧
      (compareRuns (some true) p).divergent = (p.divergent && decide (p.agrRun + 1 < 32))) ∧
    (p.divRun ≤ 8 → (compareRuns (some false) p).agrRun = 0 ∧ (compareRuns (some false) p).divRun = min 8 (p.divRun + 1) ∧
      (compareRuns (some false) p).divergent = (p.divergent || decide (8 ≤ p.divRun + 1)))

/-! ## Chapter 3: measurement -/

/-- R39, R40: direction with voltage, the memory through eight updates without it, and its end; then
DIRECTION_MEMORY_EXPIRY on its own (log 3). -/
def Obligations.DirectionMemory : Prop :=
  (∀ (volts limit : Nat) (torque : Int) (m : DirMem),
    (limit ≤ volts → 0 < torque → formDirection volts limit torque m = (.forward, ⟨some .forward, 0⟩)) ∧
    (limit ≤ volts → torque < 0 → formDirection volts limit torque m = (.reverse, ⟨some .reverse, 0⟩)) ∧
    (limit ≤ volts → torque = 0 → formDirection volts limit torque m = (.unknown, ⟨none, 0⟩)) ∧
    (volts < limit → ∀ d, m.firm = some d → m.lowRun < 8 →
      formDirection volts limit torque m = (d, ⟨some d, m.lowRun + 1⟩)) ∧
    (volts < limit → 8 ≤ m.lowRun → (formDirection volts limit torque m).1 = .unknown ∧
      (formDirection volts limit torque m).2.firm = none)) ∧
  ∀ (n : Nat) (ph : Phase) (s : State), n < s.meas.cur.length → ((s.curMeas n).mem.get ph).lowRun = 8 →
    ((s.curMeas n).mem.get ph).firm ≠ none →
    ∃ t, exec (.directionMemoryExpiry n ph) s = .next t ∧ t = { s with meas := t.meas } ∧
      ((t.curMeas n).mem.get ph).firm = none ∧ (t.curMeas n).dir.get ph = .unknown ∧ (t.curMeas n).rms = (s.curMeas n).rms ∧
      (t.curMeas n).power = (s.curMeas n).power ∧ ∀ i, i ≠ n → t.curMeas i = s.curMeas i

/-- R36 to R38, R41, R43 to R46: the square root is the floor of the exact one; the RMS of 32 values, brought to its unit and
limited to 65,535; the scale of a phase; the residual samples of a voltage point and the torque of a residual; the product mean
and the scales of real power; a crossing and its time, which crossing the tracker accepts, when it is emptied, and the frequency
of five crossings. TRACKER_EMPTY as a command of its own is the model's (log 3). With s[n] = 0 the fraction is 256, as the
formula of R43 gives it (log 57); the 10 % of Vn of R44 is rounded down to whole volts (log 58). -/
def Obligations.MeasuredQuantities : Prop :=
  (∀ n : Nat, n < 2 ^ 64 → floorSqrt n * floorSqrt n ≤ n ∧ n < (floorSqrt n + 1) * (floorSqrt n + 1)) ∧
  (∀ counts scale : Nat, publishRms counts scale ≤ 65535 ∧
    (counts * scale / 1000 ≤ 65535 → publishRms counts scale = counts * scale / 1000) ∧
    (65535 < counts * scale / 1000 → publishRms counts scale = 65535)) ∧
  (∀ l : List Int, rmsCounts l = floorSqrt ((l.map fun x => x.natAbs * x.natAbs).sum / 32)) ∧
  (∀ (rows : List (Nat × ChanRow)) (pt : PointId) (ph : Phase) (x : Four PhaseRec),
    let mapped := fun (ph : Phase) (y : Nat × ChanRow) => y ∈ rows ∧ y.2.point = pt ∧ y.2.phase = ph ∧ y.2.role = .main
    (scaleOf rows pt ph = none ↔ ∀ y, ¬mapped ph y) ∧
    (∀ scale, scaleOf rows pt ph = some scale → (∃ y, mapped ph y ∧ y.2.scale = scale) ∧
      phaseRms rows pt ph (x.get ph) = publishRms (rmsCounts (x.get ph).level) scale) ∧
    (scaleOf rows pt ph = none → phaseRms rows pt ph (x.get ph) = 0) ∧
    (∀ sa sb sc, scaleOf rows pt .a = some sa → scaleOf rows pt .b = some sb → scaleOf rows pt .c = some sc →
      (residualSamples rows pt x).length = 32 ∧
      (∀ i, i < 32 → (residualSamples rows pt x)[i]? = some (max (-32767) (min 32767
        (x.a.hist.getD i 0 + (x.b.hist.getD i 0 * (sb : Int)).tdiv sa + (x.c.hist.getD i 0 * (sc : Int)).tdiv sa)))) ∧
      residualVolts rows pt x = publishRms (rmsCounts (residualSamples rows pt
        ⟨{ x.a with hist := x.a.level }, { x.b with hist := x.b.level }, { x.c with hist := x.c.level }, x.n⟩)) sa) ∧
    (∀ scale, scaleOf rows pt .n = some scale ∨ (scaleOf rows pt .n = none ∧ scaleOf rows pt .a = some scale) →
      residualAmps rows pt x = publishRms (rmsCounts x.n.level) scale)) ∧
  (∀ v i : List Int, productMean v i = ((List.zipWith (fun x y => x * y) v i).sum).tdiv 32 ∧
    residualTorque v i = (-(List.zipWith (fun x y => x * y) v i).sum).tdiv 32) ∧
  (∀ (rows : List (Nat × ChanRow)) (v i : PointId) (ph : Phase) (x y : Nat), scaleOf rows v ph = some x →
    scaleOf rows i ph = some y → scaleProduct rows v i ph = (x : Int) * (y : Int)) ∧
  (∀ (c j : Nat) (hist : List Int), j < 8 →
    let older := hist.getD (j + 1) 0
    let newer := hist.getD j 0
    (older < 0 → 0 ≤ newer → ∃ fraction : Nat, (fraction : Int) = (-older * 256) / (newer - older) ∧
      crossingAt c j hist = some (((c + 4294967296 - j - 1) % 4294967296 * 256 + fraction) % 2 ^ 40)) ∧
    (0 ≤ older ∨ newer < 0 → crossingAt c j hist = none)) ∧
  (∀ (t : Nat) (m : VoltMeas), m.times.length ≤ 5 →
    let far := ∀ newest, m.times.head? = some newest → 2048 ≤ timeDiff t newest
    (far → offerCrossing t m = { m with times := (t :: m.times).take 5, accepted := min 5 (m.accepted + 1) }) ∧
    (¬far → offerCrossing t m = m)) ∧
  (∀ x y : Nat, x < 2 ^ 40 → y < 2 ^ 40 → timeDiff x y < 2 ^ 40 ∧ (timeDiff x y + y) % 2 ^ 40 = x) ∧
  (∀ (s : State) (hist : List Int) (m : VoltMeas),
    let valid := m.quality ≠ .invalid ∧ s.meas.thr.dir10 ≤ m.rms.a
    let stale := ∃ newest, m.times.head? = some newest ∧ 16384 < timeDiff (s.intake.count * 256 % 2 ^ 40) newest
    let empty := { m with times := [], accepted := 0 }
    let offered := [7, 6, 5, 4, 3, 2, 1, 0].foldl fun m j =>
      if j + 1 < s.intake.filled then
        match crossingAt s.intake.count j hist with
        | some t => offerCrossing t m
        | none => m
      else m
    let x := trackCrossings s hist m
    let published := fun (held : VoltMeas) => x = { held with freq := x.freq, sum4 := x.sum4, latest := held.times.head? }
    (¬valid → published empty) ∧ (valid → stale → published (offered empty)) ∧ (valid → ¬stale → published (offered m)) ∧
    (x.accepted < 5 → x.freq = none ∧ x.sum4 = none) ∧
    ∀ t0 t1 t2 t3 t4, x.accepted = 5 → x.times = [t0, t1, t2, t3, t4] →
      let sum := timeDiff t0 t4
      let f := 4 * 256 * 32 * s.fNom * 1000 / sum
      x.sum4 = some sum ∧ (sum = 0 ∨ f < 40000 ∨ 70000 < f → x.freq = none) ∧
        (sum ≠ 0 → 40000 ≤ f → f ≤ 70000 → x.freq = some f)) ∧
  ∀ (v k newest : Nat) (s : State), v < s.meas.volt.length → s.intake.k = some k → s.intake.count % 8 = 0 →
    trackerValid s.meas.thr (s.voltMeas v) = true → (s.voltMeas v).times.head? = some newest →
    16384 < timeDiff (s.intake.count * 256 % 2 ^ 40) newest →
    ∃ t, exec (.trackerEmpty v) s = .next t ∧ t = { s with meas := t.meas } ∧ (t.voltMeas v).times = [] ∧
      (t.voltMeas v).accepted = 0 ∧ (t.voltMeas v).freq = none ∧ (t.voltMeas v).rms = (s.voltMeas v).rms ∧
      (t.voltMeas v).declared = (s.voltMeas v).declared ∧ ∀ i, i ≠ v → t.voltMeas i = s.voltMeas i

/-- R49, R50: the raw class by the first row that applies; its run; the declared state when the run has reached the count
of the class; and QUALIFIER_DECLARE on its own (log 3). -/
def Obligations.QualifierDeclares : Prop :=
  (∀ (site : SiteRow) (new : VClass) (m : VoltMeas), m.run ≤ 255 →
    let x := qualify site new m
    x.raw = new ∧ x.run = (if new = m.raw then min 255 (m.run + 1) else 1) ∧
    (qualifierCount site new ≤ x.run → x.declared = new) ∧ (x.run < qualifierCount site new → x.declared = m.declared)) ∧
  (∀ (thr : Thresholds) (m : VoltMeas),
    let phases := [m.rms.a, m.rms.b, m.rms.c]
    let dead := ∀ x ∈ phases, x < thr.dead
    let healthy := (∀ x ∈ phases, thr.healthyLo ≤ x ∧ x ≤ thr.healthyHi) ∧
      ∃ f, m.freq = some f ∧ thr.freqLo ≤ f ∧ f ≤ thr.freqHi
    let live := ∀ x ∈ phases, thr.live ≤ x
    (m.quality = .invalid → rawClass thr m = .indeterminate) ∧
    (m.quality ≠ .invalid → dead → rawClass thr m = .dead) ∧
    (m.quality ≠ .invalid → ¬dead → healthy → rawClass thr m = .healthy) ∧
    (m.quality ≠ .invalid → ¬dead → ¬healthy → live → rawClass thr m = .live) ∧
    (m.quality ≠ .invalid → ¬dead → ¬healthy → ¬live → rawClass thr m = .indeterminate)) ∧
  ∀ (v : Nat) (s : State), v < s.meas.volt.length →
    qualifierCount s.site (s.voltMeas v).raw ≤ (s.voltMeas v).run → (s.voltMeas v).declared ≠ (s.voltMeas v).raw →
    ∃ t, exec (.qualifierDeclare v) s = .next t ∧ t = { s with meas := t.meas } ∧
      t.meas = { s.meas with volt := t.meas.volt } ∧
      t.voltMeas v = { s.voltMeas v with declared := (s.voltMeas v).raw } ∧ ∀ i, i ≠ v → t.voltMeas i = s.voltMeas i

/-! ## Chapter 4: protection -/

/-- R64: M16 is floor(I × 16 / P), at most 640; the rate is that of the last breakpoint at or below it; the increment is
floor(rate × 100 / TD), at most 1,000,000. I equal to P gives 16, TD = 100 uses the rate as written, TD = 50 doubles it and
TD = 5 multiplies it by 20; below P no increment is added. -/
def Obligations.CurveIncrement : Prop :=
  (∀ (c : CurveRow) (row : ElementRow) (i rate : Nat) (below above : List (Nat × Nat)) (m : Nat),
    c.points = below ++ (m, rate) :: above → m ≤ min 640 (i * 16 / row.pickup) →
    (∀ p ∈ above, min 640 (i * 16 / row.pickup) < p.1) →
    tocIncrement c row i = min 1000000 (rate * 100 / row.td)) ∧
  (∀ row : ElementRow, 1 ≤ row.pickup → min 640 (row.pickup * 16 / row.pickup) = 16) ∧
  (∀ rate : Nat, rate * 100 / 100 = rate ∧ rate * 100 / 50 = rate * 2 ∧ rate * 100 / 5 = rate * 20) ∧
  ∀ (c : CurveRow) (row : ElementRow) (i count : Nat) (x : RtSlot), i < row.pickup →
    (evalToc c row i count x).acc ≤ x.acc

/-- R65 to R67: a TOC element at an update that is not blocked, by its state and its quantity. -/
def Obligations.TocEvaluation : Prop :=
  ∀ (c : CurveRow) (row : ElementRow) (i count : Nat) (x : RtSlot),
    let y := evalToc c row i count x
    let sum := min 1000000 (x.acc + tocIncrement c row i)
    let dec := c.resetRate * 100 / row.td
    (x.state = .idle → i < row.pickup → y = x) ∧
    (x.state = .idle ∨ x.state = .timing ∨ x.state = .resetting → row.pickup ≤ i →
      y.acc = sum ∧ (y.state = .operated ↔ sum = 1000000) ∧ (y.state = .timing ↔ sum ≠ 1000000) ∧
      (x.state = .idle → y.pickupIdx = some count) ∧ (x.state ≠ .idle → y.pickupIdx = x.pickupIdx)) ∧
    (x.state = .timing ∨ x.state = .operated → i < row.pickup → dropout row ≤ i → y = x) ∧
    (x.state = .operated → row.pickup ≤ i → dropout row ≤ i → y = x) ∧
    (x.state = .timing ∨ x.state = .operated → i < row.pickup → i < dropout row → row.resetMode = .instant → y = {}) ∧
    (x.state = .timing ∨ x.state = .operated → i < row.pickup → i < dropout row → row.resetMode = .timed →
      if x.acc ≤ dec then y = {} else y = { x with acc := x.acc - dec, state := .resetting }) ∧
    (x.state = .resetting → i < row.pickup →
      if x.acc ≤ dec then y = {} else y = { x with acc := x.acc - dec, state := .resetting })

/-- R60 to R63, R68 to R70, R73: the quantity, the thresholds and the pickup of each kind of element; when an element is blocked;
a blocked slot is frozen, and one no longer blocked takes its frozen state again and is evaluated from it, by the table of R69
where its kind is a definite-time one; the operate index of an element that enters OPERATED, and the peaks and phases of a
pickup. -/
def Obligations.ElementsEvaluated : Prop :=
  (∀ (d : DirSetting) (x : Dir),
    passes d x = true ↔ d = .none ∨ (d = .forward ∧ x = .forward) ∨ (d = .reverse ∧ x = .reverse)) ∧
  (∀ (s : State) (row : ElementRow),
    let i := s.curMeas (pointNumber row.point)
    let v := s.voltMeas (pointNumber row.point)
    let shown := fun ph => if passes row.direction (i.dir.get ph) then i.rms.get ph else 0
    let q := quantity s row
    let current := row.kind = .toc ∨ row.kind = .ioc
    (current → row.scope = .phases → q = max (shown .a) (max (shown .b) (shown .c))) ∧
    (current → row.scope = .residual → q = shown .n) ∧
    (row.kind = .uv → q = min v.rms.a (min v.rms.b v.rms.c)) ∧ (row.kind = .ov → q = max v.rms.a (max v.rms.b v.rms.c)) ∧
    (∀ f, row.kind = .uf ∨ row.kind = .ovf → v.freq = some f → q = f) ∧
    (∀ p, row.kind = .rp → i.power = some p → q = -p) ∧
    dropout row = (if row.kind = .uv ∨ row.kind = .uf then row.pickup * 105 / 100 else row.pickup * 95 / 100) ∧
    (let saturated := row.kind = .ioc ∧
        ((row.scope = .phases ∧ (i.sat.a = true ∨ i.sat.b = true ∨ i.sat.c = true)) ∨ (row.scope = .residual ∧ i.sat.n = true))
     (pickedUp s row false = true ↔ saturated ∨ (match row.kind with
       | .toc | .ioc | .ov | .ovf => (row.pickup : Int) ≤ q
       | .uv | .uf => q ≤ row.pickup
       | .rp => (row.pickup : Int) < q)) ∧
     (pickedUp s row true = true ↔ saturated ∨ (match row.kind with
       | .toc | .ioc | .ov | .ovf | .rp => (dropout row : Int) ≤ q
       | .uv | .uf => q ≤ dropout row))) ∧
    (let unfit := fun (x : Quality) => x = .degraded ∨ x = .invalid
     let reference := ∃ w, (s.brk (pointNumber row.point)).vref = some w ∧ unfit (s.voltMeas w).quality
     let point := match row.point with
       | .cur n => unfit (s.curMeas n).quality
       | .volt w => unfit (s.voltMeas w).quality
     (elementBlocked s row = true ↔ point ∨ (current ∧ row.direction ≠ .none ∧ reference) ∨
       (row.kind = .rp ∧ (reference ∨ i.power = none)) ∨ ((row.kind = .uf ∨ row.kind = .ovf) ∧ v.freq = none))) ∧
    (∀ ph, row.kind = .toc ∨ row.kind = .ioc → (involved s row).get ph =
      (decide (row.scope = .phases ∧ ph ≠ .n ∨ row.scope = .residual ∧ ph = .n) &&
        ((passes row.direction (i.dir.get ph) && decide (row.pickup ≤ i.rms.get ph)) ||
          (decide (row.kind = .ioc) && i.sat.get ph)))) ∧
    (∀ ph, row.kind = .uv → (involved s row).get ph = decide (ph ≠ .n ∧ v.rms.get ph ≤ row.pickup)) ∧
    (∀ ph, row.kind = .ov → (involved s row).get ph = decide (ph ≠ .n ∧ row.pickup ≤ v.rms.get ph)) ∧
    (∀ ph, row.kind = .uf ∨ row.kind = .ovf ∨ row.kind = .rp → (involved s row).get ph = false)) ∧
  ∀ (s : State) (row : ElementRow) (x : RtSlot),
    let y := evalSlot s row x
    (elementBlocked s row = true →
      (x.state = .blocked → y = x) ∧ (x.state ≠ .blocked → y = { x with state := .blocked, frozen := some x.state })) ∧
    (elementBlocked s row = false → ∀ old : RtSlot,
      (x.state ≠ .blocked → old = x) →
      (∀ st, x.state = .blocked → x.frozen = some st → old = { x with state := st, frozen := none }) →
      (x.state = .blocked → x.frozen ≠ none) → old.state ≠ .blocked →
      let picked := pickedUp s row (decide (old.state ≠ .idle))
      let delay := row.delayUpd.getD (msToUpdates s.fNom row.delayMs)
      let tested := fun (n : Nat) => y.acc = n ∧ y.state = (if delay ≤ n then .operated else .timing)
      (row.kind = .toc →
        let z := evalToc (s.tbl.curves.getD row.curve {}) row (quantity s row).toNat s.intake.count old
        y.state = z.state ∧ y.acc = z.acc ∧ y.pickupIdx = z.pickupIdx ∧ (z.state = .idle → y = z)) ∧
      (row.kind ≠ .toc →
        (old.state = .idle → picked = true → tested 0 ∧ y.pickupIdx = some s.intake.count) ∧
        (old.state = .idle → picked = false → y = old) ∧
        (old.state = .timing → picked = true → tested (min delay (old.acc + 1)) ∧ y.pickupIdx = old.pickupIdx) ∧
        (old.state = .operated → picked = true → y.state = .operated ∧ y.acc = old.acc ∧ y.pickupIdx = old.pickupIdx) ∧
        (old.state = .timing ∨ old.state = .operated → picked = false → y = {})) ∧
      (y.state = .operated → old.state ≠ .operated → y.operIdx = some s.intake.count) ∧
      (y.state ≠ .idle → y.frozen = old.frozen ∧
        (∀ ph, y.peaks.get ph = max (old.peaks.get ph) ((peakValues s row).get ph)) ∧
        ∀ ph, y.phases.get ph = (old.phases.get ph || (involved s row).get ph)))

/-- R65, R67, R69, R71, R72: TOC_OPERATE and DEFINITE_TIME_OPERATE. The element enters OPERATED with its operate index, its
target is latched, every present breaker of its trip list that is not OPEN has an open in service with PROT among
its causes, and then an ELEMENT trigger is taken; no other runtime slot changes. TOC_RESET_END clears a RESETTING slot. As
commands of their own they are the model's (log 3), as is the group kept with the slot (log 48). -/
def Obligations.ElementOperates : Prop :=
  (∀ (c : Instr) (i : Nat) (s : State), s.Safe → i < 64 → s.inService = true →
    (s.elemRow s.prot.active i).enabled = true → (s.rtSlot i).state = .timing →
    (c = .tocOperate i ∧ (s.elemRow s.prot.active i).kind = .toc ∧ (s.rtSlot i).acc = 1000000 ∨
      c = .definiteTimeOperate i ∧ (s.elemRow s.prot.active i).kind ≠ .toc ∧
        delayOf s (s.elemRow s.prot.active i) ≤ (s.rtSlot i).acc) →
    ∃ u, exec c s = .next (finish u) ∧
      u.rtSlot i = { s.rtSlot i with state := .operated, operIdx := some s.intake.count, operGroup := some s.prot.active } ∧
      (∀ j, j ≠ i → u.rtSlot j = s.rtSlot j) ∧ u.prot.active = s.prot.active ∧
      (match s.prot.active with
        | .a => u.prot.targetsA
        | .b => u.prot.targetsB)[i]? = (match s.prot.active with
        | .a => s.prot.targetsA
        | .b => s.prot.targetsB)[i]?.map (fun _ => some ⟨s.intake.count, s.intake.count⟩) ∧
      (∀ n ∈ (s.elemRow s.prot.active i).trip, n < 25 → (s.brk n).present = true → s.pos n ≠ .opn →
        ∃ o, (u.slot n).order = some o ∧ o.type = .opn ∧ .prot ∈ o.causes) ∧
      (∀ b, (s.elemRow s.prot.active i).lockout = .bus b → (u.busLock b).isSet = true) ∧
      ((s.elemRow s.prot.active i).lockout = .breaker →
        ∀ n ∈ (s.elemRow s.prot.active i).trip, n < 25 → (u.slot n).lock.isSet = true) ∧
      u.intake = s.intake ∧ u.meas = s.meas ∧ u.seqs = s.seqs ∧
      let row := s.elemRow s.prot.active i
      let x := s.rtSlot i
      let trigger := Trigger.element ⟨s.prot.active, i, row.kind, s.intake.count⟩ row.trip x.phases x.peaks
        (x.pickupIdx.getD s.intake.count)
      ∃ v : State, v.arb = u.arb ∧ v.seqs = s.seqs ∧ v.intake = s.intake ∧ v.now = s.now ∧ v.mgmt.mode = s.mgmt.mode ∧
        u.records.queue = (takeTrigger trigger v).records.queue) ∧
  ∀ (i : Nat) (s : State), s.Safe → i < 64 → (s.rtSlot i).state = .resetting → (s.rtSlot i).acc = 0 →
    ∃ t, exec (.tocResetEnd i) s = .next t ∧ t = { s with prot := t.prot } ∧ (t.rtSlot i).state = .idle ∧
      (t.rtSlot i).pickupIdx = none ∧ (t.rtSlot i).peaks = ⟨0, 0, 0, 0⟩ ∧ (∀ j, j ≠ i → t.rtSlot j = s.rtSlot j) ∧
      t.prot = { s.prot with slots := t.prot.slots }

/-! ## Chapter 5: the Order Arbiter -/

/-- R84, R85, R96: a valid POSITION frame. Its time and flags are taken, an unset last order tag takes the frame's, and a
contact pair is accepted when it equals the previous one and differs from the last accepted; the position is then that
of the table. An ISSUED order is acknowledged or completed in LIVE only. The slot's other data, and every other slot, stand
until messages are delivered, unless the frame completes an order. The frame itself is forwarded as R5 says, before it is
taken; one that is not offered, that no block takes in UNCONFIGURED, whose payload is invalid, or that is valid for no slot, is
forwarded as R5 says and changes nothing else. -/
def Obligations.PositionFrameTaken : Prop :=
  (∀ (p : Port) (f : EthFrame) (h : Header) (s : State), receiving s p = true → frameClass f = .vendor h →
    h.kind = .position →
    (offeredInward s h = false ∨ s.blocksRun = false ∨ positionPayload h f.body = none ∨
      ∃ x, positionPayload h f.body = some x ∧ ((s.brk x.slot).present = false ∨ (s.brk x.slot).station ≠ h.src)) →
    ∃ t, exec (.position p f) s = .next t ∧ Forwarded p f h .stream s t) ∧
  (∀ (h : Header) (b : List Byte),
    (positionPayload h b = none ↔ h.payloadLen ≠ 3 ∨ 24 < byteAt b 8) ∧
    ∀ x, positionPayload h b = some x → x.slot = byteAt b 8 ∧ x.contacts.openMade = (byteAt b 9).testBit 0 ∧
      x.contacts.closedMade = (byteAt b 9).testBit 1 ∧ x.localCtl = (byteAt b 9).testBit 2 ∧
      x.ready = (byteAt b 9).testBit 3 ∧ x.tag = byteAt b 10) ∧
  ∀ (p : Port) (f : EthFrame) (h : Header) (x : PositionPayload) (s : State), s.Safe → Inward .position p f h s →
    positionPayload h f.body = some x → s.blocksRun = true → (s.brk x.slot).present = true →
    (s.brk x.slot).station = h.src →
    ∃ v u, exec (.position p f) s = .next (finish u) ∧ Forwarded p f h .stream s v ∧ u.link = v.link ∧
      onlySlot x.slot s u ∧ SameOutside s u ∧ u.seqs = s.seqs ∧
      (let a := s.slot x.slot
       let b := u.slot x.slot
       b.lastFrame = some s.now ∧ b.localCtl = x.localCtl ∧ b.ready = x.ready ∧
       b.lastTag = (match a.lastTag with
         | none => some x.tag
         | some t => some t) ∧
       (a.prevPair ≠ some x.contacts → b.prevPair = some x.contacts ∧ b.acceptedPair = a.acceptedPair ∧
         b.position = a.position) ∧
       (a.prevPair = some x.contacts → b.prevPair = a.prevPair ∧ b.acceptedPair = some x.contacts) ∧
       (a.prevPair = some x.contacts → a.acceptedPair = some x.contacts → b.position = a.position) ∧
       (a.prevPair = some x.contacts → a.acceptedPair ≠ some x.contacts →
         b.position = (match x.contacts.openMade, x.contacts.closedMade with
           | true, false => .opn
           | false, true => .closed
           | false, false => .travel
           | true, true => .faulty)) ∧
       b.travelAt = (if b.position = a.position then a.travelAt else if b.position = .travel then some s.now else none) ∧
       b.lock = a.lock ∧ b.bf = a.bf ∧ b.bfTimer = a.bfTimer ∧ b.window = a.window ∧ b.withdraw = a.withdraw ∧
       (a.order = none → b.order = none ∧ b.lastResult = a.lastResult ∧ b.lineOn = a.lineOn) ∧
       (∀ o, a.order = some o → s.mgmt.mode ≠ .live ∨ o.phase = .syncWait →
         b.order = some o ∧ b.lastResult = a.lastResult ∧ b.lineOn = a.lineOn) ∧
       (∀ o, a.order = some o → s.mgmt.mode = .live → o.phase = .issued →
         (b.position = (match o.type with
           | .opn => .opn
           | .close => .closed) → b.order = none ∧ b.lastResult = some ⟨o.type, o.tag, o.causes, .done⟩ ∧
             b.lineOn = (match o.type, a.lineOn with
               | .opn, some t => if t + 100000 ≤ s.now then none else some t
               | _, l => l) ∧
             ∀ r ∈ o.requesters, .told r x.slot o.type (some o.tag) .done ∈ u.mail) ∧
         (b.position ≠ (match o.type with
           | .opn => .opn
           | .close => .closed) → b.order = some { o with acked := o.acked || decide (o.tag = x.tag) } ∧
             b.lastResult = a.lastResult ∧ b.lineOn = a.lineOn)))

/-- R88, R97: an ISSUED order is sent again every 10 ms with the same tag and the cause it then has, and a WITHDRAW 10 ms
after the previous send, until its third; frames leave in LIVE only. That the mode is read at each send, so that a withdraw in
progress at entry to BLOCKED or LOOP builds its remaining frames once the mode is LIVE again, is the model's (log 92). -/
def Obligations.OrdersAndWithdrawsRepeat : Prop :=
  (∀ (n : Nat) (o : Order) (s : State), s.Safe → n < 25 → (s.slot n).order = some o → o.phase = .issued → o.nextRepeat ≤ s.now →
    ∃ u, (u.slot n).order = some { o with nextRepeat := o.nextRepeat + 10000 } ∧ onlySlot n s u ∧
      u = { s with arb := u.arb } ∧
      exec (.orderRepeat n) s = .next (if s.mgmt.mode = .live then
          originate (s.brk n).station (.order n (match o.type with
            | .opn => .opn
            | .close => .close) o.tag (causeOf o.causes)) u
        else u)) ∧
  ∀ (n : Nat) (w : Withdraw) (s : State), s.Safe → n < 25 → (s.slot n).withdraw = some w → w.next ≤ s.now →
    ∃ u, u = { s with arb := u.arb } ∧ onlySlot n s u ∧
      u.slot n = { s.slot n with
        withdraw := if w.remaining ≤ 1 then none else some { w with remaining := w.remaining - 1, next := w.next + 10000 } } ∧
      exec (.withdrawResend n) s = .next (if s.mgmt.mode = .live then
          originate (s.brk n).station (.order n .withdraw w.tag w.cause) u
        else u)

/-- R96, R97, R188: an open past its open limit, and an ISSUED close past its close limit, leaves service with FAIL, in
BLOCKED with BLOCKED, told to every requester; a close is then withdrawn outside BLOCKED: its WITHDRAW with its tag and cause
is sent at once in LIVE, with two sends remaining. Breaker failure and lockouts stand, and no other frame leaves. -/
def Obligations.OrderLimitsFail : Prop :=
  (∀ (n t : Nat) (o : Order) (s : State), s.Safe → PastLimit n .opn (s.brk n).openLimit o t s →
    let result : Told := if s.mgmt.mode = .blocked then .blocked else .fail
    ∃ u, exec (.openLimitExpiry n) s = .next (finish u) ∧ onlySlot n s u ∧ SameOutside s u ∧ u.seqs = s.seqs ∧
      u.link = s.link ∧
      (u.slot n).order = none ∧ (u.slot n).lastResult = some ⟨.opn, o.tag, o.causes, result⟩ ∧
      (u.slot n).withdraw = (s.slot n).withdraw ∧ (u.slot n).lock = (s.slot n).lock ∧ (u.slot n).bf = (s.slot n).bf ∧
      (u.slot n).position = (s.slot n).position ∧ (u.slot n).lastTag = (s.slot n).lastTag ∧
      ∀ r ∈ o.requesters, .told r n .opn (some o.tag) result ∈ u.mail) ∧
  ∀ (n t : Nat) (o : Order) (s : State), s.Safe → PastLimit n .close (s.brk n).closeLimit o t s →
    let result : Told := if s.mgmt.mode = .blocked then .blocked else .fail
    ∃ u, exec (.closeLimitExpiry n) s = .next (finish u) ∧ onlySlot n s u ∧ SameOutside s u ∧ u.seqs = s.seqs ∧
      u.link = (if s.mgmt.mode = .live then
        originate (s.brk n).station (.order n .withdraw o.tag (causeOf o.causes)) s else s).link ∧
      (u.slot n).order = none ∧ (u.slot n).lastResult = some ⟨.close, o.tag, o.causes, result⟩ ∧
      (u.slot n).withdraw = (if s.mgmt.mode = .blocked then (s.slot n).withdraw
        else some ⟨o.tag, causeOf o.causes, 2, s.now + 10000⟩) ∧
      (u.slot n).lock = (s.slot n).lock ∧ (u.slot n).bf = (s.slot n).bf ∧ (u.slot n).position = (s.slot n).position ∧
      ∀ r ∈ o.requesters, .told r n .close (some o.tag) result ∈ u.mail

/-- R86: a position of TRAVEL becomes FAULTY after the larger of the slot's limits, the accepted pair kept; 50 ms without a
valid frame make a position UNKNOWN and clear its contact tracking and flags. R98, R106: the operator window entry is cleared
500 ms after its time, and a direct trip line is released once 100 ms have passed and no open with PROT or BFT is in service;
neither happens before. -/
def Obligations.SlotTimesExpire : Prop :=
  (∀ (n t : Nat) (s : State), s.Safe → n < 25 →
     ((s.slot n).position = .travel → (s.slot n).travelAt = some t →
       t + max (s.brk n).openLimit (s.brk n).closeLimit * 1000 ≤ s.now →
       ∃ u, exec (.travelTimeout n) s = .next (finish u) ∧ onlySlot n s u ∧ SameOutside s u ∧
         u.slot n = { s.slot n with position := .faulty, travelAt := none }) ∧
     ((s.brk n).present = true → (s.slot n).lastFrame = some t → t + 50000 ≤ s.now →
       ∃ u, exec (.positionSilence n) s = .next (finish u) ∧ onlySlot n s u ∧ SameOutside s u ∧
         u.slot n = { s.slot n with
           position := .unknown, prevPair := none, acceptedPair := none, lastFrame := none, travelAt := none
           localCtl := false, ready := false })) ∧
  ∀ (n t : Nat) (s : State), s.Safe → n < 25 →
    (∀ k, (s.slot n).window = some (k, t) →
      (t + 500000 ≤ s.now → ∃ u, exec (.operatorWindowExpiry n) s = .next u ∧ u = { s with arb := u.arb } ∧
        onlySlot n s u ∧ u.slot n = { s.slot n with window := none }) ∧
      (s.now < t + 500000 → exec (.operatorWindowExpiry n) s = .next s)) ∧
    ((s.slot n).lineOn = some t →
      (t + 100000 ≤ s.now → (∀ o, (s.slot n).order = some o → o.type = .opn → .prot ∉ o.causes ∧ .bft ∉ o.causes) →
        ∃ u, exec (.directTripRelease n) s = .next u ∧ u = { s with arb := u.arb } ∧ onlySlot n s u ∧
          u.slot n = { s.slot n with lineOn := none }) ∧
      (s.now < t + 100000 ∨ (∃ o, (s.slot n).order = some o ∧ o.type = .opn ∧ (.prot ∈ o.causes ∨ .bft ∈ o.causes)) →
        exec (.directTripRelease n) s = .next s))

/-- R102, R103: breaker failure of a slot operates: the lockouts of the slot and of the buses it touches are set with its BF
as setter, and every present neighbour that is not OPEN has an open in service with BFT among its causes; then a BF trigger is
taken, with the causes and tag of the slot's open (log 54). As a command of its own it is the model's (log 3). R100, R101:
breaker failure at a measurement update. While the breaker carries current or is not OPEN a TIMING timer counts; otherwise the
state is IDLE and the timer 0. -/
def Obligations.BreakerFailure : Prop :=
  (∀ (n : Nat) (s : State), s.Safe → n < 25 → (s.slot n).bf = .timing → bfUpdates s n ≤ (s.slot n).bfTimer →
     ∃ u, exec (.bfOperate n) s = .next (finish u) ∧ (u.slot n).bf = .operated ∧ (u.slot n).lock.isSet = true ∧
       .bf n ∈ (u.slot n).lock.setters ∧
       (∀ b ∈ s.busSides n, (u.busLock b).isSet = true ∧ .bf n ∈ (u.busLock b).setters) ∧
       (∀ b, b ∉ s.busSides n → u.busLock b = s.busLock b) ∧
       (∀ m, m < 25 → m ≠ n → (s.brk m).present = true → (∃ b ∈ s.busSides n, b ∈ s.busSides m) → s.pos m ≠ .opn →
         ∃ o, (u.slot m).order = some o ∧ o.type = .opn ∧ .bft ∈ o.causes) ∧
       (∀ m, m < 25 → m ≠ n → (∀ b ∈ s.busSides n, b ∉ s.busSides m) → u.slot m = s.slot m) ∧
       u.seqs = s.seqs ∧ u.meas = s.meas ∧ u.prot = s.prot ∧
       ∃ (backups : List Nat) (v : State), backups.Nodup ∧ (∀ m, m ∈ backups ↔ m < 25 ∧ m ≠ n ∧ (s.brk m).present = true ∧
           ∃ b ∈ s.busSides n, b ∈ s.busSides m) ∧ v.arb = u.arb ∧
         u = takeTrigger (.bf ⟨n, (openOf (s.slot n)).1, (openOf (s.slot n)).2, backups, s.intake.count⟩) v) ∧
  ∀ (n : Nat) (s : State), s.Safe → n < 25 →
    let m := s.curMeas n
    let carries := m.quality ≠ .invalid ∧ (s.brk n).bfThreshold ≤ max m.rms.a (max m.rms.b m.rms.c)
    (¬carries → s.pos n = .opn → ((testBf n s).slot n).bf = .idle ∧ ((testBf n s).slot n).bfTimer = 0) ∧
    (carries ∨ s.pos n ≠ .opn → (s.slot n).bf = .operated → testBf n s = s) ∧
    (carries ∨ s.pos n ≠ .opn → (s.slot n).bf = .timing → (s.slot n).bfTimer + 1 < bfUpdates s n →
      (testBf n s).slot n = { s.slot n with bfTimer := (s.slot n).bfTimer + 1 })

/-- R92, R93, R98: the reply to a close-type request on a present breaker: a CONFLICT first, with which an operator's close
that is still in service leaves, and any other order stays; then the first row of the ladder that applies; a GEN breaker on a
dead GBUS is refused with GRANT when another generator holds the grant. The model's choices: with the grant free or its own it
is taken though the generator of its breaker is not present (log 79) or is MANUAL (log 80). -/
def Obligations.CloseLadder : Prop :=
  ∀ (x : Source) (r : Requester) (n : Nat) (s : State), n < 25 → (s.brk n).present = true →
    let a := s.slot n
    let side := sideStates s n
    let closedLike := fun m => s.pos m = .closed ∨ s.pos m = .travel ∨ ∃ o, (s.slot m).order = some o ∧ o.type = .close
    let reply := (raiseClose x r n s).2
    let p1 := windowConflict s n x = false
    let p2 := p1 ∧ a.order = none
    let p3 := p2 ∧ s.inConfig = false
    let p4 := p3 ∧ a.lock.isSet = false
    let p5 := p4 ∧ ∀ b ∈ s.busSides n, (s.busLock b).isSet = false
    let p6 := p5 ∧ (s.pos n = .opn ∨ s.pos n = .closed)
    let p7 := p6 ∧ a.localCtl = false
    let p8 := p7 ∧ s.pos n = .opn
    let p9 := p8 ∧ ¬(n < 3 ∧ (∀ m, m < 3 → m ≠ n → closedLike m) ∧ s.site.utilPar = false)
    let p10 := p9 ∧ .indeterminate ∉ side
    let p11 := p10 ∧ ¬((∀ c ∈ side, c = .dead) ∧ (s.brk n).deadDead = false)
    let p12 := p11 ∧ ¬((n = 3 ∨ n = 4) ∧ isLive (s.declared 4) = false)
    (windowConflict s n x = true ↔ (x = .oprC ∧ ∃ t, a.window = some (.opn, t) ∧ s.now < t + 500000) ∨
      (x = .oprO ∧ ∃ t, a.window = some (.close, t) ∧ s.now < t + 500000)) ∧
    (windowConflict s n x = true → reply = .refused .conflict ∧ ConflictMet n s (raiseClose x r n s).1) ∧
    (p1 → a.order.isSome = true → reply = .refused .busy) ∧
    (p2 → s.inConfig = true → reply = .refused .wrongState) ∧
    (p3 → a.lock.isSet = true → reply = .refused .lockout) ∧
    (p4 → (∃ b ∈ s.busSides n, (s.busLock b).isSet = true) → reply = .refused .busLockout) ∧
    (p5 → s.pos n = .faulty ∨ s.pos n = .unknown ∨ s.pos n = .travel → reply = .refused .position) ∧
    (p6 → a.localCtl = true → reply = .refused .loc) ∧
    (p7 → s.pos n = .closed → reply = .noChange) ∧
    (p8 → n < 3 → (∀ m, m < 3 → m ≠ n → closedLike m) → s.site.utilPar = false → reply = .refused .parallel) ∧
    (p9 → .indeterminate ∈ side → reply = .refused .notSettled) ∧
    (p10 → (∀ c ∈ side, c = .dead) → (s.brk n).deadDead = false → reply = .refused .deadDead) ∧
    (p11 → n = 3 ∨ n = 4 → isLive (s.declared 4) = false → reply = .refused .deadGbus) ∧
    (p12 → (5 ≤ n ∧ n ≤ 12 ∧ s.declared 4 = .dead ∧ ∃ g, s.par.grant = some g ∧ g.gen ≠ n - 4) →
      reply = .refused .grant) ∧
    (p12 → ¬(5 ≤ n ∧ n ≤ 12 ∧ s.declared 4 = .dead ∧ ∃ g, s.par.grant = some g ∧ g.gen ≠ n - 4) →
      reply = .taken (nextTag a))

/-- R88 to R93, R97, R98, R175, R176: OPERATE. Its answer reports acceptance or the Arbiter's reason. An open that passes on a
breaker that is not OPEN and has no order is in service, ISSUED, with the tag that follows, and its ORDER frame is sent at
once in LIVE. With an open in service it joins that open, and no frame is sent. With a close in service it preempts the
close, which leaves with PREEMPTED, and with a WITHDRAW where it was ISSUED, and the open is sent whatever the position. An
open within 500 ms of an accepted OPR-C meets a CONFLICT, with which that close, still in service, leaves as well. A
close that passes the ladder enters SYNC_WAIT between two live sides, with nothing sent and its sync request in the lowest free
channel or at the tail of the queue (R151); on a GEN breaker with GBUS declared DEAD it takes the dead-bus grant and is sent,
or is refused with GRANT (R149); in any other case it is sent at once. The model's: a generator that is not present, or MANUAL,
does not keep its breaker from the grant (log 79, log 80); the grant notes a READY generator (log 69); the last result after
GRANT (log 24). -/
def Obligations.OperateAnswered : Prop :=
  ∀ (r : Request) (rest : List Request) (n : Nat) (s : State), s.Safe → Taken .operate r rest s →
    let s' := setRequests rest s
    let who : Requester := .manager r.src r.tag
    let a := s.slot n
    let sent := fun (code : OrderCode) (tag : Nat) (cause : Source) (v : State) =>
      if s.mgmt.mode = .live then originate (s.brk n).station (.order n code tag cause) v else v
    let opening : Order :=
      { type := .opn, causes := [.oprO], tag := nextTag a, phase := .issued, issueTime := some s.now, requesters := [who]
        nextRepeat := s.now + 10000 }
    (∀ t, r.args = .operate n (some t) →
      ∃ v reply, exec .operate s = .next (settleQueue (match reply with
          | .refused why => refuse r why (finish v)
          | .noChange => answerDone r (finish v)
          | .taken _ => answerDone r (finish v))) ∧
        (v, reply) = (match t with
          | .opn => raiseOpen .oprO who n s'
          | .close => raiseClose .oprC who n s')) ∧
    (r.args = .operate n (some .opn) →
      let q := raiseOpen .oprO who n s'
      ((s.brk n).present = false → q = (s', .refused .badRow)) ∧
      ((s.brk n).present = true → a.localCtl = true → q = (s', .refused .loc)) ∧
      ((s.brk n).present = true → a.localCtl = false →
        (∃ t, a.window = some (.close, t) ∧ s.now < t + 500000) →
        q.2 = .refused .conflict ∧ onlySlot n s' q.1 ∧ SameOutside s' q.1 ∧ ConflictMet n s' q.1) ∧
      ((s.brk n).present = true → a.localCtl = false → (∀ t, a.window = some (.close, t) → t + 500000 ≤ s.now) →
        onlySlot n s' q.1 ∧ SameOutside s' q.1 ∧ (q.1.slot n).window = some (.opn, s.now) ∧
        (a.order = none → s.pos n = .opn → q.2 = .noChange ∧ (q.1.slot n).order = none ∧ q.1.link = s.link) ∧
        (a.order = none → s.pos n ≠ .opn → q.2 = .taken (nextTag a) ∧ (q.1.slot n).lastTag = some (nextTag a) ∧
          (q.1.slot n).order = some opening ∧ q.1.link = (sent .opn (nextTag a) .oprO s').link) ∧
        (∀ o, a.order = some o → o.type = .opn → q.2 = .taken o.tag ∧ (q.1.slot n).lastTag = a.lastTag ∧
          q.1.link = s.link ∧ (q.1.slot n).order = some
            { o with causes := if .oprO ∈ o.causes then o.causes else o.causes ++ [.oprO]
                     requesters := o.requesters ++ [who] }) ∧
        (∀ o, a.order = some o → o.type = .close → q.2 = .taken (nextTag a) ∧
          (q.1.slot n).lastTag = some (nextTag a) ∧ (q.1.slot n).order = some opening ∧
          (q.1.slot n).lastResult = some ⟨.close, o.tag, o.causes, .preempted⟩ ∧
          (∀ x ∈ o.requesters, .told x n .close (some o.tag) .preempted ∈ q.1.mail) ∧
          (o.phase = .issued →
            (q.1.slot n).withdraw = some ⟨o.tag, causeOf o.causes, 2, s.now + 10000⟩ ∧
            q.1.link = (sent .opn (nextTag a) .oprO (sent .withdraw o.tag (causeOf o.causes) s')).link) ∧
          (o.phase = .syncWait → (q.1.slot n).withdraw = a.withdraw ∧
            q.1.link = (sent .opn (nextTag a) .oprO s').link)))) ∧
    (r.args = .operate n (some .close) → (s.brk n).present = true →
      (∀ t, a.window = some (.opn, t) → t + 500000 ≤ s.now) → closeLadder s n = .taken (nextTag a) →
      let q := raiseClose .oprC who n s'
      let closing : Order := { opening with type := .close, causes := [.oprC] }
      let deadGen := fun k => genOfSlot n = some k ∧ s.declared 4 = .dead
      let accepted := q.2 = .taken (nextTag a) ∧ (q.1.slot n).window = some (.close, s.now)
      onlySlot n s' q.1 ∧ SameOutside s' q.1 ∧ q.1.seqs = s.seqs ∧ (q.1.slot n).lastTag = some (nextTag a) ∧
      (bothLive s n = false → (genOfSlot n = none ∨ s.declared 4 ≠ .dead) → accepted ∧
        (q.1.slot n).order = some closing ∧ q.1.par = s.par ∧ q.1.link = (sent .close (nextTag a) .oprC s').link) ∧
      (∀ x y, s.sides n = (x, some y) → isLive (s.declared x) = true → isLive (s.declared y) = true → accepted ∧
        (q.1.slot n).order = some { closing with phase := .syncWait, issueTime := none, nextRepeat := 0 } ∧
        q.1.link = s.link ∧ q.1.par.grant = s.par.grant ∧
        (channelOf s n = none → (∀ e ∈ s.par.queue, e.slot ≠ n) →
          (∀ i, i < 4 → s.par.channels[i]? = some none → (∀ j, j < i → s.par.channels[j]? ≠ some none) →
            q.1.par.channels[i]? = some (some
              { slot := n, ref := y, inc := x, closing := (s.brk n).closingTime, start := s.now }) ∧
            (∀ j, j ≠ i → q.1.par.channels[j]? = s.par.channels[j]?) ∧ q.1.par.queue = s.par.queue ∧
            ∀ k, genOfSlot n = some k → (q.1.gen k).state =
              if (s.gen k).state = .ready then .closing else (s.gen k).state) ∧
          (none ∉ s.par.channels → q.1.par.channels = s.par.channels ∧ q.1.par.gens = s.par.gens ∧
            q.1.par.queue = s.par.queue ++ [⟨n, y, x, (s.brk n).closingTime, s.now⟩]))) ∧
      (∀ k, deadGen k → (∀ g, s.par.grant = some g → g.gen = k) → accepted ∧
        (q.1.slot n).order = some { closing with grantHeld := true } ∧
        q.1.link = (sent .close (nextTag a) .oprC s').link ∧ q.1.par.channels = s.par.channels ∧
        q.1.par.queue = s.par.queue ∧ (∀ j, 1 ≤ j → j ≠ k → q.1.gen j = s.gen j) ∧
        (∀ g, s.par.grant = some g → q.1.par.grant = some { g with requester := who } ∧ q.1.par.gens = s.par.gens) ∧
        (s.par.grant = none →
          q.1.par.grant = some ⟨k, who, decide ((s.gen k).state = .ready)⟩ ∧
          q.1.gen k = { s.gen k with state := if (s.gen k).state = .ready then .closing else (s.gen k).state })) ∧
      (∀ k g, deadGen k → s.par.grant = some g → g.gen ≠ k → q.2 = .refused .grant ∧ (q.1.slot n).order = none ∧
        (q.1.slot n).window = a.window ∧ (q.1.slot n).withdraw = a.withdraw ∧ q.1.par = s.par ∧ q.1.link = s.link ∧
        (q.1.slot n).lastResult = some ⟨.close, nextTag a, [.oprC], .refused .grant⟩))

/-- R105: RESET_LOCKOUT, taken in UNCONFIGURED, CONFIG and SERVICE. DONE with no change when the lockout is not set, BUSY
while a setter is active, otherwise the lockout is cleared with all its setters, the store is written and the change
reported, and no other lockout is cleared. -/
def Obligations.ResetLockoutBySetters : Prop :=
  (∀ p : PartState, takenNow .resetLockout p = true ↔ p ≠ .loading) ∧
  ∀ (r : Request) (rest : List Request) (s : State), s.Safe → Taken .resetLockout r rest s →
    let s' := setRequests rest s
    let active := fun (x : Setter) => match x with
      | .element _ row => (s.prot.operated.getD row none).isSome = true
      | .bf m => (s.slot m).bf = .timing ∨ (s.slot m).bf = .operated
    let written := fun (u : State) => (u.nv.storeWrite = some (lockoutsInForce u) ∨ u.nv.storeWaiting = true) ∧
      (s.siteInForce = true → noticeEnabled s .lockout = true → .lockout ∈ u.records.pendingNotices)
    (∀ n, r.args = .lockSlot n →
      ((s.slot n).lock.isSet = false → exec .resetLockout s = .next (settleQueue (answerDone r s'))) ∧
      ((s.slot n).lock.isSet = true → (∃ x ∈ (s.slot n).lock.setters, active x) →
        exec .resetLockout s = .next (settleQueue (refuse r .busy s'))) ∧
      ((s.slot n).lock.isSet = true → (∀ x ∈ (s.slot n).lock.setters, ¬active x) →
        ∃ u, exec .resetLockout s = .next (settleQueue (answerDone r u)) ∧ onlySlot n s u ∧
          u.slot n = { s.slot n with lock := {} } ∧ u = { s' with arb := u.arb, nv := u.nv, records := u.records } ∧
          written u)) ∧
    ∀ b, r.args = .lockBus (some b) →
      ((s.busLock b).isSet = false → exec .resetLockout s = .next (settleQueue (answerDone r s'))) ∧
      ((s.busLock b).isSet = true → (∃ x ∈ (s.busLock b).setters, active x) →
        exec .resetLockout s = .next (settleQueue (refuse r .busy s'))) ∧
      ((s.busLock b).isSet = true → (∀ x ∈ (s.busLock b).setters, ¬active x) →
        ∃ u, exec .resetLockout s = .next (settleQueue (answerDone r (finish u))) ∧ u.busLock b = {} ∧
          (∀ c, c ≠ b → u.busLock c = s.busLock c) ∧ u.arb.slots = s.arb.slots ∧ .busLockCleared b ∈ u.mail ∧
          written u)

/-! ## Chapter 6: the sequencers -/

/-- R114, R115: at the expiry of the start-up timer in STARTING in SERVICE the sequencer applies derivation. That derivation
leaves no alternate in use where R115 names none, in PREFERRED, LOSS_PENDING, LOCKED_OUT and DEAD_BUS, is the model's choice
(log 63, log 21). R118, R113: at the expiry of the loss timer a blocked transfer waits anew, an inhibited one sets the inhibit
hold, and otherwise the transfer begins: the snapshot is taken, the spent alternates are cleared, and the INC is opened. -/
def Obligations.StartupAndLossTimers : Prop :=
  (∀ (q : SeqId) (t : Nat) (s : State), (s.seq q).state = .starting → s.inService = true → (s.seq q).startup = some t →
     (t ≤ s.now → ∃ u, exec (.startupTimerExpiry q) s = .next (finish u) ∧ Derived q s u ∧ onlySeq q s u ∧
       SameOutside s u ∧ u.arb = s.arb ∧ u.par = s.par) ∧
     (s.now < t → exec (.startupTimerExpiry q) s = .next s)) ∧
  ∀ (q : SeqId) (t : Nat) (s : State), s.Safe → (s.seq q).state = .lossPending → (s.seq q).loss = some t → t ≤ s.now →
    let blocked := match q with
      | .seq1 => s.prot.block1
      | .seq2 => s.prot.block2
    ∃ u, exec (.lossTimerExpiry q) s = .next (finish u) ∧ onlySeq q s u ∧ SameOutside s u ∧ u.seqs.claim = s.seqs.claim ∧
      (blocked = true → u = { s with seqs := u.seqs } ∧
        u.seq q = { s.seq q with loss := some (s.now + (s.scheme q).lossQualify * 1000) }) ∧
      (blocked = false → s.inhibitActive = true → u = { s with seqs := u.seqs } ∧
        u.seq q = { s.seq q with inhibitHold := true, loss := none }) ∧
      (blocked = false → s.inhibitActive = false → SeqOpens q (incSlot q) s u ∧ (u.seq q).state = .sourceOpening ∧
        (u.seq q).snapshot = (s.seq q).lastLoad ∧ (u.seq q).spentTie = false ∧ (u.seq q).spentGm = false ∧
        (u.seq q).loss = none ∧ (u.seq q).alt = (s.seq q).alt ∧ (u.seq q).pendingPark = (s.seq q).pendingPark)

/-- R120, R123, R124, R130: at the expiry of the dead timer the trial is made in DEAD_WAIT, the TIE is spent in ALT_CLOSING,
the alternate is lost in ON_ALTERNATE, and the INC is closed in RETURN_OPENING. A pending park turns DEAD_BUS into PARKED
(R134). That DEAD_BUS has no alternate in use is the model's (log 21), as is that PARKED entered in place of DEAD_BUS has none
either, where R134 keeps the alternate in use (log 87). -/
def Obligations.DeadTimerExpires : Prop :=
  ∀ (q : SeqId) (t : Nat) (s : State), s.Safe → (s.seq q).dead = some t → t ≤ s.now → (s.seq q).awaited = none →
    let dead := if (s.seq q).pendingPark then SeqState.parked else .deadBus
    ((s.seq q).state = .deadWait → ∃ u, exec (.deadTimerExpiry q) s = .next (finish u) ∧ onlySeq q s u ∧ SameOutside s u ∧
      (∀ before after, (s.scheme q).alternates = before ++ .tie :: after → (∀ a ∈ before, ¬altReady s q a) →
        altReady s q .tie → (u.seq q).state = .altClosing ∧ (u.seq q).alt = some .tie ∧ u.seqs.claim = some q ∧
          SeqCloses q 2 s u) ∧
      (∀ before after, (s.scheme q).alternates = before ++ .gm :: after → (∀ a ∈ before, ¬altReady s q a) →
        altReady s q .gm → (u.seq q).state = .genWait ∧ (u.seq q).alt = some .gm ∧ u.seqs.claim = s.seqs.claim ∧
          u.arb = s.arb) ∧
      ((∀ a ∈ (s.scheme q).alternates, ¬altReady s q a) → (u.seq q).state = dead ∧ (u.seq q).alt = none ∧
        u.seqs.claim = s.seqs.claim ∧ u.arb = s.arb)) ∧
    ((s.seq q).state = .altClosing → (s.scheme q).alternates = [.tie, .gm] ∨ (s.scheme q).alternates = [.gm, .tie] ∨
        (s.scheme q).alternates = [.tie] →
      ∃ u, exec (.deadTimerExpiry q) s = .next (finish u) ∧ onlySeq q s u ∧ SameOutside s u ∧ u.arb = s.arb ∧
        (u.seq q).spentTie = true ∧ u.seqs.claim = (if s.seqs.claim = some q then none else s.seqs.claim) ∧
        ((s.scheme q).alternates = [.tie, .gm] ∧ altReady s q .gm → (u.seq q).state = .genWait ∧ (u.seq q).alt = some .gm) ∧
        (¬((s.scheme q).alternates = [.tie, .gm] ∧ altReady s q .gm) → (u.seq q).state = dead ∧ (u.seq q).alt = none)) ∧
    ((s.seq q).state = .onAlternate → ∀ a, (s.seq q).alt = some a →
      ∃ u, exec (.deadTimerExpiry q) s = .next (finish u) ∧ onlySeq q s u ∧ SameOutside s u ∧ (u.seq q).state = dead ∧
        (s.pos (altSlot q a) = .opn → (u.seq q).alt = none ∧ u.arb = s.arb ∧
          u.seqs.claim = if a = .tie ∧ s.seqs.claim = some q then none else s.seqs.claim) ∧
        (s.pos (altSlot q a) ≠ .opn → (u.seq q).alt = some a ∧ u.seqs.claim = s.seqs.claim ∧
          ((s.seq q).pendingPark = false → SeqOpens q (altSlot q a) s u))) ∧
    ((s.seq q).state = .returnOpening → ∃ u, exec (.deadTimerExpiry q) s = .next (finish u) ∧ onlySeq q s u ∧
      SameOutside s u ∧ (u.seq q).state = .returnClosing ∧ SeqCloses q (incSlot q) s u)

/-- R122, R125, R132: the retransfer timer and RETRANSFER_NOW begin the return, or set retransfer ready, or are refused, in
any state but RETURN_WATCH with WRONG_STATE whether or not an alternate is in use;
the restore timer closes the INC with no alternate in use. That none is in use in DEAD_BUS, where it may expire, is the model's
(log 21). -/
def Obligations.ReturnBegins : Prop :=
  ∀ (q : SeqId) (s : State), s.Safe →
    (∀ a t, (s.seq q).alt = some a → (s.seq q).state = .returnWatch → (s.seq q).retransfer = some t → t ≤ s.now →
      ∃ u, exec (.retransferTimerExpiry q) s = .next (finish u) ∧ onlySeq q s u ∧ SameOutside s u ∧
        ((s.scheme q).autoRetransfer = false ∨ s.inhibitActive = true →
          u.seq q = { s.seq q with retransfer := none, retReady := true } ∧ u.arb = s.arb) ∧
        ((s.scheme q).autoRetransfer = true → s.inhibitActive = false → ReturnBegun q a s u)) ∧
    (∀ (r : Request) (rest : List Request), Taken .retransferNow r rest s → namesSeq r q s →
      let s' := setRequests rest s
      ((s.seq q).state ≠ .returnWatch → exec .retransferNow s = .next (settleQueue (refuse r .wrongState s'))) ∧
      ((s.seq q).state = .returnWatch → s.inhibitActive = true →
        exec .retransferNow s = .next (settleQueue (refuse r .busy s'))) ∧
      (∀ a, (s.seq q).alt = some a → (s.seq q).state = .returnWatch → s.inhibitActive = false →
        ∃ u, exec .retransferNow s = .next (settleQueue (answerDone r (finish u))) ∧ onlySeq q s u ∧ SameOutside s' u ∧
          ReturnBegun q a s u)) ∧
    (∀ t, (s.seq q).state = .genWait ∨ ((s.seq q).state = .deadBus ∧ (s.seq q).awaited = none) →
      (s.seq q).restore = some t → t ≤ s.now →
      ∃ u, exec (.restoreTimerExpiry q) s = .next (finish u) ∧ onlySeq q s u ∧ SameOutside s u ∧
        (u.seq q).state = .returnClosing ∧ (u.seq q).alt = none ∧ (u.seq q).restore = none ∧ SeqCloses q (incSlot q) s u)

/-- R127, R128: the parallel timer is an overrun: the alternate is opened with PROT, whatever its LOC, and an OVERRUN record
is made; the soft limit ends the soft unload and opens the alternate in PARALLEL_FAST. -/
def Obligations.ParallelAndSoftLimits : Prop :=
  ∀ (q : SeqId) (a : Alt) (t : Nat) (s : State), s.Safe → (s.seq q).alt = some a →
    ((s.seq q).state = .parallelFast → (s.seq q).parallel = some t → t ≤ s.now →
      ∃ u, exec (.parallelTimerExpiry q) s = .next (finish u) ∧ onlySeq q s u ∧ SameOutside s u ∧
        (u.seq q).overrun = true ∧ (u.seq q).parallel = none ∧ (u.seq q).state = .parallelFast ∧ (u.seq q).alt = some a ∧
        ((s.brk (altSlot q a)).present = true → s.pos (altSlot q a) ≠ .opn →
          ∃ o, (u.slot (altSlot q a)).order = some o ∧ o.type = .opn ∧ .prot ∈ o.causes ∧ .seq q ∈ o.requesters ∧
            (u.seq q).awaited = some ⟨altSlot q a, .opn, some o.tag⟩) ∧
        ((∀ r ∈ s.records.queue, r.complete = true ∨ r.firstTime + 1000000 < s.now) →
          ∃ r ∈ u.records.queue, r.kind = .overrun ∧ r.overrun = some ⟨q, altSlot q a, s.intake.count⟩)) ∧
    ((s.seq q).state = .parallelSoft → (s.seq q).softLimit = some t → t ≤ s.now →
      ∃ u, exec (.softLimitExpiry q) s = .next (finish u) ∧ onlySeq q s u ∧ SameOutside s u ∧
        (u.seq q).state = .parallelFast ∧ (u.seq q).parallel = some (s.now + (s.scheme q).maxParallel * 1000) ∧
        (u.seq q).softLimit = none ∧ SeqOpens q (altSlot q a) s u ∧
        (∀ x, s.par.unload = some x → x.owner = q →
          u.par.unload = none ∧ ∀ k, 1 ≤ k → k ≤ 8 → (u.gen k).state ≠ .unloading))

/-- R136: INHIBIT_TRANSFER sets the end of the inhibit, at most 3,600 s ahead; a duration of 0, and the end time, end it:
a held loss is taken up again, and a return that is ready begins. That a duration of 0 is such an end, with its effects and its
report, also while no inhibit is active is the model's choice (log 66). -/
def Obligations.InhibitSetAndEnded : Prop :=
  ∀ s : State, s.Safe →
    (∀ (r : Request) (rest : List Request) (n : Nat), Taken .inhibitTransfer r rest s → r.args = .duration n →
      ∃ u, exec .inhibitTransfer s =
          .next (settleQueue (answerTo r (if 3600 < n then .doneClamped else .done) .nothing (finish u))) ∧
        SameOutside { setRequests rest s with seqs := u.seqs } u ∧
        (0 < n → u.seqs = { s.seqs with inhibit := some (s.now + min 3600 n * 1000000) }) ∧
        (n = 0 → u = endInhibit (setRequests rest s))) ∧
    (∀ t, s.seqs.inhibit = some t → t ≤ s.now → exec .inhibitEnd s = .next (finish (endInhibit s))) ∧
    (let u := endInhibit s
     u.seqs.inhibit = none ∧ SameOutside { s with seqs := u.seqs } u ∧
     ∀ q,
      let blocked := match q with
        | .seq1 => s.prot.block1
        | .seq2 => s.prot.block2
      let held := (s.seq q).state = .lossPending ∧ (s.seq q).inhibitHold = true
      let ready := (s.seq q).state = .returnWatch ∧ (s.seq q).retReady = true ∧ (s.scheme q).autoRetransfer = true
      (¬held → ¬ready → u.seq q = s.seq q) ∧
      (held → blocked = true → u.seq q =
        { s.seq q with inhibitHold := false, loss := some (s.now + (s.scheme q).lossQualify * 1000) }) ∧
      (held → blocked = false → (u.seq q).state = .sourceOpening ∧ (u.seq q).snapshot = (s.seq q).lastLoad ∧
        (u.seq q).inhibitHold = false ∧ ∃ tag, (u.seq q).awaited = some ⟨incSlot q, .opn, tag⟩) ∧
      (ready → (u.seq q).state = .returnOpening ∨ (u.seq q).state = .returnSync))

/-- R134, R135: PARK, RESUME and ABORT, by the state of the sequencer. The model's choices: derivation leaves no alternate in
use where R115 names none (log 63, log 21); RESUME in STARTING is refused with the pending park set too (log 75). -/
def Obligations.ParkResumeAbort : Prop :=
  ∀ (q : SeqId) (r : Request) (rest : List Request) (s : State), s.Safe → namesSeq r q s →
    let s' := setRequests rest s
    let st := (s.seq q).state
    let stable := st = .preferred ∨ st = .onAlternate ∨ st = .returnWatch ∨ st = .deadBus ∨ st = .lockedOut
    (Taken .park r rest s → s.inConfig = false →
      ∃ u, exec .park s = .next (settleQueue (answerDone r (finish u))) ∧ onlySeq q s u ∧ SameOutside s' u ∧
        (st = .parked → u = s') ∧
        (stable → (u.seq q).state = .parked ∧ (u.seq q).pendingPark = false ∧ (u.seq q).retReady = false ∧
          (u.seq q).awaited = none ∧ (u.seq q).dead = none ∧ (u.seq q).retransfer = none ∧ (u.seq q).restore = none) ∧
        (¬stable → st ≠ .parked → u.seq q = { s.seq q with pendingPark := true } ∧ u.arb = s.arb)) ∧
    (Taken .resume r rest s →
      (st = .starting → exec .resume s = .next (settleQueue (refuse r .wrongState s'))) ∧
      (st = .parked → s.mgmt.mode = .blocked → exec .resume s = .next (settleQueue (refuse r .wrongState s'))) ∧
      (st ≠ .lockedOut → st ≠ .parked → (s.seq q).pendingPark = false →
        exec .resume s = .next (settleQueue (refuse r .wrongState s'))) ∧
      (st = .parked ∧ s.mgmt.mode ≠ .blocked ∨ st = .lockedOut ∧ (s.seq q).pendingPark = false →
        ∃ u, exec .resume s = .next (settleQueue (answerDone r (finish u))) ∧ Derived q s u ∧ onlySeq q s u ∧
          SameOutside s' u ∧ u.arb = s.arb) ∧
      (st ≠ .starting → st ≠ .parked → (s.seq q).pendingPark = true →
        ∃ u, exec .resume s = .next (settleQueue (answerDone r (finish u))) ∧ u.seq q = { s.seq q with pendingPark := false } ∧
          onlySeq q s u ∧ SameOutside s' u ∧ u.arb = s.arb)) ∧
    (Taken .abort r rest s →
      (st = .starting ∨ st = .parked → exec .abort s = .next (settleQueue (refuse r .wrongState s'))) ∧
      (st ≠ .starting → st ≠ .parked →
        ∃ u, exec .abort s = .next (settleQueue (answerDone r (finish u))) ∧ Derived q s u ∧ onlySeq q s u ∧
          SameOutside s' u ∧ (∀ x, s.par.unload = some x → x.owner = q → u.par.unload = none)))

/-- R113, R114, R116, R117, R119, R120, R122 to R126, R128 to R130, R132: a sequencer at a measurement update, by its state,
and at a published change of position. The last healthy load is taken at an update, in every state (log 77). The model's choices:
in RETURN_WATCH the loss of the alternate comes before that of the utility (log 64), in PARALLEL_SOFT the loss of the utility
before the end of the unload (log 31); bus proven is set in ON_ALTERNATE only (log 37); DEAD_BUS and derivation leave no
alternate in use where no rule names one (log 21, log 63); with a park pending PARKED is entered in place of PREFERRED or
DEAD_BUS with their other effects (log 87), and an open raised on losing the alternate is then no longer awaited (log 32). -/
def Obligations.SequencerAtUpdate : Prop :=
  (∀ (q : SeqId) (s : State),
    let takes := (s.voltMeas (utilPoint q)).raw = .healthy ∧ s.declared (utilPoint q) = .healthy ∧ s.pos (incSlot q) = .closed
    (takes → takeLoad q s =
      s.modSeq q fun x => { x with lastLoad := (max 0 ((s.curMeas (incSlot q)).power.getD 0)).toNat }) ∧
    (¬takes → takeLoad q s = s)) ∧
  ∀ (q : SeqId) (s : State), s.Safe →
    let x := s.seq q
    let st := x.state
    let healthy := s.declared (utilPoint q) = .healthy
    let live := s.declared (busPoint q) = .live ∨ s.declared (busPoint q) = .healthy
    let bus := s.voltMeas (busPoint q)
    let down := bus.quality ≠ .invalid ∧ bus.rms.a < x.residual ∧ bus.rms.b < x.residual ∧ bus.rms.c < x.residual
    let known := s.inService = true ∧ (s.brk (incSlot q)).present = true ∧
      (∀ n, n = incSlot q ∨ n = 2 ∨ n = gmSlot q ∨ (13 ≤ n ∧ n < 25 ∧ (s.brk n).busSide = secBus q) →
        (s.brk n).present = true → s.pos n ≠ .unknown) ∧
      s.declared (utilPoint q) ≠ .indeterminate ∧ s.declared (busPoint q) ≠ .indeterminate
    (let u := updateState q s
     let timed := s.modSeq q fun y => { y with restore := restoreAfter q s }
     let gbus := s.declared 4 = .healthy ∧ (x.snapshot : Int) ≤ s.par.freeCap
     let gmOut := (s.slot (gmSlot q)).lock.isSet = true ∨ s.arb.gbus.isSet = true
     SameOutside s u ∧ onlySeq q s u ∧
     (st = .starting → (known → Derived q s u ∧ u.arb = s.arb) ∧ (¬known → u = s)) ∧
     (st = .preferred → (healthy → u = s) ∧ (¬healthy → (u.seq q).state = .lossPending ∧ u.arb = s.arb ∧
       (u.seq q).loss = some (s.now + (s.scheme q).lossQualify * 1000) ∧ (u.seq q).alt = x.alt)) ∧
     (st = .lossPending → (healthy → Preferred q s u ∧ (u.seq q).inhibitHold = false) ∧ (¬healthy → u = s)) ∧
     (st = .deadWait → (down → TrialMade q (s.scheme q).alternates s u) ∧ (¬down → u = s)) ∧
     (st = .genWait → (gmOut → AlternateSpent q .gm timed u) ∧
       (¬gmOut → gbus → (u.seq q).state = .altClosing ∧ (u.seq q).alt = some .gm ∧ (u.seq q).restore = none ∧
         SeqCloses q (gmSlot q) s u) ∧
       (¬gmOut → ¬gbus → u = timed)) ∧
     (st = .altClosing →
       let again := x.alt = some .tie ∧ x.awaited = none ∧ x.dead ≠ none
       (again → SeqCloses q 2 s u ∧ (u.seq q).state = .altClosing ∧ (u.seq q).dead = x.dead ∧ u.seqs.claim = s.seqs.claim) ∧
       (¬again → u = s)) ∧
     (∀ a, x.alt = some a →
       let gone := x.busProven = true ∧ ¬live ∧ s.pos (altSlot q a) = .closed
       (st = .onAlternate →
         (gone → AlternateLost q a s u) ∧
         (¬gone → healthy → (u.seq q).state = .returnWatch ∧ (u.seq q).retReady = false ∧ (u.seq q).alt = some a ∧
           (u.seq q).retransfer = some (s.now + (s.scheme q).retransferDelay * 1000000) ∧ (u.seq q).dead = none ∧
           (live → (u.seq q).busProven = true) ∧ u.arb = s.arb) ∧
         (¬gone → ¬healthy → live → u = s.modSeq q fun y => { y with busProven := true, dead := none }) ∧
         (¬gone → ¬healthy → ¬live → u = s)) ∧
       (st = .returnWatch →
         (gone → AlternateLost q a s u) ∧ (¬gone → healthy → u = s) ∧
         (¬gone → ¬healthy → OnAlternate q a x.busProven s u ∧ (u.seq q).retReady = false)) ∧
       (st = .returnSync →
         (¬healthy → inSyncWait s (incSlot q) = true → OnAlternate q a x.busProven s u ∧ SeqWithdrew q s u ∧
           (u.seq q).awaited = none) ∧
         (healthy ∨ inSyncWait s (incSlot q) = false → u = s)) ∧
       (st = .parallelSoft →
         let l := allGens.filter fun k => (s.genRow k).present && countedOnline s k
         let load := (l.map fun k => max 0 ((s.curMeas (genSlot k)).power.getD 0)).sum
         let threshold := (l.map fun k => ((s.genRow k).rating : Int)).sum * (s.scheme q).softThreshold / 100
         (¬healthy → (u.seq q).state = .sourceOpening ∧ (u.seq q).softLimit = none ∧ (u.seq q).alt = some a ∧
           UnloadEnded q s u ∧ SeqOpens q (incSlot q) s u) ∧
         (healthy → load ≤ threshold → (u.seq q).state = .parallelFast ∧ (u.seq q).softLimit = none ∧
           (u.seq q).parallel = some (s.now + (s.scheme q).maxParallel * 1000) ∧ UnloadEnded q s u ∧
           SeqOpens q (altSlot q a) s u) ∧
         (healthy → threshold < load → u = s))) ∧
     (st = .returnOpening →
       let closes := x.awaited = none ∧ x.dead ≠ none ∧ down
       (closes → (u.seq q).state = .returnClosing ∧ SeqCloses q (incSlot q) s u) ∧ (¬closes → u = s)) ∧
     (st = .deadBus →
       let able := fun (a : Alt) => altReady s q a ∧ (a = .gm → gbus)
       (x.awaited ≠ none → u = s) ∧
       (x.awaited = none → ∀ before a after, (s.scheme q).alternates = before ++ a :: after →
         (∀ b ∈ before, ¬able b) → able a → (u.seq q).state = .altClosing ∧ (u.seq q).alt = some a ∧
           (u.seq q).restore = none ∧ u.seqs.claim = (if a = .tie then some q else s.seqs.claim) ∧
           SeqCloses q (altSlot q a) s u) ∧
       (x.awaited = none → (∀ b ∈ (s.scheme q).alternates, ¬able b) → u = timed)) ∧
     (st = .sourceOpening ∨ st = .parallelFast ∨ st = .returnClosing ∨ st = .lockedOut ∨ st = .parked → u = s)) ∧
    ∀ (n : Nat) (now : Pos),
      let u := seqPosition q n now s
      let waits := ∃ w, x.awaited = some w ∧ w.type = .opn
      let unasked := st = .deadWait ∨ st = .genWait ∨ st = .altClosing ∨ st = .onAlternate ∨ st = .returnWatch ∨ st = .deadBus
      SameOutside s u ∧ onlySeq q s u ∧
      (st = .starting → (known → Derived q s u ∧ u.arb = s.arb) ∧ (¬known → u = s)) ∧
      (st = .preferred ∨ st = .lossPending → n = incSlot q → now = .opn →
        (¬waits → DeadWaitEntered q s u ∧ (u.seq q).snapshot = x.lastLoad ∧ (u.seq q).spentTie = false ∧
          (u.seq q).spentGm = false ∧ (u.seq q).inhibitHold = false ∧ u.arb = s.arb) ∧
        (waits → u = s)) ∧
      (st = .parallelFast ∨ st = .parallelSoft → n = incSlot q → now = .opn → ∀ a, x.alt = some a →
        OnAlternate q a (decide live) s u ∧ (u.seq q).awaited = none ∧ UnloadEnded q s u ∧ u.arb = s.arb) ∧
      (unasked → n = incSlot q → now = .closed → Derived q s u ∧ SeqWithdrew q s u) ∧
      (∀ a, n = altSlot q a →
        (x.alt = some a → now = .opn → st = .onAlternate ∨ st = .returnWatch → AlternateLost q a s u) ∧
        (x.alt = some a → now = .opn → st = .parallelFast ∨ st = .parallelSoft →
          ParallelOver q a s u ∧ (st = .parallelSoft → UnloadEnded q s u)) ∧
        (x.alt ≠ some a → now = .opn → st ≠ .starting → u = s) ∧
        (let asked := (a = .tie ∧ s.seqs.claim = some (otherSeq q)) ∨
          (x.alt = some a ∧ (st = .altClosing ∨ st = .onAlternate ∨ st = .returnWatch))
         (unasked → ¬asked → now = .closed → Derived q s u ∧ SeqWithdrew q s u) ∧
         (unasked → asked → now = .closed → u = s))) ∧
      (st ≠ .starting → n ≠ incSlot q ∧ n ≠ 2 ∧ n ≠ gmSlot q ∨ now = .travel ∨ now = .faulty ∨ now = .unknown → u = s) ∧
      (st = .sourceOpening ∨ st = .returnSync ∨ st = .returnOpening ∨ st = .returnClosing ∨ st = .lockedOut ∨ st = .parked →
        u = s)

/-- R111, R119, R123, R124, R126, R127, R130, R131: a sequencer told the outcome of the request it awaits, by its state; an
outcome of any other request is ignored. R133: a bus lockout of the section takes it to LOCKED_OUT, ahead of an outcome told after
it was set; its clearing applies derivation. R112: the start demand contribution. The model's choices: the messages are delivered
in their order (log 4), and SEQ1 takes a position or a lockout before SEQ2, and SEQ2 before the Paralleling Unit (log 86); a sequencer in LOCKED_OUT by a failed open derives at the clearing too (log 76); the claim is released at a
bus lockout with a park pending too (log 65); DEAD_BUS and derivation leave no alternate in use where no rule names one (log 21,
log 63); with a park pending PARKED is entered in place of PREFERRED or DEAD_BUS with their other effects (log 87); whether a
failed open of the alternate is an overrun is told by the parallel timer (log 55). -/
def Obligations.SequencerOutcomes : Prop :=
  (∀ (q : SeqId) (n : Nat) (type : OrdType) (tag : Option Nat) (t : Told) (s : State), s.Safe →
    let u := seqTold q n type tag t s
    let x := s.seq q
    let st := x.state
    let v := s.modSeq q fun y => { y with awaited := none }
    let ok := t = .done ∨ t = .noChange
    let live := isLive (s.declared (busPoint q))
    (x.awaited ≠ some ⟨n, type, tag⟩ → u = s) ∧
    (x.awaited = some ⟨n, type, tag⟩ →
      SameOutside s u ∧ onlySeq q s u ∧
      (st = .sourceOpening →
        (ok → u.arb = s.arb ∧
          let tieOn := s.pos 2 = .closed ∧ s.seqs.claim ≠ some (otherSeq q)
          (s.pos (gmSlot q) = .closed → OnAlternate q .gm live v u ∧ u.seqs.claim = s.seqs.claim) ∧
          (s.pos (gmSlot q) ≠ .closed → tieOn → OnAlternate q .tie live v u ∧ u.seqs.claim = some q) ∧
          (s.pos (gmSlot q) ≠ .closed → ¬tieOn → DeadWaitEntered q v u ∧ u.seqs.claim = s.seqs.claim ∧
            (u.seq q).alt = x.alt ∧ (u.seq q).snapshot = x.snapshot)) ∧
        (¬ok → LockedOut q v u)) ∧
      (∀ a, x.alt = some a →
        (st = .altClosing →
          let retryGm := a = .gm ∧ (t = .refused .notSettled ∨ t = .refused .deadGbus)
          let retryTie := a = .tie ∧ t = .refused .notSettled
          (ok → OnAlternate q a false v u ∧ u.seqs.claim = s.seqs.claim ∧ u.arb = s.arb) ∧
          (retryGm → (u.seq q).state = .genWait ∧ (u.seq q).alt = some .gm ∧ u.seqs.claim = s.seqs.claim ∧ u.arb = s.arb) ∧
          (retryTie → u = v.modSeq q fun y =>
            { y with dead := some (x.dead.getD (s.now + (s.scheme q).deadLimit * 1000)) }) ∧
          (¬ok → ¬retryGm → ¬retryTie → AlternateSpent q a v u)) ∧
        (st = .returnSync →
          (ok → x.kind = .soft → (u.seq q).state = .parallelSoft ∧ (u.seq q).alt = some a ∧
            (u.seq q).softLimit = some (s.now + (s.scheme q).softLimit * 1000000) ∧
            ∃ w, w = { v with seqs := w.seqs, records := w.records } ∧ u = beginUnload q (s.scheme q).softRamp w) ∧
          (ok → x.kind = .fast → (u.seq q).state = .parallelFast ∧ (u.seq q).alt = some a ∧
            (u.seq q).parallel = some (s.now + (s.scheme q).maxParallel * 1000) ∧ SeqOpens q (altSlot q a) v u) ∧
          (¬ok → (s.scheme q).openFallback = true → (u.seq q).state = .returnOpening ∧ (u.seq q).alt = some a ∧
            SeqOpens q (altSlot q a) v u) ∧
          (¬ok → (s.scheme q).openFallback = false → (u.seq q).state = stableState q .returnWatch s ∧
            (u.seq q).retReady = false ∧ (u.seq q).alt = some a ∧ u.arb = s.arb ∧
            (x.pendingPark = false →
              (u.seq q).retransfer = some (s.now + (s.scheme q).retransferDelay * 1000000)))) ∧
        (st = .parallelFast →
          (ok → ParallelOver q a v u) ∧
          (¬ok → x.parallel ≠ none → OverrunRaised q a v u) ∧
          (¬ok → x.parallel = none → LockedOut q v u)) ∧
        (st = .returnOpening →
          (ok → (u.seq q).state = .returnOpening ∧ (u.seq q).alt = none ∧ (u.seq q).awaited = none ∧
            (u.seq q).dead = some (s.now + (s.scheme q).deadLimit * 1000) ∧ u.seqs.claim = claimAfter q a s ∧
            u.arb = s.arb) ∧
          (¬ok → LockedOut q v u)) ∧
        (st = .deadBus →
          (ok → (u.seq q).state = .deadBus ∧ (u.seq q).alt = none ∧ (u.seq q).awaited = none ∧
            u.seqs.claim = claimAfter q a s ∧ u.arb = s.arb) ∧
          (¬ok → LockedOut q v u))) ∧
      (st = .returnClosing → u.arb = s.arb ∧ (u.seq q).alt = none ∧ u.seqs.claim = s.seqs.claim ∧
        (ok → Preferred q v u) ∧ (¬ok → (u.seq q).state = stableState q .deadBus s)) ∧
      (st = .starting ∨ st = .preferred ∨ st = .lossPending ∨ st = .deadWait ∨ st = .genWait ∨ st = .onAlternate ∨
        st = .returnWatch ∨ st = .parallelSoft ∨ st = .lockedOut ∨ st = .parked → u = v))) ∧
  (∀ (q : SeqId) (b : Bus) (s : State), s.Safe →
    let st := (s.seq q).state
    let enters := secBus q = b ∧ st ≠ .starting ∧ st ≠ .parked ∧ st ≠ .lockedOut
    (enters → LockedOut q s (seqBusLocked q b s) ∧ SameOutside s (seqBusLocked q b s) ∧ onlySeq q s (seqBusLocked q b s)) ∧
    (¬enters → seqBusLocked q b s = s) ∧
    (secBus q = b → st = .lockedOut → Derived q s (seqBusCleared q b s) ∧ onlySeq q s (seqBusCleared q b s) ∧
      SameOutside s (seqBusCleared q b s) ∧ (seqBusCleared q b s).arb = s.arb) ∧
    (secBus q ≠ b ∨ st ≠ .lockedOut → seqBusCleared q b s = s)) ∧
  (∀ (q : SeqId) (n : Nat) (type : OrdType) (tag : Option Nat) (t : Told) (s : State),
    ((s.busLock (secBus q)).isSet = true →
      deliver (.told (.seq q) n type tag t) s = seqTold q n type tag t (seqBusLocked q (secBus q) s)) ∧
    ((s.busLock (secBus q)).isSet = false → deliver (.told (.seq q) n type tag t) s = seqTold q n type tag t s)) ∧
  (∀ (n : Nat) (was now : Pos) (b : Bus) (s : State),
    deliver (.posChanged n was now) s = parPosition n was now (seqPosition .seq2 n now (seqPosition .seq1 n now s)) ∧
    deliver (.busLockSet b) s = seqBusLocked .seq2 b (seqBusLocked .seq1 b s) ∧
    deliver (.busLockCleared b) s = seqBusCleared .seq2 b (seqBusCleared .seq1 b s)) ∧
  (∀ (fuel : Nat) (m : Msg) (rest : List Msg) (s : State),
    (s.mail = [] → drain fuel s = s) ∧
    (s.mail = m :: rest → drain (fuel + 1) s = drain fuel (settle (deliver m { s with mail := rest })))) ∧
  ∀ (q : SeqId) (s : State),
    let x := s.seq q
    let gm := x.alt = some .gm
    (contributes s q = true ↔ x.state = .genWait ∨ x.state = .deadBus ∨ x.state = .parallelSoft ∨
      (x.state = .altClosing ∧ gm) ∨ (x.state = .onAlternate ∧ gm) ∨ (x.state = .returnSync ∧ gm) ∨
      (x.state = .returnWatch ∧ s.pos (gmSlot q) = .closed)) ∧
    ((refreshDemand s).seq q).demand = contributes s q

/-! ## Chapter 7: the generator bus -/

/-- R141, R143, R144: a valid GENSTAT frame. Its time and fields are taken; a repeated status changes nothing else; a new
one moves the generator by the table, to UNLOADING in place of ONLINE while a soft unload runs (R157). STATUS_LOSS marks the
status lost and fails the generator. That a status with mode MANUAL takes a generator whose status was lost from FAILED to
MANUAL is the model's choice (log 78). The frame itself is forwarded as R5 says, before it is taken; one that is not offered,
that no block takes in UNCONFIGURED, whose payload is invalid, or that is valid for no generator, is forwarded as R5 says and
changes nothing else. -/
def Obligations.StatusMovesGenerator : Prop :=
  (∀ (p : Port) (f : EthFrame) (h : Header) (x : GenstatPayload) (s : State), s.Safe → Inward .genstat p f h s →
    genstatPayload h f.body = some x → s.blocksRun = true → (s.genRow x.gen).present = true →
    (s.genRow x.gen).station = h.src →
    let g := s.gen x.gen
    let same := g.running = x.running ∧ g.ready = x.ready ∧ g.fault = x.fault ∧ g.manualMode = x.manualMode
    let up := x.running = true ∧ x.ready = true
    ∃ v u, exec (.genstat p f) s = .next (finish u) ∧ u.seqs = s.seqs ∧ SameOutside s u ∧
      Forwarded p f h .stream s v ∧ (same → u.link = v.link) ∧
      (∀ port, (portOf u.link port).stream = (portOf v.link port).stream ∧
        (portOf u.link port).bulk = (portOf v.link port).bulk) ∧
      (let b := u.gen x.gen
       b.running = x.running ∧ b.ready = x.ready ∧ b.fault = x.fault ∧ b.manualMode = x.manualMode ∧
       b.lastStat = some s.now ∧ b.lost = false ∧
       (same → b.state = g.state ∧ b.bias = g.bias ∧ b.filter = g.filter) ∧
       (¬same →
        (x.manualMode = true → g.state ≠ .manual → b.state = .manual ∧ b.bias = 0 ∧ b.filter = 0) ∧
        (x.manualMode = false → g.state = .manual → x.fault = false → s.pos (genSlot x.gen) = .closed →
          b.state = if s.par.unload.isSome then .unloading else .online) ∧
        (x.manualMode = false → g.state = .manual → x.fault = false → s.pos (genSlot x.gen) ≠ .closed →
          s.par.demand = false → b.state = .off ∧ b.bias = 0 ∧ b.filter = 0) ∧
        (x.manualMode = false → g.state ≠ .manual → g.state ≠ .failed → x.fault = true →
          b.state = .failed ∧ b.cause = some .controller ∧ b.bias = 0 ∧ b.filter = 0) ∧
        (x.manualMode = false → x.fault = false →
          (g.state = .starting → b.state = if up then .ready else .starting) ∧
          (g.state = .ready → b.state = if up then .ready else .starting) ∧
          (g.state = .closing → b.state = if up then .closing else .starting) ∧
          (g.state = .off ∨ g.state = .online ∨ g.state = .unloading ∨ g.state = .failed → b.state = g.state))))) ∧
  (∀ (p : Port) (f : EthFrame) (h : Header) (s : State), receiving s p = true → frameClass f = .vendor h →
    h.kind = .genstat →
    (offeredInward s h = false ∨ s.blocksRun = false ∨ genstatPayload h f.body = none ∨
      ∃ x, genstatPayload h f.body = some x ∧ ((s.genRow x.gen).present = false ∨ (s.genRow x.gen).station ≠ h.src)) →
    ∃ t, exec (.genstat p f) s = .next t ∧ Forwarded p f h .stream s t) ∧
  (∀ (h : Header) (b : List Byte),
    (genstatPayload h b = none ↔ h.payloadLen ≠ 5 ∨ byteAt b 8 = 0 ∨ 8 < byteAt b 8 ∨ ∃ i, 9 ≤ i ∧ i ≤ 12 ∧ 1 < byteAt b i) ∧
    ∀ x, genstatPayload h b = some x → x.gen = byteAt b 8 ∧ (x.running = true ↔ byteAt b 9 = 1) ∧
      (x.ready = true ↔ byteAt b 10 = 1) ∧ (x.fault = true ↔ byteAt b 11 = 1) ∧ (x.manualMode = true ↔ byteAt b 12 = 1)) ∧
  ∀ (k t : Nat) (s : State), s.Safe → 1 ≤ k → k ≤ 8 → s.mgmt.serviceAt = some t → s.blocksRun = true →
    (s.genRow k).present = true → (s.gen k).lost = false →
    (max t ((s.gen k).lastStat.getD t) + 1000000 ≤ s.now → (s.gen k).manualMode = false → (s.gen k).state ≠ .manual →
      ∃ u, exec (.statusLoss k) s = .next (finish u) ∧ u.seqs = s.seqs ∧ SameOutside s u ∧ (u.gen k).lost = true ∧
        (u.gen k).state = .failed ∧ ((s.gen k).state ≠ .failed →
          (u.gen k).cause = some (if (s.gen k).fault then .controller else .statusLost) ∧ (u.gen k).bias = 0 ∧
          (s.pos (genSlot k) = .opn → (u.gen k).awaited = none))) ∧
    (s.now < max t ((s.gen k).lastStat.getD t) + 1000000 → exec (.statusLoss k) s = .next s)

/-- R144, R146: at the expiry of the stop timer the demand is dropped and stop pending is set; every present generator in
STARTING, READY or CLOSING goes to OFF, and the others stay. -/
def Obligations.StopTimerDropsDemand : Prop :=
  ∀ (t : Nat) (s : State), s.Safe → s.par.stopTimer = some t →
    (t ≤ s.now → ∃ u, exec .stopTimerExpiry s = .next (finish u) ∧ u.par.demand = false ∧ u.par.stopTimer = none ∧
      u.par.stopPending = true ∧ u.seqs = s.seqs ∧ SameOutside s u ∧
      ∀ k, 1 ≤ k → k ≤ 8 → (s.genRow k).present = true →
        ((s.gen k).state = .starting ∨ (s.gen k).state = .ready ∨ (s.gen k).state = .closing →
          (u.gen k).state = .off ∧ (u.gen k).bias = 0 ∧ (u.gen k).filter = 0) ∧
        ((s.gen k).state ≠ .starting → (s.gen k).state ≠ .ready → (s.gen k).state ≠ .closing →
          (u.gen k).state = (s.gen k).state ∧ (u.gen k).bias = (s.gen k).bias)) ∧
    (s.now < t → exec .stopTimerExpiry s = .next s)

/-- R152: a channel holds when all five criteria are met; at an update a MATCHING channel that holds raises its hold count, one
that does not has it at 0, and one FIRED tests nothing. R94, R152, R153: a channel whose hold count is 2 fires: the waiting close is ISSUED, or leaves with PARALLEL where the
interlock fails. A request past the sync wait limit leaves with SYNC_TIMEOUT. Either end frees the place of the request: its place in
the queue, or its channel, which then holds the oldest queued request, or none when the queue is empty. SYNC_FIRE as a command
of its own is the model's (log 3). -/
def Obligations.SyncFiresOrTimesOut : Prop :=
  (∀ (c : Channel) (s : State),
    let r := s.voltMeas c.ref
    let x := s.voltMeas c.inc
    let within := fun (angle : Int) => angle.natAbs ≤ s.tbl.par.angleWin
    channelHolds s c = true ↔ r.quality = .good ∧ x.quality = .good ∧ ∃ angle slip : Int, c.pair = some (angle, slip) ∧
      ((x.rms.a : Int) - (r.rms.a : Int)).natAbs ≤ s.par.voltWin ∧ slip.natAbs ≤ s.tbl.par.slipLimit ∧
      (slip.natAbs < 10 → within angle) ∧
      (10 ≤ slip.natAbs → ∃ predicted : Int, -18000 ≤ predicted ∧ predicted ≤ 17999 ∧ within predicted ∧
        ∃ turns : Int, predicted = angle + (slip * c.closing * 36).tdiv 1000 + turns * 36000)) ∧
  (∀ (i : Nat) (c : Channel) (s : State), s.par.channels[i]? = some (some c) →
    let counted := fun (n : Nat) =>
      { s with par := { s.par with channels := s.par.channels.set i (some { c with hold := n }) } }
    (c.fired = true → testChannel i s = s) ∧
    (c.fired = false → channelHolds s c = false → testChannel i s = counted 0) ∧
    (c.fired = false → channelHolds s c = true → c.hold = 0 → testChannel i s = counted 1) ∧
    (c.fired = false → channelHolds s c = true → c.hold = 1 →
      exec (.syncFire i) (counted 2) = .next (finish (testChannel i s)))) ∧
  (∀ (i : Nat) (c : Channel) (o : Order) (s : State), s.Safe → s.par.channels[i]? = some (some c) → c.fired = false →
    c.hold = 2 → c.slot < 25 → (s.slot c.slot).order = some o → o.type = .close → o.phase = .syncWait →
    ∃ u, exec (.syncFire i) s = .next (finish u) ∧ onlySlot c.slot s u ∧ SameOutside s u ∧ u.seqs = s.seqs ∧
      (interlockFails s c.slot = false → u.par.channels[i]? = some (some { c with fired := true }) ∧
        (u.slot c.slot).order =
          some { o with phase := .issued, issueTime := some s.now, nextRepeat := s.now + 10000 }) ∧
      (interlockFails s c.slot = true → (u.slot c.slot).order = none ∧
        (u.slot c.slot).lastResult = some ⟨.close, o.tag, o.causes, .parallel⟩ ∧
        (channelOf s c.slot = some i → ChannelRefilled i s u) ∧
        ∀ r ∈ o.requesters, .told r c.slot .close (some o.tag) .parallel ∈ u.mail)) ∧
  ∀ (n t : Nat) (o : Order) (s : State), s.Safe → n < 25 → (s.slot n).order = some o → o.type = .close →
    o.phase = .syncWait → waitingSince s n = some t →
    (t + s.tbl.par.syncWait * 1000000 ≤ s.now →
      ∃ u, exec (.syncWaitLimit n) s = .next (finish u) ∧ onlySlot n s u ∧ SameOutside s u ∧ u.seqs = s.seqs ∧
        (u.slot n).order = none ∧ (u.slot n).lastResult = some ⟨.close, o.tag, o.causes, .syncTimeout⟩ ∧
        (channelOf s n = none → (∀ x ∈ u.par.queue, x.slot ≠ n) ∧ u.par.channels = s.par.channels) ∧
        (∀ i, channelOf s n = some i → ChannelRefilled i s u) ∧
        ∀ r ∈ o.requesters, .told r n .close (some o.tag) .syncTimeout ∈ u.mail) ∧
    (s.now < t + s.tbl.par.syncWait * 1000000 → exec (.syncWaitLimit n) s = .next s)

/-- R145, R147, R148, R150, R159: the Paralleling Unit at a measurement update. Opens on the ONLINE and UNLOADING generators while stop
pending is set and both GMs are OPEN; the grant is released, and its close withdrawn, where GBUS is not DEAD; the grant on a dead
GBUS goes to the eligible generator with the lowest priority number, whose close is raised; on a live GBUS a close is raised for
each eligible generator that awaits nothing, in order of priority number; and free capacity and GBUS total P. The model's: the
order of the opens (log 67). -/
def Obligations.ClosesAndCapacity : Prop :=
  (∀ s : State, s.Safe →
    let u := stopGenerators s
    let stops := s.par.stopPending = true ∧ s.pos 3 = .opn ∧ s.pos 4 = .opn
    (¬stops → u = s) ∧
    (stops → u.seqs = s.seqs ∧ SameOutside s u ∧ ∀ k, 1 ≤ k → k ≤ 8 →
      let opens := (s.genRow k).present = true ∧ ((s.gen k).state = .online ∨ (s.gen k).state = .unloading) ∧
        ∀ w, (s.gen k).awaited = some w → w.type = .close
      (opens → GenOpens k s u) ∧ (¬opens → u.slot (genSlot k) = s.slot (genSlot k) ∧
        (u.gen k).awaited = (s.gen k).awaited))) ∧
  (∀ s : State, s.Safe →
    let u := releaseOnLive s
    (s.par.grant = none ∨ s.declared 4 = .dead → u = s) ∧
    ∀ g, s.par.grant = some g → s.declared 4 ≠ .dead → 1 ≤ g.gen → g.gen ≤ 8 →
      u.par.grant = none ∧ u.seqs = s.seqs ∧ SameOutside s u ∧ onlySlot (genSlot g.gen) s u ∧
      (∀ o, (s.slot (genSlot g.gen)).order = some o → o.type = .close → o.grantHeld = true →
        CloseLeft (genSlot g.gen) o .withdrawn s u) ∧
      ((∀ o, (s.slot (genSlot g.gen)).order = some o → o.type = .opn ∨ o.grantHeld = false) →
        u.slot (genSlot g.gen) = s.slot (genSlot g.gen) ∧ u.link = s.link)) ∧
  (∀ (s : State) (k : Nat), eligible s k = true ↔ (s.genRow k).present = true ∧ (s.gen k).state = .ready ∧
    (s.declared (4 + k) = .live ∨ s.declared (4 + k) = .healthy) ∧ s.pos (genSlot k) = .opn ∧
    (s.slot (genSlot k)).lock.isSet = false ∧ s.arb.gbus.isSet = false) ∧
  (∀ s : State, s.Safe →
    let u := grantDead s
    let may := s.inService = true ∧ s.par.demand = true ∧ s.mgmt.mode ≠ .blocked ∧ s.declared 4 = .dead ∧ s.par.grant = none
    (¬may ∨ (∀ k, 1 ≤ k → k ≤ 8 → eligible s k = false) → u = s) ∧
    (may → ∀ k, 1 ≤ k → k ≤ 8 → eligible s k = true → 1 ≤ (s.genRow k).priority → (s.genRow k).priority ≤ 8 →
      (∀ j, 1 ≤ j → j ≤ 8 → eligible s j = true → j = k ∨ (s.genRow k).priority < (s.genRow j).priority) →
      (u.gen k).state = .closing ∧ GenCloses k s u ∧ onlySlot (genSlot k) s u ∧ SameOutside s u ∧ u.seqs = s.seqs ∧
      (∀ why, (s.brk (genSlot k)).present = true → closeLadder s (genSlot k) = .refused why →
        u.par.grant = none ∧ u.slot (genSlot k) = s.slot (genSlot k)) ∧
      ∀ tag, (s.brk (genSlot k)).present = true → closeLadder s (genSlot k) = .taken tag →
        u.par.grant = some ⟨k, .par, true⟩ ∧
          ∃ o, (u.slot (genSlot k)).order = some o ∧ o.grantHeld = true ∧ o.phase = .issued ∧ o.tag = tag)) ∧
  (∀ s : State, s.Safe → (∀ k, 1 ≤ k → k ≤ 8 → (s.slot (genSlot k)).order = none →
      channelOf s (genSlot k) = none ∧ ∀ e ∈ s.par.queue, e.slot ≠ genSlot k) →
    let u := closeLive s
    let may := s.inService = true ∧ s.par.demand = true ∧ s.mgmt.mode ≠ .blocked ∧ isLive (s.declared 4) = true
    (¬may → u = s) ∧
    (may → SameOutside s u ∧ u.seqs = s.seqs ∧ u.par.grant = s.par.grant ∧
      (∃ l, u.par.queue = s.par.queue ++ l ∧ l.Pairwise fun a b => ∃ i j, a.slot = genSlot i ∧ b.slot = genSlot j ∧
        (s.genRow i).priority ≤ (s.genRow j).priority) ∧
      ∀ k, 1 ≤ k → k ≤ 8 → 1 ≤ (s.genRow k).priority → (s.genRow k).priority ≤ 8 →
        let closes := eligible s k = true ∧ (s.gen k).awaited = none
        (closes → GenCloses k s u ∧ ((u.gen k).state = .ready ∨ (u.gen k).state = .closing) ∧
          ∀ tag, (s.brk (genSlot k)).present = true → closeLadder s (genSlot k) = .taken tag →
            ((u.gen k).state = .closing ↔ channelOf u (genSlot k) ≠ none) ∧
            (channelOf u (genSlot k) = none → ∃ e ∈ u.par.queue, e.slot = genSlot k ∧ e.arrival = s.now)) ∧
        (¬closes → u.slot (genSlot k) = s.slot (genSlot k) ∧ (u.gen k).awaited = (s.gen k).awaited))) ∧
  ∀ s : State,
    let u := formCapacity s
    let counted := fun k => (s.genRow k).present = true ∧ ((s.gen k).state = .online ∨ (s.gen k).state = .unloading ∨
      (s.gen k).state = .manual ∧ s.pos (genSlot k) = .closed)
    let load := fun k => max 0 (((s.curMeas (genSlot k)).power).getD 0)
    ∃ l : List Nat, l.Nodup ∧ (∀ k, k ∈ l ↔ 1 ≤ k ∧ k ≤ 8 ∧ counted k) ∧
      u = { s with par := { s.par with freeCap := u.par.freeCap, gbusP := u.par.gbusP } } ∧
      u.par.gbusP = (l.map load).sum ∧
      u.par.freeCap = (l.map fun k => ((s.genRow k).rating : Int)).sum - (l.map load).sum

/-- R142, R154 to R158: the sharing update and the soft unload. The trim that a MATCHING channel gives a generator, summed and
limited; the filters and biases of the sharing set, and the bias of every other generator by its trim alone; where the P of a
member is INVALID, or the set is empty, by the trims alone; Ttot falls by r first; one GENCMD with the start request and the bias
leaves for each present generator, in ascending order (the model's, log 68). A soft unload begins for its owner when none runs and
the other GM is OPEN, and at its end every UNLOADING generator is ONLINE. -/
def Obligations.TrimAndSharing : Prop :=
  (∀ (s : State) (c : Channel) (k : Nat), 1 ≤ k → k ≤ 8 →
    let limit := fun (x : Int) => max (-10) (min 10 (x.tdiv 20))
    let st := (s.gen k).state
    let gm1 := s.pos 3 = .closed
    let gm2 := s.pos 4 = .closed
    (c.fired = true ∨ c.pair = none → trimOf s c k = 0) ∧
    ∀ angle slip, c.fired = false → c.pair = some (angle, slip) →
      (c.slot = genSlot k → st = .online ∨ st = .ready ∨ st = .closing → trimOf s c k = limit (100 - slip)) ∧
      (c.slot = 0 → gm1 → st = .online → trimOf s c k = limit (slip - 100)) ∧
      (c.slot = 1 → gm2 → st = .online → trimOf s c k = limit (slip - 100)) ∧
      (c.slot = 2 → gm2 → ¬gm1 → st = .online → trimOf s c k = limit (slip - 100)) ∧
      (c.slot = 2 → gm1 → ¬gm2 → st = .online → trimOf s c k = limit (-slip - 100)) ∧
      (c.slot = 2 → (gm1 ↔ gm2) → trimOf s c k = 0) ∧ (c.slot = 0 → ¬gm1 → trimOf s c k = 0) ∧
      (c.slot = 1 → ¬gm2 → trimOf s c k = 0) ∧ (3 ≤ c.slot → c.slot ≠ genSlot k → trimOf s c k = 0) ∧
      (st ≠ .online → c.slot ≠ genSlot k ∨ (st ≠ .ready ∧ st ≠ .closing) → trimOf s c k = 0)) ∧
  (∀ (s : State) (k : Nat), trimSum s k = max (-10) (min 10 ((s.par.channels.map fun c => match c with
    | some c => trimOf s c k
    | none => 0).sum))) ∧
  (∀ s : State, s.Safe →
    let u := shareLoad s
    let member := fun k => 1 ≤ k ∧ k ≤ 8 ∧ (s.genRow k).present = true ∧
      if s.par.unload.isSome then (s.gen k).state = .unloading
      else (s.gen k).state = .online ∧ (s.gen k).manualMode = false
    let bounded := fun (x : Int) => max (-1000) (min 1000 x)
    let power := fun k => (s.curMeas (genSlot k)).power.getD 0
    u = { s with par := { s.par with gens := u.par.gens } } ∧ u.par.gens.length = 8 ∧
    ∃ o : List Nat, o.Nodup ∧ (∀ k, k ∈ o ↔ member k) ∧
      let able := o ≠ [] ∧ ∀ k ∈ o, (s.curMeas (genSlot k)).power ≠ none
      let total := match s.par.unload with
        | some x => x.ttot
        | none => (o.map power).sum
      let ratings := (o.map fun k => ((s.genRow k).rating : Int)).sum
      ∀ k, 1 ≤ k → k ≤ 8 →
        ((s.genRow k).present = false → u.gen k = s.gen k) ∧
        ((s.genRow k).present = true → ¬able ∨ k ∉ o →
          u.gen k = { s.gen k with bias := bounded ((s.gen k).bias + trimSum s k) }) ∧
        ((s.genRow k).present = true → able → k ∈ o →
          let rating := ((s.genRow k).rating : Int)
          let error := (total * rating).tdiv ratings - power k
          let filter := (s.gen k).filter + (error - (s.gen k).filter).tdiv 4
          let limit := (s.tbl.par.stepLimit : Int)
          let step := max (-limit) (min limit ((filter * (s.tbl.par.gain : Int)).tdiv rating))
          u.gen k = { s.gen k with filter := filter, bias := bounded ((s.gen k).bias + step + trimSum s k) })) ∧
  (∀ s : State, s.Safe →
    let falls := { s with par := { s.par with unload := s.par.unload.map fun x => { x with ttot := max 0 (x.ttot - x.step) } } }
    let v := shareLoad falls
    let asked := fun k => (v.gen k).manualMode = false ∧ (v.gen k).state ≠ .failed ∧ (v.gen k).state ≠ .manual ∧
      (v.par.demand = true ∨ (v.gen k).state = .closing ∨ (v.gen k).state = .online ∨ (v.gen k).state = .unloading)
    let sent := fun k => if (v.gen k).state = .off ∨ (v.gen k).state = .failed ∨ (v.gen k).state = .manual then 0 else (v.gen k).bias
    let u := sharingUpdate s
    u = { v with par := { v.par with gens := u.par.gens }, link := u.link } ∧
    (∀ k, 1 ≤ k → k ≤ 8 → ((s.genRow k).present = false → u.gen k = v.gen k) ∧
      ((s.genRow k).present = true → asked k → u.gen k = { v.gen k with startSent := true }) ∧
      ((s.genRow k).present = true → ¬asked k → u.gen k = { v.gen k with startSent := false })) ∧
    u.link = (([1, 2, 3, 4, 5, 6, 7, 8].filter fun k => (s.genRow k).present).foldl
      (fun w k => originate (s.genRow k).station (.gencmd k (u.gen k).startSent (sent k)) w) v).link) ∧
  (∀ (q : SeqId) (ramp : Nat) (s : State), s.Safe →
    let u := beginUnload q ramp s
    let starts := s.par.unload = none ∧ s.pos (gmSlot (otherSeq q)) = .opn
    (¬starts → u = s) ∧
    (starts → SameOutside s u ∧ u.seqs = s.seqs ∧ u.arb = s.arb ∧ u.link = s.link ∧
      ∃ l : List Nat, l.Nodup ∧ (∀ k, k ∈ l ↔ 1 ≤ k ∧ k ≤ 8 ∧ (s.genRow k).present = true ∧ (s.gen k).state = .online ∧
          (s.gen k).manualMode = false) ∧
        let ratings := (l.map fun k => (s.genRow k).rating).sum
        let perSecond := if s.fNom = 60 then 30 else 25
        u.par.unload = some ⟨q, (l.map fun k => max 0 ((s.curMeas (genSlot k)).power.getD 0)).sum,
          max 1 ((ratings * ramp + (100 * perSecond - 1)) / (100 * perSecond)), ratings⟩ ∧
        ∀ k, 1 ≤ k → k ≤ 8 → (k ∈ l → u.gen k = { s.gen k with state := .unloading }) ∧ (k ∉ l → u.gen k = s.gen k))) ∧
  ∀ s : State, s.Safe →
    (s.par.unload = none → endUnload s = s) ∧
    (s.par.unload ≠ none → (endUnload s).par.unload = none ∧ SameOutside s (endUnload s) ∧ (endUnload s).seqs = s.seqs ∧
      (endUnload s).arb = s.arb ∧ (endUnload s).link = s.link ∧ ∀ k, 1 ≤ k → k ≤ 8 →
        ((s.gen k).state = .unloading → (endUnload s).gen k = { s.gen k with state := .online }) ∧
        ((s.gen k).state ≠ .unloading → (endUnload s).gen k = s.gen k))

/-! ## Chapter 8: records and notices -/

/-- R162 to R166, R73: a trigger joins the OPEN record created last among those that hold the failed slot of a BF trigger, or else
among those created in the last 1,000 ms; otherwise a new record is made, the head leaving a queue of 16. What a trigger adds to
its record; how a slot is entered from the Arbiter's state; what the reported end of an open, a change of a BF state and the final
peaks of an element bring; when a record is COMPLETE, and its clearance index. The model's choices: which elements a record keeps
for their final peaks (log 19), in LOOP the position read is the emulated one (log 83), a record without a breaker entry has no
clearance index (log 81), of several records that complete at once the last is the last event (log 52), a phase not involved
keeps no peak (log 70), and a last result that R165 does not list gives a free outcome (log 5). -/
def Obligations.TriggersTaken : Prop :=
  (∀ (t : Trigger) (s : State), s.records.queue.length ≤ 16 →
    let l := s.records.queue
    let u := takeTrigger t s
    let holds := fun (r : Record) => r.complete = false ∧ ∃ e, t = .bf e ∧
      ((∃ x ∈ r.awaited, x.1 = e.slot) ∨ ∃ b ∈ r.brks, b.slot = e.slot)
    let fits := fun (r : Record) => holds r ∨
      ((∀ y ∈ l, ¬holds y) ∧ r.complete = false ∧ s.now ≤ r.firstTime + 1000000)
    let slots := match t with
      | .element _ trip _ _ _ => trip
      | .bf e => e.backups
      | .overrun o => [o.slot]
    let indices := match t with
      | .element e _ _ _ pickup => (TrigKind.element, pickup, e.operIdx)
      | .bf e => (.bf, e.operIdx, e.operIdx)
      | .overrun o => (.overrun, o.index, o.index)
    let fresh : Record :=
      { number := s.records.nextNumber, kind := indices.1, firstTime := s.now, pickupIdx := indices.2.1
        operIdx := indices.2.2, seq1 := s.seqs.seq1.state, seq2 := s.seqs.seq2.state, mode := s.mgmt.mode }
    u = { s with records := u.records, free := u.free } ∧
    (s.siteInForce = true → noticeEnabled s .record = true → .record ∈ u.records.pendingNotices) ∧
    ∃ v : State, (v = s ∨ v = s.useFree) ∧ u.free = v.free ∧
      let joined := fun (r : Record) => slots.foldl (enterSlot v) (addTrigger t r)
      let ready := fun (r : Record) => !r.complete && readyToComplete v r
      let placed := fun (grown : List Record) (number : Nat) (ev : RecEvent) =>
        u.records.queue = grown.map (fun r => if ready r then completeRecord r else r) ∧
          u.records.lastEvent = some (match (grown.filter ready).getLast? with
            | some r => (r.number, .completed)
            | none => (number, ev))
      (∀ before r after, l = before ++ r :: after → fits r → (∀ y ∈ after, ¬fits y) →
        u.records.nextNumber = s.records.nextNumber ∧
        placed (before.map (leaveElement t) ++ joined (leaveElement t r) :: after.map (leaveElement t)) r.number .merged) ∧
      ((∀ r ∈ l, ¬fits r) →
        let kept := if l.length = 16 then l.tail else l
        u.records.nextNumber = (if 65535 ≤ s.records.nextNumber then 1 else s.records.nextNumber + 1) ∧
        placed (kept.map (leaveElement t) ++ [joined fresh]) fresh.number .created)) ∧
  (∀ (e : ElemEntry) (trip : List Nat) (phases : Four Bool) (peaks : Four Nat) (pickup : Nat) (r : Record),
    let u := addTrigger (.element e trip phases peaks pickup) r
    let held := ∃ x ∈ r.elems, x.group = e.group ∧ x.row = e.row
    u = { r with
      elems := u.elems, truncated := u.truncated, phases := u.phases, peaks := u.peaks, pickupIdx := min r.pickupIdx pickup
      operIdx := min r.operIdx e.operIdx, latest := r.latest ++ [(e.group, e.row)] } ∧
    (held → u.elems = r.elems ∧ u.truncated = r.truncated) ∧
    (¬held → r.elems.length < 8 → u.elems = r.elems ++ [e] ∧ u.truncated = r.truncated) ∧
    (¬held → 8 ≤ r.elems.length → u.elems = r.elems ∧ u.truncated = true) ∧
    ∀ ph, u.phases.get ph = (r.phases.get ph || phases.get ph) ∧
      u.peaks.get ph = if u.phases.get ph then max (r.peaks.get ph) (peaks.get ph) else 0) ∧
  (∀ (e : BfEntry) (r : Record),
    let grown := { r with pickupIdx := min r.pickupIdx e.operIdx, operIdx := min r.operIdx e.operIdx }
    (r.bfPart.length < 4 → addTrigger (.bf e) r = { grown with bfPart := r.bfPart ++ [e] }) ∧
    (4 ≤ r.bfPart.length → addTrigger (.bf e) r = { grown with truncated := true })) ∧
  (∀ (o : OverrunPart) (r : Record),
    let grown := { r with pickupIdx := min r.pickupIdx o.index, operIdx := min r.operIdx o.index }
    (r.overrun = none → addTrigger (.overrun o) r = { grown with overrun := some o }) ∧
    (r.overrun ≠ none → addTrigger (.overrun o) r = { grown with truncated := true })) ∧
  (∀ (s : State) (r : Record) (n : Nat),
    let u := enterSlot s r n
    let held := (∃ x ∈ r.awaited, x.1 = n) ∨ ∃ b ∈ r.brks, b.slot = n
    let enters := fun (b : BrkEntry) (waits : List (Nat × Option Nat)) =>
      u = { r with brks := u.brks, truncated := u.truncated, awaited := r.awaited ++ waits, entered := u.entered } ∧
      (∀ m, m ∈ u.entered ↔ m = n ∨ m ∈ r.entered) ∧
      (r.brks.length < 8 → u.brks = r.brks ++ [b] ∧ u.truncated = r.truncated) ∧
      (8 ≤ r.brks.length → u.brks = r.brks ∧ u.truncated = true)
    (held → u = r) ∧
    (¬held →
      (∀ o, (s.slot n).order = some o → o.type = .opn → enters ⟨n, some o.tag, .pending, none⟩ [(n, some o.tag)]) ∧
      (∀ o, (s.slot n).order = some o → o.type = .close → enters ⟨n, none, .pending, none⟩ [(n, none)]) ∧
      ((s.slot n).order = none → s.pos n = .opn → enters ⟨n, none, .noChange, some s.intake.count⟩ []) ∧
      ((s.slot n).order = none → s.pos n ≠ .opn →
        ((s.slot n).lastResult = none → enters ⟨n, none, .abandoned, none⟩ []) ∧
        ∀ x, (s.slot n).lastResult = some x →
          (x.result = .done → enters ⟨n, some x.tag, .done, some s.intake.count⟩ []) ∧
          (x.result = .fail → enters ⟨n, some x.tag, .fail, none⟩ []) ∧
          (x.result = .withdrawn → enters ⟨n, some x.tag, .withdrawn, none⟩ []) ∧
          (x.result = .blocked → enters ⟨n, some x.tag, .blocked, none⟩ []) ∧
          ∃ outcome c, outcome ≠ .pending ∧ (c = none ∨ c = some s.intake.count) ∧ enters ⟨n, some x.tag, outcome, c⟩ []))) ∧
  (∀ (n tag : Nat) (t : Told) (s : State),
    let u := reportOpenEnd n tag t s
    let outcome : EntryOutcome := match t with
      | .done => .done
      | .noChange => .noChange
      | .fail => .fail
      | .blocked => .blocked
      | _ => .withdrawn
    let settle := fun (r : Record) => if !r.complete && readyToComplete s r then completeRecord r else r
    u = { s with records := u.records } ∧ u.records.queue.length = s.records.queue.length ∧
    ∀ (i : Nat) (r : Record), s.records.queue[i]? = some r →
      let takes := r.complete = false ∧ ∃ x ∈ r.awaited, x.1 = n ∧ (x.2 = none ∨ x.2 = some tag)
      (¬takes → u.records.queue[i]? = some (settle r)) ∧
      (takes → ∃ v : Record, u.records.queue[i]? = some (settle v) ∧ v = { r with brks := v.brks, awaited := v.awaited } ∧
        (∀ x, x ∈ v.awaited ↔ x ∈ r.awaited ∧ x.1 ≠ n) ∧ v.brks.length = r.brks.length ∧
        ∀ (j : Nat) (b : BrkEntry), r.brks[j]? = some b →
          (b.slot ≠ n → v.brks[j]? = some b) ∧
          (b.slot = n → ∃ c, v.brks[j]? = some { b with outcome := outcome, completion := c } ∧
            (t = .done → c = some s.intake.count)))) ∧
  (∀ (s : State) (r : Record),
    let view := fun n => s.records.bfView.getD n .idle
    (readyToComplete s r = true ↔ r.awaited = [] ∧
      ∀ n, n ∈ r.entered ∨ (∃ b ∈ r.brks, b.slot = n) →
        view n ≠ .timing ∧ (view n = .operated → ∃ e ∈ r.bfPart, e.slot = n)) ∧
    (let c := (completeRecord r).clearance
     let good := fun (b : BrkEntry) => b.outcome = .done ∨ b.outcome = .noChange
     completeRecord r = { r with complete := true, clearance := c } ∧
     (r.brks = [] → c = none) ∧ ((∃ b ∈ r.brks, ¬good b) ∨ r.truncated = true → c = none) ∧
     (r.brks ≠ [] → (∀ b ∈ r.brks, good b ∧ b.completion ≠ none) → r.truncated = false →
       ∃ m, c = some m ∧ (∃ b ∈ r.brks, b.completion = some m) ∧ ∀ b ∈ r.brks, ∀ x, b.completion = some x → x ≤ m))) ∧
  (∀ (n : Nat) (b : BFState) (s : State), s.records.bfView.length = 25 → n < 25 →
    let u := reportBf n b s
    let v := s.modRecords fun x => { x with bfView := s.records.bfView.set n b }
    u = { s with records := u.records } ∧ u.records.bfView = v.records.bfView ∧
    (s.siteInForce = true → noticeEnabled s .breakerFailure = true → .breakerFailure ∈ u.records.pendingNotices) ∧
    u.records.queue =
      s.records.queue.map fun r => if !r.complete && readyToComplete v r then completeRecord r else r) ∧
  ∀ (g : Group) (row : Nat) (phases : Four Bool) (peaks : Four Nat) (s : State),
    let u := finalPeaks g row phases peaks s
    u = { s with records := { s.records with queue := u.records.queue } } ∧
    u.records.queue.length = s.records.queue.length ∧
    ∀ (i : Nat) (r : Record), s.records.queue[i]? = some r →
      let takes := r.complete = false ∧ (g, row) ∈ r.latest ∧ ∃ e ∈ r.elems, e.group = g ∧ e.row = row
      (¬takes → u.records.queue[i]? = some r) ∧
      (takes → ∃ v : Record, u.records.queue[i]? = some v ∧ v = { r with phases := v.phases, peaks := v.peaks } ∧
        ∀ ph, v.phases.get ph = (r.phases.get ph || phases.get ph) ∧
          v.peaks.get ph = if v.phases.get ph then max (r.peaks.get ph) (peaks.get ph) else 0)

/-- R170: the snapshot of each notice class, its lists in ascending order. The model's choices: a begun second of a remaining time
counts as one (log 18), and of two latched targets of one row that of group A comes first (log 91). -/
def Obligations.SnapshotContents : Prop :=
  ∀ s : State, s.Safe → s.prot.targetsA.length = 64 → s.prot.targetsB.length = 64 → s.prot.operated.length = 64 →
    let seconds := fun (t : Nat) => (t - s.now + 999999) / 1000000
    (∃ rows targets, snapshot s .protection = .protection s.prot.active s.prot.pendingGroup rows targets ∧
      rows.Pairwise (fun x y => x.1 < y.1) ∧ (∀ i g, (i, g) ∈ rows ↔ s.prot.operated[i]? = some (some g)) ∧
      targets.Pairwise (fun x y => x.2.1 < y.2.1 ∨ (x.2.1 = y.2.1 ∧ x.1 = .a ∧ y.1 = .b)) ∧
      ∀ g i k, (g, i, k) ∈ targets ↔ ∃ x : Target, x.operIdx = k ∧ (match g with
        | .a => s.prot.targetsA
        | .b => s.prot.targetsB)[i]? = some (some x)) ∧
    (∃ l, snapshot s .breakerFailure = .breakerFailure l ∧ l.Pairwise (fun x y => x.1 < y.1) ∧
      ∀ n b k, (n, b, k) ∈ l ↔ n < 25 ∧ (s.slot n).bf = b ∧ b ≠ .idle ∧ (s.slot n).bfTimer = k) ∧
    (∃ slots buses, snapshot s .lockout = .lockout slots buses ∧ slots.Pairwise (fun x y => x.1 < y.1) ∧
      (∀ n k, (n, k) ∈ slots ↔ n < 25 ∧ (s.slot n).lock.isSet = true ∧ (s.slot n).lock.setters.length = k) ∧
      (buses.map Prod.fst).Sublist [.bus1, .bus2, .gbus] ∧
      ∀ b k, (b, k) ∈ buses ↔ (s.busLock b).isSet = true ∧ (s.busLock b).setters.length = k) ∧
    (∃ l, snapshot s .position = .position l ∧ l.Pairwise (fun x y => x.slot < y.slot) ∧
      ∀ x, x ∈ l ↔ x.slot < 25 ∧ (s.brk x.slot).present = true ∧
        let a := s.slot x.slot
        x.position = s.pos x.slot ∧ x.localCtl = a.localCtl ∧ x.ready = a.ready ∧
          x.order = a.order.map (fun o => (o.type, o.tag, o.phase)) ∧
          x.lastResult = a.lastResult.map fun o => (o.type, o.tag, o.result)) ∧
    (∃ left, snapshot s .sequencer = .sequencer s.mgmt.part s.mgmt.mode
        ([SeqId.seq1, .seq2].map fun q =>
          ⟨q, (s.seq q).state, (s.seq q).pendingPark, (s.seq q).alt, (s.seq q).retReady⟩) s.seqs.claim left ∧
      (s.seqs.inhibit = none → left = 0) ∧ ∀ t, s.seqs.inhibit = some t → left = seconds t) ∧
    (∃ gens channels, snapshot s .generator =
        .generator s.par.demand (s.par.stopTimer.map seconds) s.par.stopPending (s.par.grant.map fun g => g.gen)
          s.par.freeCap (s.par.unload.map fun x => x.owner) gens channels ∧
      gens.Pairwise (fun x y => x.1 < y.1) ∧
      (∀ k st b, (k, st, b) ∈ gens ↔ 1 ≤ k ∧ k ≤ 8 ∧ (s.genRow k).present = true ∧ (s.gen k).state = st ∧
        (s.gen k).bias = b) ∧
      channels.Pairwise (fun x y => x.1 ≤ y.1) ∧
      ∀ n fired, (n, fired) ∈ channels ↔ n < 25 ∧ ∃ c, some c ∈ s.par.channels ∧ c.slot = n ∧ c.fired = fired) ∧
    (∃ l, snapshot s .stream = .stream (decide (s.intake.k ≠ none)) l ∧ l.Pairwise (fun x y => x.1 < y.1) ∧
      ∀ r st, (r, st) ∈ l ↔ r < 48 ∧ (s.sub r).enabled = true ∧ (s.stream r).state = st) ∧
    ∃ opened complete, snapshot s .record =
        .record opened.length complete.length (complete.head?.map fun r => r.number) s.records.lastEvent ∧
      opened = s.records.queue.filter (fun r => !r.complete) ∧ complete = s.records.queue.filter fun r => r.complete

/-- R144, R151, R167, R168, R169, R171, R176: NOTICE_SEND sends the highest pending class at most every 10 ms;
DISCARD_RECORD removes the oldest COMPLETE record, and no other, when it has the number named; CLEAR clears the subsets named. Of the
generators it moves the FAILED ones to OFF, and on to FAILED again while their last status still reports a fault or is lost,
or to STARTING or READY while the demand is RAISED. That the fail cause of one that reports a fault and whose status is lost too
is CONTROLLER is the model's (log 88). -/
def Obligations.NoticesAndRecords : Prop :=
  (∀ (c : NoticeClass) (s : State), s.siteInForce = true → c ∈ s.records.pendingNotices →
    (∀ d ∈ s.records.pendingNotices, noticeCode c ≤ noticeCode d) →
    ((∀ t, s.records.lastSend = some t → t + 10000 ≤ s.now) →
      ∃ u, exec .noticeSend s = .next (originate (s.site.noticeDest.getD 65535) (.notice c (snapshot s c)) u) ∧
        u = { s with records := u.records } ∧
        u.records = { s.records with
          lastSend := some s.now, pendingNotices := s.records.pendingNotices.filter fun d => decide (d ≠ c) }) ∧
    (∀ t, s.records.lastSend = some t → s.now < t + 10000 → exec .noticeSend s = .next s)) ∧
  (∀ (r : Request) (rest : List Request) (m : Nat) (s : State), Taken .discardRecord r rest s → r.args = .recordNo m →
    let s' := setRequests rest s
    (∀ x, oldestComplete s = some x → x.number = m →
      ∃ u, exec .discardRecord s = .next (settleQueue (answerDone r u)) ∧ u = { s' with records := u.records } ∧
        u.records.queue = s.records.queue.eraseP (fun y => y.complete) ∧
        u.records.lastEvent = some (m, .discarded)) ∧
    ((∀ x, oldestComplete s = some x → x.number ≠ m) →
      exec .discardRecord s = .next (settleQueue (refuse r .badRow s')))) ∧
  ∀ (r : Request) (rest : List Request) (t d g x : Bool) (s : State), s.Safe → Taken .clear r rest s →
    r.args = .clear t d g x →
    ∃ u, exec .clear s = .next (settleQueue (answerDone r u)) ∧
      (g = false → u = { setRequests rest s with prot := u.prot, intake := u.intake, records := u.records }) ∧
      (t = false → u.prot = s.prot) ∧ (d = false → u.intake = s.intake) ∧ u.meas = s.meas ∧ u.nv = s.nv ∧
      (t = true → ∀ i, i < 64 → (s.prot.operated.getD i none).isNone = true →
        u.prot.targetsA.getD i none = none ∧ u.prot.targetsB.getD i none = none) ∧
      (d = true → ∀ pt ph, (phaseRec u pt ph).divergent = false ∧
        (phaseRec u pt ph).hist = (phaseRec s pt ph).hist ∧ (phaseRec u pt ph).level = (phaseRec s pt ph).level) ∧
      (x = true → ∀ y ∈ u.records.queue, y.complete = false) ∧
      (x = true → g = false → u.records.queue = s.records.queue.filter fun y => !y.complete) ∧
      (g = true → ∃ v, u = (if x then clearRecords (finish v) else finish v) ∧ v.seqs = s.seqs ∧
        ∀ k, 1 ≤ k → k ≤ 8 → (s.genRow k).present = true →
          let a := s.gen k
          let b := v.gen k
          let enters := fun (st : GenState) => b.state = st ∨ st = .ready ∧ b.state = .closing
          (a.state ≠ .failed → enters a.state ∧ b.cause = a.cause) ∧
          (a.state = .failed → b.bias = 0 ∧ b.filter = 0) ∧
          (a.state = .failed → a.fault = true → b.state = .failed ∧ b.cause = some .controller) ∧
          (a.state = .failed → a.fault = false → a.lost = true → b.state = .failed ∧ b.cause = some .statusLost) ∧
          (a.state = .failed → a.fault = false → a.lost = false → b.cause = none ∧
            enters (if s.par.demand = true ∧ a.manualMode = false then
              (if a.running = true ∧ a.ready = true then .ready else .starting) else .off)))

/-! ## Chapters 9 and 10: management and modes -/

/-- R99, R110, R144, R146, R167, R177: a read that passes the tests is answered DONE with what it reads, in the state in
which it was taken, the request itself gone from the queue (log 45). -/
def Obligations.ReadsAnswered : Prop :=
  ∀ (r : Request) (rest : List Request) (s : State),
    let s' := setRequests rest s
    let done := fun p => Host.Outcome.next (settleQueue (answerTo r .done p s'))
    (Taken .readStatus r rest s → exec .readStatus s = done (.status (statusView s'))) ∧
    (∀ pt, Taken .readPoint r rest s → r.args = .point pt → exec .readPoint s = done (pointView s pt)) ∧
    (∀ n, Taken .readBreaker r rest s → r.args = .slot n → exec .readBreaker s = done (.breaker (breakerView s n))) ∧
    (∀ g i, Taken .readElement r rest s → r.args = .element (some g) i → exec .readElement s = done (elementPayload s g i)) ∧
    (∀ k, Taken .readGenerator r rest s → r.args = .generator k →
      exec .readGenerator s = done (if k = 0 then .genBus (genBusView s) else .generator (genView s k))) ∧
    (∀ n i t, Taken .readRow r rest s → r.args = .row n i → tableRow n i = some t →
      exec .readRow s = done (.row (getRow t i (if s.inConfig then s.mgmt.edit.getD s.tbl else s.tbl)))) ∧
    (Taken .readRecord r rest s → exec .readRecord s =
      done (.record ((oldestComplete s).map recordView) (openRecords s) (completeRecords s)))

/-- R174: tests 1 to 5, in order, for every kind of request, and for a kind code that is none of R176. That a request row
takes up only a head of its kind, and that a head of no kind is settled as it comes to the front, is the model's choice
(log 25); which test refuses a named value outside its list is its reading (log 34). The table of R176, with the arguments of each kind,
the numbering of what they name (chapter 9.4), and the rights of a manager (R172). -/
def Obligations.RequestTests : Prop :=
  (∀ (k : Kind) (c : Instr) (r : Request) (rest : List Request) (s : State), requestRow (kindCodeOf k) = [c] →
    s.mgmt.requests = r :: rest →
    let s' := setRequests rest s
    (unitFree s = false ∨ r.kind ≠ kindCodeOf k → exec c s = .next s) ∧
    (unitFree s = true → r.kind = kindCodeOf k →
      (managerRights s r.src = none → exec c s = .next (settleQueue s')) ∧
      ∀ x, managerRights s r.src = some x →
        (argsShape k r.args = false → exec c s = .next (settleQueue (refuse r .badValue s'))) ∧
        (argsShape k r.args = true → includesRight x (rightOf k) = false →
          exec c s = .next (settleQueue (refuse r .notPermitted s'))) ∧
        (argsShape k r.args = true → includesRight x (rightOf k) = true → takenNow k s.mgmt.part = false →
          exec c s = .next (settleQueue (refuse r .wrongState s'))) ∧
        (argsShape k r.args = true → includesRight x (rightOf k) = true → takenNow k s.mgmt.part = true →
          argsNumbered r.args = false → exec c s = .next (settleQueue (refuse r .badRow s'))))) ∧
  (∀ k : Kind, ∃ x ∈ kindRows, x.kind = k) ∧
  (∀ x ∈ kindRows, kindCodeOf x.kind = x.code ∧ rightOf x.kind = x.right ∧ takenNow x.kind .loading = false ∧
    takenNow x.kind .unconfigured = x.inU ∧ takenNow x.kind (.config false) = x.inC ∧
    takenNow x.kind (.config true) = x.inTables ∧ ∀ starting, takenNow x.kind (.service starting) = x.inS) ∧
  (∀ (k : Kind) (a : Args), argsShape k a = true ↔ ArgsOf a k) ∧
  (∀ a : Args, argsNumbered a = true ↔ Numbered a) ∧
  (∀ held need : Rights, includesRight held need = true ↔ held = .operate ∨ need = .view ∨ held = need) ∧
  (∀ (src : Nat) (s : State),
    (s.mgmt.image = none → managerRights s src = some .operate) ∧
    ∀ im, s.mgmt.image = some im →
      (managerRights s src = none ↔ ∀ r ∈ im.tables.managers, r.present = true → r.station ≠ src) ∧
      ∀ x, managerRights s src = some x → ∃ r ∈ im.tables.managers, r.present = true ∧ r.station = src ∧ r.rights = x) ∧
  (∀ (r : Request) (rest : List Request) (s : State), s.mgmt.requests = r :: rest → rest.length ≤ 3 → unitFree s = true →
    (managerRights s r.src = none → settleQueue s = settleQueue (setRequests rest s)) ∧
    ((managerRights s r.src).isSome = true → r.kind = 0 ∨ 23 < r.kind →
      settleQueue s = settleQueue (refuse r .badValue (setRequests rest s))) ∧
    ((managerRights s r.src).isSome = true → 1 ≤ r.kind → r.kind ≤ 23 → settleQueue s = s)) ∧
  ∀ (p : Port) (f : EthFrame) (h : Header) (r : Request) (s : State), s.Safe → Inward .manage p f h s →
    managePayload h f = some r → s.link.station = some h.dest →
    (∀ e ∈ s.link.dup, e.src = r.src → e.tag = r.tag → e.arrival + 500000 ≤ s.now) → s.mgmt.requests = [] →
    unitFree s = true → (managerRights s r.src).isSome = true → r.kind = 0 ∨ 23 < r.kind →
    ∃ t, exec (.manage p f) s = .next (refuse r .badValue t) ∧ onlyLink s t ∧
      t.link = { s.link with dup := t.link.dup } ∧ (⟨r.src, r.tag, s.now⟩ : DupEntry) ∈ t.link.dup

/-- R56, R77, R82, R178: WRITE_ROW. In CONFIG the row, clamped and converted, goes to the edit set, where a SITE row with f_nom
unset leaves every value in updates unset (that it stays so when f_nom is written again is the model's, log 84); in SERVICE only an element row of
the group that is not active and has no selection pending, to the tables in force and then to the settings memory. What the
limits and the structural tests are is stated in TableChecks. -/
def Obligations.RowWritten : Prop :=
  ∀ (r : Request) (rest : List Request) (n i : Nat) (d : RowData) (listsOk : Bool) (t : TableId) (s : State),
    Taken .writeRow r rest s → r.args = .write n i d listsOk → tableRow n i = some t →
    let s' := setRequests rest s
    let status := if clampRow d = d then Status.done else .doneClamped
    let group := match t with
      | .elementsA => some Group.a
      | .elementsB => some Group.b
      | _ => none
    (s.inConfig = true →
      let e := s.mgmt.edit.getD s.tbl
      let d' := convertRow e.site.fNom (clampRow d)
      (listsOk = true → rowStructure d' = true →
        ∃ u, exec .writeRow s = .next (settleQueue (answerTo r status .nothing u)) ∧ u = { s' with mgmt := u.mgmt } ∧
          u.mgmt = { s'.mgmt with edit := some (
            let x := putRow t i d' e
            if t = .site ∧ x.site.fNom = none then
              { x with breakers := x.breakers.map fun y => { y with bfUpdates := none }
                       elemsA := x.elemsA.map fun y => { y with delayUpd := none }
                       elemsB := x.elemsB.map fun y => { y with delayUpd := none } }
            else x) }) ∧
      (listsOk = false ∨ rowStructure d' = false →
        exec .writeRow s = .next (settleQueue (refuse r .badValue s')))) ∧
    (s.inConfig = false →
      let d' := convertRow s.site.fNom (clampRow d)
      (group = none → exec .writeRow s = .next (settleQueue (refuse r .wrongState s'))) ∧
      ∀ g, group = some g →
        (s.prot.pendingGroup ≠ none ∨ s.prot.active = g →
          exec .writeRow s = .next (settleQueue (refuse r .activeGroup s'))) ∧
        (s.prot.pendingGroup = none → s.prot.active ≠ g →
          (listsOk = true → rowStructure d' = true → serviceElementOk s.tbl d' = true →
            ∃ u, exec .writeRow s =
                .next (settleQueue (requestWrite ⟨r.src, r.tag, r.kind, decide (clampRow d ≠ d)⟩ u)) ∧
              u = { s' with mgmt := u.mgmt } ∧ (s.mgmt.image.isSome = true → u.tbl = putRow t i d' s.tbl)) ∧
          (listsOk = false ∨ rowStructure d' = false ∨ serviceElementOk s.tbl d' = false →
            exec .writeRow s = .next (settleQueue (refuse r .badValue s')))))

/-- R15, R16, R54 to R58, R82, R83, R109, R139, R140, R172, R178, R179, R182: each numeric field of a row is brought to the nearer
limit of its range; delays and BF times are converted to updates; the structural tests at writing; the element checks; and the
checks of COMMIT: the first fault in the order of the tables, and of the rows within one, is the one named. The model's: a curve
number, a trip slot and a line number count as enumerated values (log 60), and the want of an OPERATE row is found after the
rows of MANAGERS (log 97). -/
def Obligations.TableChecks : Prop :=
  (∀ r : SiteRow, clampRow (.site r) = .site { r with
    vn := r.vn.map (nearer 1000 25000), station := r.station.map (nearer 1 65534)
    noticeDest := r.noticeDest.map (nearer 1 65535), qDead := nearer 1 255 r.qDead, qIndet := nearer 1 255 r.qIndet
    qLive := nearer 1 255 r.qLive, qHealthy := nearer 1 255 r.qHealthy, deadPct := nearer 5 40 r.deadPct
    livePct := nearer 30 90 r.livePct, healthyLo := nearer 80 99 r.healthyLo, healthyHi := nearer 101 120 r.healthyHi
    freqHalf := nearer 100 3000 r.freqHalf, stopDelay := nearer 10 3600 r.stopDelay }) ∧
  (∀ r : ManagerRow, clampRow (.manager r) = .manager { r with station := nearer 1 65534 r.station }) ∧
  (∀ r : SubRow, clampRow (.sub r) = .sub
    { r with station := nearer 1 65534 r.station, stream := nearer 0 3 r.stream, count := nearer 1 8 r.count }) ∧
  (∀ r : ChanRow, clampRow (.chan r) = .chan
    { r with scale := nearer 1 65535 r.scale, divLimit := nearer 1 32767 r.divLimit }) ∧
  (∀ r : BreakerRow, clampRow (.breaker r) = .breaker { r with
    station := nearer 1 65534 r.station, openLimit := nearer 20 1000 r.openLimit
    closeLimit := nearer 20 1000 r.closeLimit, closingTime := nearer 20 500 r.closingTime
    bfThreshold := nearer 1 65535 r.bfThreshold, bfTime := nearer 20 1000 r.bfTime
    emuOpen := nearer 10 1000 r.emuOpen, emuClose := nearer 10 1000 r.emuClose }) ∧
  (∀ r : CurveRow, clampRow (.curve r) = .curve
    { points := r.points.map fun p => (nearer 16 640 p.1, nearer 1 1000000 p.2)
      resetRate := nearer 1 1000000 r.resetRate }) ∧
  (∀ r : ElementRow, clampRow (.element r) = .element { r with
    pickup := (match r.kind with
      | .toc | .ioc | .uv | .ov => nearer 1 65535 r.pickup
      | .uf | .ovf => nearer 40000 70000 r.pickup
      | .rp => nearer 1 2000000 r.pickup)
    td := nearer 5 1500 r.td, delayMs := nearer 0 60000 r.delayMs }) ∧
  (∀ r : SchemeRow, clampRow (.scheme r) = .scheme { r with
    lossQualify := nearer 100 10000 r.lossQualify, residualPct := nearer 5 50 r.residualPct
    deadLimit := nearer 200 10000 r.deadLimit, retransferDelay := nearer 10 1800 r.retransferDelay
    restoreDelay := nearer 1 600 r.restoreDelay, maxParallel := nearer 20 500 r.maxParallel
    softLimit := nearer 10 600 r.softLimit, softRamp := nearer 1 20 r.softRamp
    softThreshold := nearer 1 20 r.softThreshold }) ∧
  (∀ r : GenRow, clampRow (.gen r) = .gen { r with
    station := nearer 1 65534 r.station, rating := nearer 100 10000 r.rating, priority := nearer 1 8 r.priority }) ∧
  (∀ r : ParRow, clampRow (.par r) = .par
    { voltWinPct := nearer 1 20 r.voltWinPct, slipLimit := nearer 10 1000 r.slipLimit
      angleWin := nearer 100 3000 r.angleWin, syncWait := nearer 5 300 r.syncWait
      gain := nearer 1 1000 r.gain, stepLimit := nearer 1 50 r.stepLimit }) ∧
  (∀ (f : Option Nat) (d : RowData), convertRow f d = match d with
    | .breaker r => .breaker { r with bfUpdates := f.map fun hz => (r.bfTime * hz * 4 + 999) / 1000 }
    | .element r => .element { r with delayUpd := f.map fun hz => (r.delayMs * hz * 4 + 999) / 1000 }
    | d => d) ∧
  (∀ d : RowData, rowStructure d = true ↔ WellStructured d) ∧
  (∀ (t : Tables) (r : ElementRow), elementOk t r = true ↔ ElementOk t r) ∧
  (∀ (t : Tables) (d : RowData),
    serviceElementOk t d = true ↔ ∀ r, d = .element r → r.enabled = true → ElementOk t r) ∧
  (∀ t : Tables, commitCheck t = none ↔ ∀ id i, ¬CommitFault t id i) ∧
  ∀ (t : Tables) (id : TableId) (i : Nat), commitCheck t = some (id, i) ↔
    CommitFault t id i ∧ ∀ other j, CommitFault t other j →
      commitPlace id < commitPlace other ∨ (id = other ∧ i ≤ j)

/-- R80, R108, R138, R161, R181: ENTER_CONFIG. From SERVICE the edit set is the tables in force, both sequencers are PARKED,
every close has left service, the grant and the unload are released and the runtime slots are cleared; from UNCONFIGURED
the edit set is fresh; in CONFIG nothing changes. -/
def Obligations.ConfigEntered : Prop :=
  ∀ (r : Request) (rest : List Request) (s : State), s.Safe → Taken .enterConfig r rest s →
    let s' := setRequests rest s
    (s.inConfig = true → exec .enterConfig s = .next (settleQueue (answerDone r s'))) ∧
    (s.mgmt.part = .unconfigured →
      ∃ u, exec .enterConfig s = .next (settleQueue (answerDone r (finish u))) ∧ u.mgmt.part = .config false ∧
        u.mgmt.edit = some Tables.fresh ∧ u.nv = s.nv ∧ u.link.station = s.link.station) ∧
    (s.inService = true →
      ∃ u, exec .enterConfig s = .next (settleQueue (answerDone r (finish u))) ∧ u.mgmt.part = .config true ∧
        u.mgmt.edit = some s.tbl ∧ u.tbl = s.tbl ∧ u.mgmt.mode = s.mgmt.mode ∧
        (∀ q, (u.seq q).state = .parked ∧ (u.seq q).pendingPark = false) ∧ u.seqs.claim = none ∧
        (∀ n o, (u.slot n).order = some o → o.type = .opn) ∧ u.par.grant = none ∧ u.par.unload = none ∧
        (∀ x ∈ u.prot.slots, x.state = .idle) ∧ u.prot.pendingGroup = none ∧
        u.prot.active = s.prot.pendingGroup.getD s.prot.active ∧ u.intake = s.intake ∧ u.meas = s.meas ∧ u.nv = s.nv)

/-- R182, R183: COMMIT refuses with the first failing check, or brings the converted edit set into force and writes it;
DISCARD brings the stored image into force, after the write in progress has ended; with none in progress it reads at once
(log 42). What the checks of a COMMIT are is stated in TableChecks. -/
def Obligations.ImageBroughtIntoForce : Prop :=
  ∀ s : State,
    (∀ (r : Request) (rest : List Request), Taken .commit r rest s →
      let s' := setRequests rest s
      let e := s.mgmt.edit.getD s.tbl
      (∀ t i, commitCheck e = some (t, i) →
        exec .commit s = .next (settleQueue (answerTo r (.refused .badValue) (.failedCheck t i) s'))) ∧
      (commitCheck e = none →
        exec .commit s = .next (settleQueue (requestWrite ⟨r.src, r.tag, r.kind, false⟩
          (bringIntoForce ⟨convertTables e, s.prot.active⟩ true s'))))) ∧
    let stored := match takenImage s.nv with
      | some (_, im, _) => im
      | none => ⟨s.tbl, s.prot.active⟩
    let read := fun src tag v => answer src tag 10 .done .nothing (bringIntoForce stored (decide (stored.tables ≠ s.tbl))
      { v with mgmt := { v.mgmt with discard := none, fault := s.mgmt.fault || (takenImage s.nv).isNone } })
    (∀ (r : Request) (rest : List Request), Taken .discard r rest s →
      (s.mgmt.write = none → exec .discard s = .next (settleQueue (read r.src r.tag (setRequests rest s)))) ∧
      (s.mgmt.write ≠ none → ∃ t, exec .discard s = .next t ∧ t = { s with mgmt := t.mgmt } ∧
        t.mgmt = { s.mgmt with requests := rest, discard := some (r.src, r.tag) })) ∧
    (∀ x y, s.mgmt.discard = some (x, y) →
      (s.mgmt.write = none → exec .discardRead s = .next (settleQueue (read x y s))) ∧
      (s.mgmt.write ≠ none → exec .discardRead s = .next s)) ∧
    ∀ (im : Image) (clear : Bool),
      let u := bringIntoForce im clear s
      u.tbl = im.tables ∧ u.mgmt.edit = none ∧ u.mgmt.mode = .live ∧ u.inService = true ∧ u.mgmt.serviceAt = some s.now ∧
        u.link.station = some (im.tables.site.station.getD 65534) ∧ u.prot.active = im.group ∧
        u.prot.pendingGroup = none ∧ (∀ x ∈ u.prot.slots, x.state = .idle) ∧ u.seqs.inhibit = s.seqs.inhibit ∧
        (clear = true → u.intake = {}) ∧ (clear = false → u.intake = s.intake) ∧ u.mgmt.requests = s.mgmt.requests

/-- R76: SELECT_GROUP. In SERVICE the active group with nothing pending is answered at once; the active group withdraws a
pending selection, and the other group becomes the pending group, both with a write that holds it before the answer DONE;
the pending group named again leaves the selection as it is. In any other part state it is refused with WRONG_STATE. -/
def Obligations.GroupSelected : Prop :=
  ∀ (r : Request) (rest : List Request) (g : Group) (s : State), r.args = .group (some g) →
    let s' := setRequests rest s
    let held : HeldAnswer := ⟨r.src, r.tag, r.kind, false⟩
    let chosen := fun (x : Option Group) => requestWrite held { s' with prot := { s.prot with pendingGroup := x } }
    (Taken .selectGroup r rest s →
      (s.prot.active = g → s.prot.pendingGroup = none →
        exec .selectGroup s = .next (settleQueue (answerDone r s'))) ∧
      (s.prot.active = g → s.prot.pendingGroup ≠ none → exec .selectGroup s = .next (settleQueue (chosen none)) ∧
        (s.mgmt.write = none → ∃ w, (chosen none).mgmt.write = some w ∧ w.image.group = g ∧ held ∈ w.held)) ∧
      (s.prot.active ≠ g → s.prot.pendingGroup ≠ some g → exec .selectGroup s = .next (settleQueue (chosen (some g))) ∧
        (s.mgmt.write = none → ∃ w, (chosen (some g)).mgmt.write = some w ∧ w.image.group = g ∧ held ∈ w.held) ∧
        (∀ w, s.mgmt.write = some w → ∃ w', (chosen (some g)).mgmt.write = some w' ∧ w'.waiting = true ∧
          held ∈ w'.waitHeld)) ∧
      (s.prot.active ≠ g → s.prot.pendingGroup = some g →
        ∃ u, exec .selectGroup s = .next (settleQueue u) ∧ u.prot = s.prot)) ∧
    (s.mgmt.requests = r :: rest → r.kind = 11 → unitFree s = true → s.inService = false →
      (∃ x, managerRights s r.src = some x ∧ includesRight x .setting = true) →
      exec .selectGroup s = .next (settleQueue (refuse r .wrongState s')))

/-- R138, R187 to R191: SET_MODE, and the breaker emulator's move. The mode in force is answered at once; an order in service
or a transitional sequencer makes it BUSY; leaving LIVE drops every line; BLOCKED parks both sequencers with no pending park;
LOOP begins with the emulated positions equal to the real ones; leaving LOOP, for LIVE or for BLOCKED, drops the emulated positions, publishes
each real one that differs, and has each sequencer that is not PARKED apply derivation; a move that is due gives the emulated
position the ordered state. The model's choices: derivation leaves no alternate in use where R115 names none (log 63,
log 21), and on leaving LOOP SEQ1 derives before SEQ2 (log 82). -/
def Obligations.ModesAndEmulatedMoves : Prop :=
  (∀ (r : Request) (rest : List Request) (m : Mode) (s : State), s.Safe → Taken .setMode r rest s →
    r.args = .mode (some m) →
    let s' := setRequests rest s
    let busy := (∃ n, n < 25 ∧ (s.brk n).present = true ∧ (s.slot n).order ≠ none) ∨
      ∃ q, isStable (s.seq q).state = false
    (s.mgmt.mode = m → exec .setMode s = .next (settleQueue (answerDone r s'))) ∧
    (s.mgmt.mode ≠ m → busy → exec .setMode s = .next (settleQueue (refuse r .busy s'))) ∧
    (s.mgmt.mode ≠ m → ¬busy → ∃ u, exec .setMode s = .next (settleQueue (answerDone r u)) ∧ u.mgmt.mode = m ∧
      (m ≠ .live → ∀ n, (u.slot n).lineOn = none) ∧
      (m = .loop → ∀ n, n < 25 → (s.brk n).present = true → u.emuOf n = some { pos := (u.slot n).position }) ∧
      (m = .blocked → ∃ v, u = finish v ∧ ∀ q, (v.seq q).state = .parked ∧ (v.seq q).pendingPark = false) ∧
      (s.mgmt.mode = .live → m = .loop → u.seqs = s.seqs ∧ u.par = s.par) ∧
      (s.mgmt.mode = .blocked → m ≠ .loop → u.seqs = s.seqs ∧ u.par = s.par ∧ u.arb = s.arb ∧ u.link = s.link) ∧
      (s.mgmt.mode = .loop →
        ∃ v, (let w := finish (deriveUnparked .seq2 (finish (deriveUnparked .seq1 (finish v))))
            (m = .live → u = w) ∧
              (m = .blocked → u = finish (dropLines (enterParked .seq2 (enterParked .seq1 w))))) ∧ v.mgmt.mode = m ∧
          (∀ n, v.emuOf n = none) ∧ v.seqs = s.seqs ∧ v.par = s.par ∧ v.arb = s.arb ∧ v.link = s.link ∧
          ∀ n e, n < 25 → (s.brk n).present = true → s.emuOf n = some e → e.pos ≠ (s.slot n).position →
            .posChanged n e.pos (s.slot n).position ∈ v.mail) ∧
      u.inService = true ∧ u.nv = s.nv ∧ u.intake = s.intake)) ∧
  (∀ (q : SeqId) (w : State), ((w.seq q).state = .parked → deriveUnparked q w = w) ∧
    ((w.seq q).state ≠ .parked → Derived q w (deriveUnparked q w) ∧ onlySeq q w (deriveUnparked q w))) ∧
  ∀ (n due : Nat) (t : OrdType) (e : Emu) (s : State), s.Safe → s.mgmt.mode = .loop → s.mgmt.emu[n]? = some (some e) →
    e.move = some (t, due) →
    (due ≤ s.now → ∃ u, exec (.emulatedMoveDue n) s = .next (finish u) ∧ onlySlot n s u ∧ SameOutside s u ∧
      u.emuOf n = some { pos := orderedPos t } ∧ (u.slot n).position = (s.slot n).position ∧
      (e.pos ≠ orderedPos t → .posChanged n e.pos (orderedPos t) ∈ u.mail) ∧
      (∀ o, (s.slot n).order = some o → o.phase = .issued → o.type = t →
        (u.slot n).order = none ∧ (u.slot n).lastResult = some ⟨t, o.tag, o.causes, .done⟩)) ∧
    (s.now < due → exec (.emulatedMoveDue n) s = .next s)

/-- R14, R104, R180, R186: RESTART records its requester; the restart itself waits for the write in progress, and leaves the
banks and both copies of the lockout store, the station number and the retired one, and each port with its frame in
transmission and, in their order, the frames it forwards; at the end of LOADING the image of the valid bank with the higher
generation count comes into force, or the part is UNCONFIGURED. That the lockouts are restored at both moments is the model's
reading (log 49). -/
def Obligations.RestartAndLoading : Prop :=
  ∀ s : State, s.Safe →
    let restored := fun (t : State) => s.nv.storeWrite = none → ∀ g c one, takenCopy s.nv = some (g, c, one) →
      c.slots.length = 25 → lockoutsInForce t = c
    (∀ (r : Request) (rest : List Request), Taken .restart r rest s →
      ∃ t, exec .restart s = .next t ∧ t = { s with mgmt := t.mgmt } ∧
        t.mgmt = { s.mgmt with requests := rest, restart := some (r.src, r.tag) }) ∧
    (s.mgmt.restart ≠ none → s.mgmt.write ≠ none → exec .warmRestart s = .next s) ∧
    (s.mgmt.restart ≠ none → s.mgmt.write = none → s.mgmt.part ≠ .loading →
      ∃ t, exec .warmRestart s = .next t ∧ t.mgmt.part = .loading ∧ t.mgmt.requests = [] ∧ t.mgmt.mode = .live ∧
        t.mgmt.restart = s.mgmt.restart ∧ t.link.running = s.link.running ∧ t.link.station = s.link.station ∧
        t.link.retired = s.link.retired ∧ t.link.dup = [] ∧
        (∀ p,
          let forwarded := fun (l : List QFrame) => l.filter fun x => match x with
            | .fwd _ => true
            | .own _ => false
          portOf t.link p = { portOf s.link p with
            urgent := forwarded (portOf s.link p).urgent, stream := forwarded (portOf s.link p).stream
            bulk := forwarded (portOf s.link p).bulk }) ∧
        t.intake = {} ∧ t.meas = {} ∧ t.prot = {} ∧ t.par = {} ∧ (∀ x ∈ t.records.queue, x.complete = true) ∧
        t.records.pendingNotices = [] ∧ t.nv.bank0 = s.nv.bank0 ∧ t.nv.bank1 = s.nv.bank1 ∧
        t.nv.copy0 = s.nv.copy0 ∧ t.nv.copy1 = s.nv.copy1 ∧ restored t) ∧
    (s.link.running = true → s.mgmt.part = .loading →
      ∃ t, exec .loadingEnd s = .next (match s.mgmt.restart with
          | none => t
          | some (src, tag) => answer src tag 23 .done .nothing { t with mgmt := { t.mgmt with restart := none } }) ∧
        (takenImage s.nv = none → t.mgmt.part = .unconfigured ∧ t.mgmt.image = none ∧ t.link.station = some 65534 ∧
          restored t) ∧
        (∀ g im one, takenImage s.nv = some (g, im, one) → t.inService = true ∧ t.mgmt.image = some im ∧
          t.prot.active = im.group ∧ t.mgmt.serviceAt = some s.now ∧ t.mgmt.goodBank = some one ∧
          t.link.station = some (im.tables.site.station.getD 65534) ∧ ∃ v, t = finish v ∧ restored v))

/-! ## Non-volatile writes -/

/-- R104, R185: the ends of non-volatile writes. The bank written holds the image with its generation count when the
read-back check passes, and is not valid when it fails; the copy of the lockout store written holds the lockouts; the other
bank and copy stand; the settings memory fault follows the check; every held answer is given, in the order in which they came;
a change that waits is written next, to the bank that does not stand good or to the other copy; with no change waiting, a
restore that waited for the writes is made: the lockouts in force become those of the copy taken, and a change they undergo
is reported. -/
def Obligations.NonVolatileWritesEnd : Prop :=
  (∀ (ok : Bool) (w : Writing) (s : State), s.mgmt.write = some w →
    ∃ t, exec (.settingsWriteEnd ok) s = .next t ∧ t = { s with link := t.link, mgmt := t.mgmt, nv := t.nv } ∧
      (w.bank = false → t.nv.bank1 = s.nv.bank1 ∧ bankValid t.nv.bank0 = if ok then some (w.gen, w.image) else none) ∧
      (w.bank = true → t.nv.bank0 = s.nv.bank0 ∧ bankValid t.nv.bank1 = if ok then some (w.gen, w.image) else none) ∧
      t.nv.copy0 = s.nv.copy0 ∧ t.nv.copy1 = s.nv.copy1 ∧ t.mgmt.fault = !ok ∧
      t.mgmt.goodBank = (if ok then some w.bank else s.mgmt.goodBank) ∧
      t.link = (w.held.foldl (fun u a =>
        answer a.src a.tag a.kind (if a.clamped then .doneClamped else .done) .nothing u) s).link ∧
      (w.waiting = false → t.mgmt.write = none) ∧
      (w.waiting = true → ∃ x, t.mgmt.write = some x ∧ x.gen = s.mgmt.lastGen + 1 ∧ x.image = currentImage s ∧
        x.held = w.waitHeld ∧ t.mgmt.goodBank ≠ some x.bank)) ∧
  ∀ (x : LockoutSet) (s : State), s.nv.storeWrite = some x →
    ∃ t, exec .lockoutStoreWriteEnd s = .next t ∧
      (s.nv.nextCopy = false → t.nv.copy1 = s.nv.copy1 ∧ copyValid t.nv.copy0 = some (s.nv.storeGen + 1, x)) ∧
      (s.nv.nextCopy = true → t.nv.copy0 = s.nv.copy0 ∧ copyValid t.nv.copy1 = some (s.nv.storeGen + 1, x)) ∧
      t.nv.bank0 = s.nv.bank0 ∧ t.nv.bank1 = s.nv.bank1 ∧
      (s.nv.storeWaiting = true → t = { s with nv := t.nv } ∧ t.nv.storeWrite = some (lockoutsInForce s) ∧
        t.nv.storeWaiting = false ∧ t.nv.nextCopy = !s.nv.nextCopy) ∧
      (s.nv.storeWaiting = false → t.nv.storeWrite = none ∧ t.nv.storeWaiting = false ∧ t.nv.restoreWait = false) ∧
      (s.nv.storeWaiting = false → s.nv.restoreWait = false → t = { s with nv := t.nv }) ∧
      (s.nv.storeWaiting = false → s.nv.restoreWait = true → t = { s with arb := t.arb, nv := t.nv, records := t.records } ∧
        (∀ n, t.slot n = { s.slot n with lock := (t.slot n).lock }) ∧
        (s.arb.slots.length = 25 → ∃ g c one, takenCopy t.nv = some (g, c, one) ∧ t.nv.storeGen = g ∧ t.nv.nextCopy = !one ∧
          (∀ n, n < 25 → (t.slot n).lock = c.slots.getD n {}) ∧ ∀ b, t.busLock b = (match b with
            | .bus1 => c.bus1
            | .bus2 => c.bus2
            | .gbus => c.gbus)) ∧
        (lockoutsInForce t = lockoutsInForce s → t.records = s.records) ∧
        (lockoutsInForce t ≠ lockoutsInForce s → s.siteInForce = true → noticeEnabled s .lockout = true →
          .lockout ∈ t.records.pendingNotices))
end

