-- ==== Sys2Proof/Laws/Clock.lean ====
section
/-!
SUPPORT. What it means that a command is due: the lemmas a proof about the list of due commands cites.
-/

namespace Sys2Proof.Machine

/-- A command is in the list of one condition where that condition holds. -/
@[simp] theorem mem_ifDue {b : Bool} {c i : Instr} : c ∈ ifDue b i ↔ b = true ∧ c = i := by
  cases b <;> simp [ifDue]

/-- A timer has run out when it runs and its expiry time has come. -/
theorem timerDue_iff {s : State} {t : Option Nat} : timerDue s t = true ↔ ∃ d, t = some d ∧ d ≤ s.now := by
  cases t <;> simp [timerDue]

/-- The slots are those below 25. -/
theorem mem_allSlots {n : Nat} : n ∈ allSlots ↔ n < 25 := by simp [allSlots]

/-- The generators are those from 1 to 8. -/
theorem mem_allGens {k : Nat} : k ∈ allGens ↔ 1 ≤ k ∧ k ≤ 8 := by
  simp only [allGens, List.mem_cons, List.not_mem_nil, or_false]
  omega

end Sys2Proof.Machine
end

