-- ==== Sys2Proof/Laws/State.lean ====
section
/-!
SUPPORT. One lemma for each field of the state and each of its updates, so that no proof unfolds a record update.
-/

set_option Elab.async false

namespace Sys2Proof.Machine

/-! ## modLink -/

@[simp] theorem State.modLink_now (s : State) (f : Link → Link) : (s.modLink f).now = s.now := rfl
@[simp] theorem State.modLink_free (s : State) (f : Link → Link) : (s.modLink f).free = s.free := rfl
@[simp] theorem State.modLink_supply (s : State) (f : Link → Link) : (s.modLink f).supply = s.supply := rfl
@[simp] theorem State.modLink_link (s : State) (f : Link → Link) : (s.modLink f).link = f s.link := rfl
@[simp] theorem State.modLink_intake (s : State) (f : Link → Link) : (s.modLink f).intake = s.intake := rfl
@[simp] theorem State.modLink_meas (s : State) (f : Link → Link) : (s.modLink f).meas = s.meas := rfl
@[simp] theorem State.modLink_prot (s : State) (f : Link → Link) : (s.modLink f).prot = s.prot := rfl
@[simp] theorem State.modLink_arb (s : State) (f : Link → Link) : (s.modLink f).arb = s.arb := rfl
@[simp] theorem State.modLink_seqs (s : State) (f : Link → Link) : (s.modLink f).seqs = s.seqs := rfl
@[simp] theorem State.modLink_par (s : State) (f : Link → Link) : (s.modLink f).par = s.par := rfl
@[simp] theorem State.modLink_records (s : State) (f : Link → Link) : (s.modLink f).records = s.records := rfl
@[simp] theorem State.modLink_mgmt (s : State) (f : Link → Link) : (s.modLink f).mgmt = s.mgmt := rfl
@[simp] theorem State.modLink_nv (s : State) (f : Link → Link) : (s.modLink f).nv = s.nv := rfl
@[simp] theorem State.modLink_mail (s : State) (f : Link → Link) : (s.modLink f).mail = s.mail := rfl
@[simp] theorem State.modLink_pending (s : State) (f : Link → Link) : (s.modLink f).pending = s.pending := rfl
@[simp] theorem State.modLink_modLink (s : State) (f g : Link → Link) : (s.modLink f).modLink g = s.modLink (g ∘ f) := rfl

/-! ## modIntake -/

@[simp] theorem State.modIntake_now (s : State) (f : Intake → Intake) : (s.modIntake f).now = s.now := rfl
@[simp] theorem State.modIntake_free (s : State) (f : Intake → Intake) : (s.modIntake f).free = s.free := rfl
@[simp] theorem State.modIntake_supply (s : State) (f : Intake → Intake) : (s.modIntake f).supply = s.supply := rfl
@[simp] theorem State.modIntake_link (s : State) (f : Intake → Intake) : (s.modIntake f).link = s.link := rfl
@[simp] theorem State.modIntake_intake (s : State) (f : Intake → Intake) : (s.modIntake f).intake = f s.intake := rfl
@[simp] theorem State.modIntake_meas (s : State) (f : Intake → Intake) : (s.modIntake f).meas = s.meas := rfl
@[simp] theorem State.modIntake_prot (s : State) (f : Intake → Intake) : (s.modIntake f).prot = s.prot := rfl
@[simp] theorem State.modIntake_arb (s : State) (f : Intake → Intake) : (s.modIntake f).arb = s.arb := rfl
@[simp] theorem State.modIntake_seqs (s : State) (f : Intake → Intake) : (s.modIntake f).seqs = s.seqs := rfl
@[simp] theorem State.modIntake_par (s : State) (f : Intake → Intake) : (s.modIntake f).par = s.par := rfl
@[simp] theorem State.modIntake_records (s : State) (f : Intake → Intake) : (s.modIntake f).records = s.records := rfl
@[simp] theorem State.modIntake_mgmt (s : State) (f : Intake → Intake) : (s.modIntake f).mgmt = s.mgmt := rfl
@[simp] theorem State.modIntake_nv (s : State) (f : Intake → Intake) : (s.modIntake f).nv = s.nv := rfl
@[simp] theorem State.modIntake_mail (s : State) (f : Intake → Intake) : (s.modIntake f).mail = s.mail := rfl
@[simp] theorem State.modIntake_pending (s : State) (f : Intake → Intake) : (s.modIntake f).pending = s.pending := rfl
@[simp] theorem State.modIntake_modIntake (s : State) (f g : Intake → Intake) : (s.modIntake f).modIntake g = s.modIntake (g ∘ f) := rfl

/-! ## modMeas -/

@[simp] theorem State.modMeas_now (s : State) (f : Meas → Meas) : (s.modMeas f).now = s.now := rfl
@[simp] theorem State.modMeas_free (s : State) (f : Meas → Meas) : (s.modMeas f).free = s.free := rfl
@[simp] theorem State.modMeas_supply (s : State) (f : Meas → Meas) : (s.modMeas f).supply = s.supply := rfl
@[simp] theorem State.modMeas_link (s : State) (f : Meas → Meas) : (s.modMeas f).link = s.link := rfl
@[simp] theorem State.modMeas_intake (s : State) (f : Meas → Meas) : (s.modMeas f).intake = s.intake := rfl
@[simp] theorem State.modMeas_meas (s : State) (f : Meas → Meas) : (s.modMeas f).meas = f s.meas := rfl
@[simp] theorem State.modMeas_prot (s : State) (f : Meas → Meas) : (s.modMeas f).prot = s.prot := rfl
@[simp] theorem State.modMeas_arb (s : State) (f : Meas → Meas) : (s.modMeas f).arb = s.arb := rfl
@[simp] theorem State.modMeas_seqs (s : State) (f : Meas → Meas) : (s.modMeas f).seqs = s.seqs := rfl
@[simp] theorem State.modMeas_par (s : State) (f : Meas → Meas) : (s.modMeas f).par = s.par := rfl
@[simp] theorem State.modMeas_records (s : State) (f : Meas → Meas) : (s.modMeas f).records = s.records := rfl
@[simp] theorem State.modMeas_mgmt (s : State) (f : Meas → Meas) : (s.modMeas f).mgmt = s.mgmt := rfl
@[simp] theorem State.modMeas_nv (s : State) (f : Meas → Meas) : (s.modMeas f).nv = s.nv := rfl
@[simp] theorem State.modMeas_mail (s : State) (f : Meas → Meas) : (s.modMeas f).mail = s.mail := rfl
@[simp] theorem State.modMeas_pending (s : State) (f : Meas → Meas) : (s.modMeas f).pending = s.pending := rfl
@[simp] theorem State.modMeas_modMeas (s : State) (f g : Meas → Meas) : (s.modMeas f).modMeas g = s.modMeas (g ∘ f) := rfl

/-! ## modProt -/

@[simp] theorem State.modProt_now (s : State) (f : Prot → Prot) : (s.modProt f).now = s.now := rfl
@[simp] theorem State.modProt_free (s : State) (f : Prot → Prot) : (s.modProt f).free = s.free := rfl
@[simp] theorem State.modProt_supply (s : State) (f : Prot → Prot) : (s.modProt f).supply = s.supply := rfl
@[simp] theorem State.modProt_link (s : State) (f : Prot → Prot) : (s.modProt f).link = s.link := rfl
@[simp] theorem State.modProt_intake (s : State) (f : Prot → Prot) : (s.modProt f).intake = s.intake := rfl
@[simp] theorem State.modProt_meas (s : State) (f : Prot → Prot) : (s.modProt f).meas = s.meas := rfl
@[simp] theorem State.modProt_prot (s : State) (f : Prot → Prot) : (s.modProt f).prot = f s.prot := rfl
@[simp] theorem State.modProt_arb (s : State) (f : Prot → Prot) : (s.modProt f).arb = s.arb := rfl
@[simp] theorem State.modProt_seqs (s : State) (f : Prot → Prot) : (s.modProt f).seqs = s.seqs := rfl
@[simp] theorem State.modProt_par (s : State) (f : Prot → Prot) : (s.modProt f).par = s.par := rfl
@[simp] theorem State.modProt_records (s : State) (f : Prot → Prot) : (s.modProt f).records = s.records := rfl
@[simp] theorem State.modProt_mgmt (s : State) (f : Prot → Prot) : (s.modProt f).mgmt = s.mgmt := rfl
@[simp] theorem State.modProt_nv (s : State) (f : Prot → Prot) : (s.modProt f).nv = s.nv := rfl
@[simp] theorem State.modProt_mail (s : State) (f : Prot → Prot) : (s.modProt f).mail = s.mail := rfl
@[simp] theorem State.modProt_pending (s : State) (f : Prot → Prot) : (s.modProt f).pending = s.pending := rfl
@[simp] theorem State.modProt_modProt (s : State) (f g : Prot → Prot) : (s.modProt f).modProt g = s.modProt (g ∘ f) := rfl

/-! ## modArb -/

@[simp] theorem State.modArb_now (s : State) (f : Arb → Arb) : (s.modArb f).now = s.now := rfl
@[simp] theorem State.modArb_free (s : State) (f : Arb → Arb) : (s.modArb f).free = s.free := rfl
@[simp] theorem State.modArb_supply (s : State) (f : Arb → Arb) : (s.modArb f).supply = s.supply := rfl
@[simp] theorem State.modArb_link (s : State) (f : Arb → Arb) : (s.modArb f).link = s.link := rfl
@[simp] theorem State.modArb_intake (s : State) (f : Arb → Arb) : (s.modArb f).intake = s.intake := rfl
@[simp] theorem State.modArb_meas (s : State) (f : Arb → Arb) : (s.modArb f).meas = s.meas := rfl
@[simp] theorem State.modArb_prot (s : State) (f : Arb → Arb) : (s.modArb f).prot = s.prot := rfl
@[simp] theorem State.modArb_arb (s : State) (f : Arb → Arb) : (s.modArb f).arb = f s.arb := rfl
@[simp] theorem State.modArb_seqs (s : State) (f : Arb → Arb) : (s.modArb f).seqs = s.seqs := rfl
@[simp] theorem State.modArb_par (s : State) (f : Arb → Arb) : (s.modArb f).par = s.par := rfl
@[simp] theorem State.modArb_records (s : State) (f : Arb → Arb) : (s.modArb f).records = s.records := rfl
@[simp] theorem State.modArb_mgmt (s : State) (f : Arb → Arb) : (s.modArb f).mgmt = s.mgmt := rfl
@[simp] theorem State.modArb_nv (s : State) (f : Arb → Arb) : (s.modArb f).nv = s.nv := rfl
@[simp] theorem State.modArb_mail (s : State) (f : Arb → Arb) : (s.modArb f).mail = s.mail := rfl
@[simp] theorem State.modArb_pending (s : State) (f : Arb → Arb) : (s.modArb f).pending = s.pending := rfl
@[simp] theorem State.modArb_modArb (s : State) (f g : Arb → Arb) : (s.modArb f).modArb g = s.modArb (g ∘ f) := rfl

/-! ## modSeqs -/

@[simp] theorem State.modSeqs_now (s : State) (f : Seqs → Seqs) : (s.modSeqs f).now = s.now := rfl
@[simp] theorem State.modSeqs_free (s : State) (f : Seqs → Seqs) : (s.modSeqs f).free = s.free := rfl
@[simp] theorem State.modSeqs_supply (s : State) (f : Seqs → Seqs) : (s.modSeqs f).supply = s.supply := rfl
@[simp] theorem State.modSeqs_link (s : State) (f : Seqs → Seqs) : (s.modSeqs f).link = s.link := rfl
@[simp] theorem State.modSeqs_intake (s : State) (f : Seqs → Seqs) : (s.modSeqs f).intake = s.intake := rfl
@[simp] theorem State.modSeqs_meas (s : State) (f : Seqs → Seqs) : (s.modSeqs f).meas = s.meas := rfl
@[simp] theorem State.modSeqs_prot (s : State) (f : Seqs → Seqs) : (s.modSeqs f).prot = s.prot := rfl
@[simp] theorem State.modSeqs_arb (s : State) (f : Seqs → Seqs) : (s.modSeqs f).arb = s.arb := rfl
@[simp] theorem State.modSeqs_seqs (s : State) (f : Seqs → Seqs) : (s.modSeqs f).seqs = f s.seqs := rfl
@[simp] theorem State.modSeqs_par (s : State) (f : Seqs → Seqs) : (s.modSeqs f).par = s.par := rfl
@[simp] theorem State.modSeqs_records (s : State) (f : Seqs → Seqs) : (s.modSeqs f).records = s.records := rfl
@[simp] theorem State.modSeqs_mgmt (s : State) (f : Seqs → Seqs) : (s.modSeqs f).mgmt = s.mgmt := rfl
@[simp] theorem State.modSeqs_nv (s : State) (f : Seqs → Seqs) : (s.modSeqs f).nv = s.nv := rfl
@[simp] theorem State.modSeqs_mail (s : State) (f : Seqs → Seqs) : (s.modSeqs f).mail = s.mail := rfl
@[simp] theorem State.modSeqs_pending (s : State) (f : Seqs → Seqs) : (s.modSeqs f).pending = s.pending := rfl
@[simp] theorem State.modSeqs_modSeqs (s : State) (f g : Seqs → Seqs) : (s.modSeqs f).modSeqs g = s.modSeqs (g ∘ f) := rfl

/-! ## modPar -/

@[simp] theorem State.modPar_now (s : State) (f : Par → Par) : (s.modPar f).now = s.now := rfl
@[simp] theorem State.modPar_free (s : State) (f : Par → Par) : (s.modPar f).free = s.free := rfl
@[simp] theorem State.modPar_supply (s : State) (f : Par → Par) : (s.modPar f).supply = s.supply := rfl
@[simp] theorem State.modPar_link (s : State) (f : Par → Par) : (s.modPar f).link = s.link := rfl
@[simp] theorem State.modPar_intake (s : State) (f : Par → Par) : (s.modPar f).intake = s.intake := rfl
@[simp] theorem State.modPar_meas (s : State) (f : Par → Par) : (s.modPar f).meas = s.meas := rfl
@[simp] theorem State.modPar_prot (s : State) (f : Par → Par) : (s.modPar f).prot = s.prot := rfl
@[simp] theorem State.modPar_arb (s : State) (f : Par → Par) : (s.modPar f).arb = s.arb := rfl
@[simp] theorem State.modPar_seqs (s : State) (f : Par → Par) : (s.modPar f).seqs = s.seqs := rfl
@[simp] theorem State.modPar_par (s : State) (f : Par → Par) : (s.modPar f).par = f s.par := rfl
@[simp] theorem State.modPar_records (s : State) (f : Par → Par) : (s.modPar f).records = s.records := rfl
@[simp] theorem State.modPar_mgmt (s : State) (f : Par → Par) : (s.modPar f).mgmt = s.mgmt := rfl
@[simp] theorem State.modPar_nv (s : State) (f : Par → Par) : (s.modPar f).nv = s.nv := rfl
@[simp] theorem State.modPar_mail (s : State) (f : Par → Par) : (s.modPar f).mail = s.mail := rfl
@[simp] theorem State.modPar_pending (s : State) (f : Par → Par) : (s.modPar f).pending = s.pending := rfl
@[simp] theorem State.modPar_modPar (s : State) (f g : Par → Par) : (s.modPar f).modPar g = s.modPar (g ∘ f) := rfl

/-! ## modRecords -/

@[simp] theorem State.modRecords_now (s : State) (f : Rec → Rec) : (s.modRecords f).now = s.now := rfl
@[simp] theorem State.modRecords_free (s : State) (f : Rec → Rec) : (s.modRecords f).free = s.free := rfl
@[simp] theorem State.modRecords_supply (s : State) (f : Rec → Rec) : (s.modRecords f).supply = s.supply := rfl
@[simp] theorem State.modRecords_link (s : State) (f : Rec → Rec) : (s.modRecords f).link = s.link := rfl
@[simp] theorem State.modRecords_intake (s : State) (f : Rec → Rec) : (s.modRecords f).intake = s.intake := rfl
@[simp] theorem State.modRecords_meas (s : State) (f : Rec → Rec) : (s.modRecords f).meas = s.meas := rfl
@[simp] theorem State.modRecords_prot (s : State) (f : Rec → Rec) : (s.modRecords f).prot = s.prot := rfl
@[simp] theorem State.modRecords_arb (s : State) (f : Rec → Rec) : (s.modRecords f).arb = s.arb := rfl
@[simp] theorem State.modRecords_seqs (s : State) (f : Rec → Rec) : (s.modRecords f).seqs = s.seqs := rfl
@[simp] theorem State.modRecords_par (s : State) (f : Rec → Rec) : (s.modRecords f).par = s.par := rfl
@[simp] theorem State.modRecords_records (s : State) (f : Rec → Rec) : (s.modRecords f).records = f s.records := rfl
@[simp] theorem State.modRecords_mgmt (s : State) (f : Rec → Rec) : (s.modRecords f).mgmt = s.mgmt := rfl
@[simp] theorem State.modRecords_nv (s : State) (f : Rec → Rec) : (s.modRecords f).nv = s.nv := rfl
@[simp] theorem State.modRecords_mail (s : State) (f : Rec → Rec) : (s.modRecords f).mail = s.mail := rfl
@[simp] theorem State.modRecords_pending (s : State) (f : Rec → Rec) : (s.modRecords f).pending = s.pending := rfl
@[simp] theorem State.modRecords_modRecords (s : State) (f g : Rec → Rec) : (s.modRecords f).modRecords g = s.modRecords (g ∘ f) := rfl

/-! ## modMgmt -/

@[simp] theorem State.modMgmt_now (s : State) (f : Mgmt → Mgmt) : (s.modMgmt f).now = s.now := rfl
@[simp] theorem State.modMgmt_free (s : State) (f : Mgmt → Mgmt) : (s.modMgmt f).free = s.free := rfl
@[simp] theorem State.modMgmt_supply (s : State) (f : Mgmt → Mgmt) : (s.modMgmt f).supply = s.supply := rfl
@[simp] theorem State.modMgmt_link (s : State) (f : Mgmt → Mgmt) : (s.modMgmt f).link = s.link := rfl
@[simp] theorem State.modMgmt_intake (s : State) (f : Mgmt → Mgmt) : (s.modMgmt f).intake = s.intake := rfl
@[simp] theorem State.modMgmt_meas (s : State) (f : Mgmt → Mgmt) : (s.modMgmt f).meas = s.meas := rfl
@[simp] theorem State.modMgmt_prot (s : State) (f : Mgmt → Mgmt) : (s.modMgmt f).prot = s.prot := rfl
@[simp] theorem State.modMgmt_arb (s : State) (f : Mgmt → Mgmt) : (s.modMgmt f).arb = s.arb := rfl
@[simp] theorem State.modMgmt_seqs (s : State) (f : Mgmt → Mgmt) : (s.modMgmt f).seqs = s.seqs := rfl
@[simp] theorem State.modMgmt_par (s : State) (f : Mgmt → Mgmt) : (s.modMgmt f).par = s.par := rfl
@[simp] theorem State.modMgmt_records (s : State) (f : Mgmt → Mgmt) : (s.modMgmt f).records = s.records := rfl
@[simp] theorem State.modMgmt_mgmt (s : State) (f : Mgmt → Mgmt) : (s.modMgmt f).mgmt = f s.mgmt := rfl
@[simp] theorem State.modMgmt_nv (s : State) (f : Mgmt → Mgmt) : (s.modMgmt f).nv = s.nv := rfl
@[simp] theorem State.modMgmt_mail (s : State) (f : Mgmt → Mgmt) : (s.modMgmt f).mail = s.mail := rfl
@[simp] theorem State.modMgmt_pending (s : State) (f : Mgmt → Mgmt) : (s.modMgmt f).pending = s.pending := rfl
@[simp] theorem State.modMgmt_modMgmt (s : State) (f g : Mgmt → Mgmt) : (s.modMgmt f).modMgmt g = s.modMgmt (g ∘ f) := rfl

/-! ## modNv -/

@[simp] theorem State.modNv_now (s : State) (f : NonVol → NonVol) : (s.modNv f).now = s.now := rfl
@[simp] theorem State.modNv_free (s : State) (f : NonVol → NonVol) : (s.modNv f).free = s.free := rfl
@[simp] theorem State.modNv_supply (s : State) (f : NonVol → NonVol) : (s.modNv f).supply = s.supply := rfl
@[simp] theorem State.modNv_link (s : State) (f : NonVol → NonVol) : (s.modNv f).link = s.link := rfl
@[simp] theorem State.modNv_intake (s : State) (f : NonVol → NonVol) : (s.modNv f).intake = s.intake := rfl
@[simp] theorem State.modNv_meas (s : State) (f : NonVol → NonVol) : (s.modNv f).meas = s.meas := rfl
@[simp] theorem State.modNv_prot (s : State) (f : NonVol → NonVol) : (s.modNv f).prot = s.prot := rfl
@[simp] theorem State.modNv_arb (s : State) (f : NonVol → NonVol) : (s.modNv f).arb = s.arb := rfl
@[simp] theorem State.modNv_seqs (s : State) (f : NonVol → NonVol) : (s.modNv f).seqs = s.seqs := rfl
@[simp] theorem State.modNv_par (s : State) (f : NonVol → NonVol) : (s.modNv f).par = s.par := rfl
@[simp] theorem State.modNv_records (s : State) (f : NonVol → NonVol) : (s.modNv f).records = s.records := rfl
@[simp] theorem State.modNv_mgmt (s : State) (f : NonVol → NonVol) : (s.modNv f).mgmt = s.mgmt := rfl
@[simp] theorem State.modNv_nv (s : State) (f : NonVol → NonVol) : (s.modNv f).nv = f s.nv := rfl
@[simp] theorem State.modNv_mail (s : State) (f : NonVol → NonVol) : (s.modNv f).mail = s.mail := rfl
@[simp] theorem State.modNv_pending (s : State) (f : NonVol → NonVol) : (s.modNv f).pending = s.pending := rfl
@[simp] theorem State.modNv_modNv (s : State) (f g : NonVol → NonVol) : (s.modNv f).modNv g = s.modNv (g ∘ f) := rfl

/-! ## post and useFree -/

@[simp] theorem State.post_now (s : State) (m : Msg) : (s.post m).now = s.now := rfl
@[simp] theorem State.post_free (s : State) (m : Msg) : (s.post m).free = s.free := rfl
@[simp] theorem State.post_supply (s : State) (m : Msg) : (s.post m).supply = s.supply := rfl
@[simp] theorem State.post_link (s : State) (m : Msg) : (s.post m).link = s.link := rfl
@[simp] theorem State.post_intake (s : State) (m : Msg) : (s.post m).intake = s.intake := rfl
@[simp] theorem State.post_meas (s : State) (m : Msg) : (s.post m).meas = s.meas := rfl
@[simp] theorem State.post_prot (s : State) (m : Msg) : (s.post m).prot = s.prot := rfl
@[simp] theorem State.post_arb (s : State) (m : Msg) : (s.post m).arb = s.arb := rfl
@[simp] theorem State.post_seqs (s : State) (m : Msg) : (s.post m).seqs = s.seqs := rfl
@[simp] theorem State.post_par (s : State) (m : Msg) : (s.post m).par = s.par := rfl
@[simp] theorem State.post_records (s : State) (m : Msg) : (s.post m).records = s.records := rfl
@[simp] theorem State.post_mgmt (s : State) (m : Msg) : (s.post m).mgmt = s.mgmt := rfl
@[simp] theorem State.post_nv (s : State) (m : Msg) : (s.post m).nv = s.nv := rfl
@[simp] theorem State.post_mail (s : State) (m : Msg) : (s.post m).mail = s.mail ++ [m] := rfl
@[simp] theorem State.post_pending (s : State) (m : Msg) : (s.post m).pending = s.pending := rfl
@[simp] theorem State.useFree_now (s : State) : s.useFree.now = s.now := rfl
@[simp] theorem State.useFree_free (s : State) : s.useFree.free = s.free + 1 := rfl
@[simp] theorem State.useFree_supply (s : State) : s.useFree.supply = s.supply := rfl
@[simp] theorem State.useFree_link (s : State) : s.useFree.link = s.link := rfl
@[simp] theorem State.useFree_intake (s : State) : s.useFree.intake = s.intake := rfl
@[simp] theorem State.useFree_meas (s : State) : s.useFree.meas = s.meas := rfl
@[simp] theorem State.useFree_prot (s : State) : s.useFree.prot = s.prot := rfl
@[simp] theorem State.useFree_arb (s : State) : s.useFree.arb = s.arb := rfl
@[simp] theorem State.useFree_seqs (s : State) : s.useFree.seqs = s.seqs := rfl
@[simp] theorem State.useFree_par (s : State) : s.useFree.par = s.par := rfl
@[simp] theorem State.useFree_records (s : State) : s.useFree.records = s.records := rfl
@[simp] theorem State.useFree_mgmt (s : State) : s.useFree.mgmt = s.mgmt := rfl
@[simp] theorem State.useFree_nv (s : State) : s.useFree.nv = s.nv := rfl
@[simp] theorem State.useFree_mail (s : State) : s.useFree.mail = s.mail := rfl
@[simp] theorem State.useFree_pending (s : State) : s.useFree.pending = s.pending := rfl

/-! ## Slots -/

@[simp] theorem State.modSlot_now (s : State) (n : Nat) (f : ArbSlot → ArbSlot) : (s.modSlot n f).now = s.now := rfl
@[simp] theorem State.modSlot_free (s : State) (n : Nat) (f : ArbSlot → ArbSlot) : (s.modSlot n f).free = s.free := rfl
@[simp] theorem State.modSlot_supply (s : State) (n : Nat) (f : ArbSlot → ArbSlot) : (s.modSlot n f).supply = s.supply := rfl
@[simp] theorem State.modSlot_link (s : State) (n : Nat) (f : ArbSlot → ArbSlot) : (s.modSlot n f).link = s.link := rfl
@[simp] theorem State.modSlot_intake (s : State) (n : Nat) (f : ArbSlot → ArbSlot) : (s.modSlot n f).intake = s.intake := rfl
@[simp] theorem State.modSlot_meas (s : State) (n : Nat) (f : ArbSlot → ArbSlot) : (s.modSlot n f).meas = s.meas := rfl
@[simp] theorem State.modSlot_prot (s : State) (n : Nat) (f : ArbSlot → ArbSlot) : (s.modSlot n f).prot = s.prot := rfl
@[simp] theorem State.modSlot_seqs (s : State) (n : Nat) (f : ArbSlot → ArbSlot) : (s.modSlot n f).seqs = s.seqs := rfl
@[simp] theorem State.modSlot_par (s : State) (n : Nat) (f : ArbSlot → ArbSlot) : (s.modSlot n f).par = s.par := rfl
@[simp] theorem State.modSlot_records (s : State) (n : Nat) (f : ArbSlot → ArbSlot) : (s.modSlot n f).records = s.records := rfl
@[simp] theorem State.modSlot_mgmt (s : State) (n : Nat) (f : ArbSlot → ArbSlot) : (s.modSlot n f).mgmt = s.mgmt := rfl
@[simp] theorem State.modSlot_nv (s : State) (n : Nat) (f : ArbSlot → ArbSlot) : (s.modSlot n f).nv = s.nv := rfl
@[simp] theorem State.modSlot_mail (s : State) (n : Nat) (f : ArbSlot → ArbSlot) : (s.modSlot n f).mail = s.mail := rfl
@[simp] theorem State.modSlot_pending (s : State) (n : Nat) (f : ArbSlot → ArbSlot) : (s.modSlot n f).pending = s.pending := rfl
@[simp] theorem State.modSlot_bus1 (s : State) (n : Nat) (f : ArbSlot → ArbSlot) : (s.modSlot n f).arb.bus1 = s.arb.bus1 := rfl
@[simp] theorem State.modSlot_bus2 (s : State) (n : Nat) (f : ArbSlot → ArbSlot) : (s.modSlot n f).arb.bus2 = s.arb.bus2 := rfl
@[simp] theorem State.modSlot_gbus (s : State) (n : Nat) (f : ArbSlot → ArbSlot) : (s.modSlot n f).arb.gbus = s.arb.gbus := rfl
@[simp] theorem State.modSlot_slots (s : State) (n : Nat) (f : ArbSlot → ArbSlot) :
    (s.modSlot n f).arb.slots = modAt s.arb.slots n f := rfl
@[simp] theorem State.modRt_now (s : State) (i : Nat) (f : RtSlot → RtSlot) : (s.modRt i f).now = s.now := rfl
@[simp] theorem State.modRt_free (s : State) (i : Nat) (f : RtSlot → RtSlot) : (s.modRt i f).free = s.free := rfl
@[simp] theorem State.modRt_supply (s : State) (i : Nat) (f : RtSlot → RtSlot) : (s.modRt i f).supply = s.supply := rfl
@[simp] theorem State.modRt_link (s : State) (i : Nat) (f : RtSlot → RtSlot) : (s.modRt i f).link = s.link := rfl
@[simp] theorem State.modRt_intake (s : State) (i : Nat) (f : RtSlot → RtSlot) : (s.modRt i f).intake = s.intake := rfl
@[simp] theorem State.modRt_meas (s : State) (i : Nat) (f : RtSlot → RtSlot) : (s.modRt i f).meas = s.meas := rfl
@[simp] theorem State.modRt_arb (s : State) (i : Nat) (f : RtSlot → RtSlot) : (s.modRt i f).arb = s.arb := rfl
@[simp] theorem State.modRt_seqs (s : State) (i : Nat) (f : RtSlot → RtSlot) : (s.modRt i f).seqs = s.seqs := rfl
@[simp] theorem State.modRt_par (s : State) (i : Nat) (f : RtSlot → RtSlot) : (s.modRt i f).par = s.par := rfl
@[simp] theorem State.modRt_records (s : State) (i : Nat) (f : RtSlot → RtSlot) : (s.modRt i f).records = s.records := rfl
@[simp] theorem State.modRt_mgmt (s : State) (i : Nat) (f : RtSlot → RtSlot) : (s.modRt i f).mgmt = s.mgmt := rfl
@[simp] theorem State.modRt_nv (s : State) (i : Nat) (f : RtSlot → RtSlot) : (s.modRt i f).nv = s.nv := rfl
@[simp] theorem State.modRt_mail (s : State) (i : Nat) (f : RtSlot → RtSlot) : (s.modRt i f).mail = s.mail := rfl
@[simp] theorem State.modRt_pending (s : State) (i : Nat) (f : RtSlot → RtSlot) : (s.modRt i f).pending = s.pending := rfl

/-! ## Generators, sequencers and bus lockouts -/

@[simp] theorem State.modGen_now (s : State) (k : Nat) (f : Gen → Gen) : (s.modGen k f).now = s.now := by
  unfold State.modGen; split <;> rfl
@[simp] theorem State.modGen_free (s : State) (k : Nat) (f : Gen → Gen) : (s.modGen k f).free = s.free := by
  unfold State.modGen; split <;> rfl
@[simp] theorem State.modGen_supply (s : State) (k : Nat) (f : Gen → Gen) : (s.modGen k f).supply = s.supply := by
  unfold State.modGen; split <;> rfl
@[simp] theorem State.modGen_link (s : State) (k : Nat) (f : Gen → Gen) : (s.modGen k f).link = s.link := by
  unfold State.modGen; split <;> rfl
@[simp] theorem State.modGen_intake (s : State) (k : Nat) (f : Gen → Gen) : (s.modGen k f).intake = s.intake := by
  unfold State.modGen; split <;> rfl
@[simp] theorem State.modGen_meas (s : State) (k : Nat) (f : Gen → Gen) : (s.modGen k f).meas = s.meas := by
  unfold State.modGen; split <;> rfl
@[simp] theorem State.modGen_prot (s : State) (k : Nat) (f : Gen → Gen) : (s.modGen k f).prot = s.prot := by
  unfold State.modGen; split <;> rfl
@[simp] theorem State.modGen_arb (s : State) (k : Nat) (f : Gen → Gen) : (s.modGen k f).arb = s.arb := by
  unfold State.modGen; split <;> rfl
@[simp] theorem State.modGen_seqs (s : State) (k : Nat) (f : Gen → Gen) : (s.modGen k f).seqs = s.seqs := by
  unfold State.modGen; split <;> rfl
@[simp] theorem State.modGen_records (s : State) (k : Nat) (f : Gen → Gen) : (s.modGen k f).records = s.records := by
  unfold State.modGen; split <;> rfl
@[simp] theorem State.modGen_mgmt (s : State) (k : Nat) (f : Gen → Gen) : (s.modGen k f).mgmt = s.mgmt := by
  unfold State.modGen; split <;> rfl
@[simp] theorem State.modGen_nv (s : State) (k : Nat) (f : Gen → Gen) : (s.modGen k f).nv = s.nv := by
  unfold State.modGen; split <;> rfl
@[simp] theorem State.modGen_mail (s : State) (k : Nat) (f : Gen → Gen) : (s.modGen k f).mail = s.mail := by
  unfold State.modGen; split <;> rfl
@[simp] theorem State.modGen_pending (s : State) (k : Nat) (f : Gen → Gen) : (s.modGen k f).pending = s.pending := by
  unfold State.modGen; split <;> rfl
@[simp] theorem State.modSeq_now (s : State) (q : SeqId) (f : Seq → Seq) : (s.modSeq q f).now = s.now := by
  cases q <;> rfl
@[simp] theorem State.modSeq_free (s : State) (q : SeqId) (f : Seq → Seq) : (s.modSeq q f).free = s.free := by
  cases q <;> rfl
@[simp] theorem State.modSeq_supply (s : State) (q : SeqId) (f : Seq → Seq) : (s.modSeq q f).supply = s.supply := by
  cases q <;> rfl
@[simp] theorem State.modSeq_link (s : State) (q : SeqId) (f : Seq → Seq) : (s.modSeq q f).link = s.link := by
  cases q <;> rfl
@[simp] theorem State.modSeq_intake (s : State) (q : SeqId) (f : Seq → Seq) : (s.modSeq q f).intake = s.intake := by
  cases q <;> rfl
@[simp] theorem State.modSeq_meas (s : State) (q : SeqId) (f : Seq → Seq) : (s.modSeq q f).meas = s.meas := by
  cases q <;> rfl
@[simp] theorem State.modSeq_prot (s : State) (q : SeqId) (f : Seq → Seq) : (s.modSeq q f).prot = s.prot := by
  cases q <;> rfl
@[simp] theorem State.modSeq_arb (s : State) (q : SeqId) (f : Seq → Seq) : (s.modSeq q f).arb = s.arb := by
  cases q <;> rfl
@[simp] theorem State.modSeq_par (s : State) (q : SeqId) (f : Seq → Seq) : (s.modSeq q f).par = s.par := by
  cases q <;> rfl
@[simp] theorem State.modSeq_records (s : State) (q : SeqId) (f : Seq → Seq) : (s.modSeq q f).records = s.records := by
  cases q <;> rfl
@[simp] theorem State.modSeq_mgmt (s : State) (q : SeqId) (f : Seq → Seq) : (s.modSeq q f).mgmt = s.mgmt := by
  cases q <;> rfl
@[simp] theorem State.modSeq_nv (s : State) (q : SeqId) (f : Seq → Seq) : (s.modSeq q f).nv = s.nv := by
  cases q <;> rfl
@[simp] theorem State.modSeq_mail (s : State) (q : SeqId) (f : Seq → Seq) : (s.modSeq q f).mail = s.mail := by
  cases q <;> rfl
@[simp] theorem State.modSeq_pending (s : State) (q : SeqId) (f : Seq → Seq) : (s.modSeq q f).pending = s.pending := by
  cases q <;> rfl
@[simp] theorem State.modSeq_claim (s : State) (q : SeqId) (f : Seq → Seq) : (s.modSeq q f).seqs.claim = s.seqs.claim := by
  cases q <;> rfl
@[simp] theorem State.modSeq_inhibit (s : State) (q : SeqId) (f : Seq → Seq) : (s.modSeq q f).seqs.inhibit = s.seqs.inhibit := by
  cases q <;> rfl
@[simp] theorem State.setBusLock_now (s : State) (b : Bus) (l : Lockout) : (s.setBusLock b l).now = s.now := by
  cases b <;> rfl
@[simp] theorem State.setBusLock_free (s : State) (b : Bus) (l : Lockout) : (s.setBusLock b l).free = s.free := by
  cases b <;> rfl
@[simp] theorem State.setBusLock_supply (s : State) (b : Bus) (l : Lockout) : (s.setBusLock b l).supply = s.supply := by
  cases b <;> rfl
@[simp] theorem State.setBusLock_link (s : State) (b : Bus) (l : Lockout) : (s.setBusLock b l).link = s.link := by
  cases b <;> rfl
@[simp] theorem State.setBusLock_intake (s : State) (b : Bus) (l : Lockout) : (s.setBusLock b l).intake = s.intake := by
  cases b <;> rfl
@[simp] theorem State.setBusLock_meas (s : State) (b : Bus) (l : Lockout) : (s.setBusLock b l).meas = s.meas := by
  cases b <;> rfl
@[simp] theorem State.setBusLock_prot (s : State) (b : Bus) (l : Lockout) : (s.setBusLock b l).prot = s.prot := by
  cases b <;> rfl
@[simp] theorem State.setBusLock_seqs (s : State) (b : Bus) (l : Lockout) : (s.setBusLock b l).seqs = s.seqs := by
  cases b <;> rfl
@[simp] theorem State.setBusLock_par (s : State) (b : Bus) (l : Lockout) : (s.setBusLock b l).par = s.par := by
  cases b <;> rfl
@[simp] theorem State.setBusLock_records (s : State) (b : Bus) (l : Lockout) : (s.setBusLock b l).records = s.records := by
  cases b <;> rfl
@[simp] theorem State.setBusLock_mgmt (s : State) (b : Bus) (l : Lockout) : (s.setBusLock b l).mgmt = s.mgmt := by
  cases b <;> rfl
@[simp] theorem State.setBusLock_nv (s : State) (b : Bus) (l : Lockout) : (s.setBusLock b l).nv = s.nv := by
  cases b <;> rfl
@[simp] theorem State.setBusLock_mail (s : State) (b : Bus) (l : Lockout) : (s.setBusLock b l).mail = s.mail := by
  cases b <;> rfl
@[simp] theorem State.setBusLock_pending (s : State) (b : Bus) (l : Lockout) : (s.setBusLock b l).pending = s.pending := by
  cases b <;> rfl
@[simp] theorem State.setBusLock_slots (s : State) (b : Bus) (l : Lockout) : (s.setBusLock b l).arb.slots = s.arb.slots := by
  cases b <;> rfl

/-- A sequencer's record after an update of it. -/
@[simp] theorem State.modSeq_seq_same (s : State) (q : SeqId) (f : Seq → Seq) : (s.modSeq q f).seq q = f (s.seq q) := by
  cases q <;> rfl

/-- The other sequencer's record after an update. -/
@[simp] theorem State.modSeq_seq_other (s : State) (q : SeqId) (f : Seq → Seq) :
    (s.modSeq q f).seq (otherSeq q) = s.seq (otherSeq q) := by
  cases q <;> rfl

/-- A bus lockout after it was replaced. -/
@[simp] theorem State.setBusLock_busLock (s : State) (b : Bus) (l : Lockout) : (s.setBusLock b l).busLock b = l := by
  cases b <;> rfl

/-- The other bus lockouts after one was replaced. -/
theorem State.setBusLock_busLock_other (s : State) (b c : Bus) (l : Lockout) (h : c ≠ b) :
    (s.setBusLock b l).busLock c = s.busLock c := by
  cases b <;> cases c <;> first | rfl | exact absurd rfl h

end Sys2Proof.Machine
end

