-- ==== Sys2Proof/Laws/Lists.lean ====
section
/-!
SUPPORT. Replacing one entry of a list (`modAt`), and what it means for slots, runtime slots and generators.
-/

set_option Elab.async false

namespace Sys2Proof.Machine

@[simp] theorem modAt_length {α : Type} (l : List α) (i : Nat) (f : α → α) : (modAt l i f).length = l.length := by
  induction l generalizing i with
  | nil => rfl
  | cons x xs ih => cases i <;> simp [modAt, ih]

/-- The entry replaced. -/
theorem modAt_getD_same {α : Type} (l : List α) (i : Nat) (f : α → α) (d : α) (h : i < l.length) :
    (modAt l i f).getD i d = f (l.getD i d) := by
  induction l generalizing i with
  | nil => simp at h
  | cons x xs ih =>
    cases i with
    | zero => rfl
    | succ k => simpa [modAt] using ih k (by simpa using h)

/-- Every other entry. -/
theorem modAt_getD_other {α : Type} (l : List α) (i j : Nat) (f : α → α) (d : α) (h : j ≠ i) :
    (modAt l i f).getD j d = l.getD j d := by
  induction l generalizing i j with
  | nil => rfl
  | cons x xs ih =>
    cases i with
    | zero =>
      cases j with
      | zero => exact absurd rfl h
      | succ k => rfl
    | succ i =>
      cases j with
      | zero => rfl
      | succ j => simpa [modAt] using ih i j (by omega)

/-- An entry of a changed list is an entry of the list or the replacement of one. -/
theorem mem_modAt {α : Type} {l : List α} {i : Nat} {f : α → α} {x : α} (h : x ∈ modAt l i f) :
    x ∈ l ∨ ∃ y ∈ l, x = f y := by
  induction l generalizing i with
  | nil => exact absurd h (by simp [modAt])
  | cons a as ih =>
    cases i with
    | zero =>
      rcases List.mem_cons.1 h with h | h
      · exact .inr ⟨a, by simp, h⟩
      · exact .inl (by simp [h])
    | succ k =>
      rcases List.mem_cons.1 h with h | h
      · exact .inl (by simp [h])
      · rcases ih h with h | ⟨y, hy, e⟩
        · exact .inl (by simp [h])
        · exact .inr ⟨y, by simp [hy], e⟩

/-- A slot's state after an update of it. -/
theorem State.modSlot_slot_same (s : State) (n : Nat) (f : ArbSlot → ArbSlot) (h : n < s.arb.slots.length) :
    (s.modSlot n f).slot n = f (s.slot n) := modAt_getD_same _ _ _ _ h

/-- Every other slot. -/
theorem State.modSlot_slot_other (s : State) (n m : Nat) (f : ArbSlot → ArbSlot) (h : m ≠ n) :
    (s.modSlot n f).slot m = s.slot m := modAt_getD_other _ _ _ _ _ h

/-- A runtime slot after an update of it. -/
theorem State.modRt_rtSlot_same (s : State) (i : Nat) (f : RtSlot → RtSlot) (h : i < s.prot.slots.length) :
    (s.modRt i f).rtSlot i = f (s.rtSlot i) := modAt_getD_same _ _ _ _ h

/-- Every other runtime slot. -/
theorem State.modRt_rtSlot_other (s : State) (i j : Nat) (f : RtSlot → RtSlot) (h : j ≠ i) :
    (s.modRt i f).rtSlot j = s.rtSlot j := modAt_getD_other _ _ _ _ _ h

/-- The generator an update concerns. -/
theorem State.modGen_gen_same (s : State) (k : Nat) (f : Gen → Gen) (h0 : 1 ≤ k) (h : k ≤ s.par.gens.length) :
    (s.modGen k f).gen k = f (s.gen k) := by
  have hk : k ≠ 0 := by omega
  simp only [State.modGen, hk, ↓reduceIte, State.gen, State.modPar_par]
  exact modAt_getD_same _ _ _ _ (by omega)

/-- Every other generator. -/
theorem State.modGen_gen_other (s : State) (k j : Nat) (f : Gen → Gen) (h0 : 1 ≤ j) (h : j ≠ k) :
    (s.modGen k f).gen j = s.gen j := by
  unfold State.modGen
  split
  · rfl
  · simp only [State.gen, State.modPar_par]
    exact modAt_getD_other _ _ _ _ _ (by omega)

end Sys2Proof.Machine
end

