-- ==== Sys2Proof/Laws/Internal.lean ====
section
/-!
SUPPORT. What every shared operation of the blocks can do, said once: `Internal s t` says that `t` comes from `s` by acts
of the Arbiter, the sequencers, the Paralleling Unit and the Record and Notice Unit among themselves. It is reflexive and
goes through every operation, so that later proofs cite it and unfold nothing.
-/

set_option Elab.async false

namespace Sys2Proof.Machine

/-- No line is energized that was not, unless the mode is LIVE. -/
def linesKept (m : Mode) (a b : Arb) : Prop := linesOk m a → linesOk m b

/-- `t` comes from `s` by internal acts: what lies outside is as it was, sizes stand, and what was within its bounds
stays within them. -/
structure Internal (s t : State) : Prop where
  outside : SameOutside s t
  port1 : portOk s.link.p1 → portOk t.link.p1
  port2 : portOk s.link.p2 → portOk t.link.p2
  records : s.records.queue.length ≤ 16 → t.records.queue.length ≤ 16
  views : t.records.bfView.length = s.records.bfView.length
  biases : (∀ g ∈ s.par.gens, biasOk g) → ∀ g ∈ t.par.gens, biasOk g
  gens : t.par.gens.length = s.par.gens.length
  channels : t.par.channels.length = s.par.channels.length
  slots : t.arb.slots.length = s.arb.slots.length
  lines : linesKept s.mgmt.mode s.arb t.arb

theorem SameOutside.refl (s : State) : SameOutside s s :=
  ⟨rfl, rfl, rfl, rfl, rfl, rfl, rfl, rfl, rfl, rfl, rfl, rfl, rfl, .inl rfl⟩

theorem SameOutside.mode {s t : State} (h : SameOutside s t) : t.mgmt.mode = s.mgmt.mode := by rw [h.mgmt]

theorem SameOutside.image {s t : State} (h : SameOutside s t) : t.mgmt.image = s.mgmt.image := by rw [h.mgmt]

theorem SameOutside.trans {s t u : State} (h : SameOutside s t) (k : SameOutside t u) : SameOutside s u where
  now := k.now.trans h.now
  supply := k.supply.trans h.supply
  intake := k.intake.trans h.intake
  meas := k.meas.trans h.meas
  prot := k.prot.trans h.prot
  nv := k.nv.trans h.nv
  pending := k.pending.trans h.pending
  running := k.running.trans h.running
  station := k.station.trans h.station
  retired := k.retired.trans h.retired
  dup := k.dup.trans h.dup
  inhibit := k.inhibit.trans h.inhibit
  mgmt := by rw [k.mgmt, h.mgmt]
  part := by
    rcases h.part with h | ⟨h1, h2⟩ <;> rcases k.part with k | ⟨k1, k2⟩
    · exact .inl (k.trans h)
    · exact .inr ⟨h ▸ k1, k2⟩
    · exact .inr ⟨h1, k.trans h2⟩
    · rw [h2] at k1; cases k1

theorem Internal.refl (s : State) : Internal s s :=
  ⟨.refl s, id, id, id, rfl, id, rfl, rfl, rfl, id⟩

theorem Internal.trans {s t u : State} (h : Internal s t) (k : Internal t u) : Internal s u where
  outside := h.outside.trans k.outside
  port1 := k.port1 ∘ h.port1
  port2 := k.port2 ∘ h.port2
  records := k.records ∘ h.records
  views := k.views.trans h.views
  biases := k.biases ∘ h.biases
  gens := k.gens.trans h.gens
  channels := k.channels.trans h.channels
  slots := k.slots.trans h.slots
  lines := by
    have e := h.outside.mode
    have kl := k.lines
    rw [e] at kl
    exact fun x => kl (h.lines x)

/-- A step that is internal wherever it is taken is internal after internal acts. -/
theorem Internal.step {s u : State} (h : Internal s u) {f : State → State} (hf : Internal u (f u)) : Internal s (f u) :=
  h.trans hf

/-- A fold of internal acts. -/
theorem Internal.foldl {α : Type} {f : State → α → State} (hf : ∀ s x, Internal s (f s x)) (l : List α) (s : State) :
    Internal s (l.foldl f s) := by
  induction l generalizing s with
  | nil => exact .refl s
  | cons x xs ih => exact (hf s x).trans (ih _)

/-! ## The primitive updates -/

theorem Internal.post (s : State) (m : Msg) : Internal s (s.post m) :=
  ⟨⟨rfl, rfl, rfl, rfl, rfl, rfl, rfl, rfl, rfl, rfl, rfl, rfl, rfl, .inl rfl⟩, id, id, id, rfl, id, rfl, rfl, rfl, id⟩

theorem Internal.takeMail (s : State) (l : List Msg) : Internal s { s with mail := l } :=
  ⟨⟨rfl, rfl, rfl, rfl, rfl, rfl, rfl, rfl, rfl, rfl, rfl, rfl, rfl, .inl rfl⟩, id, id, id, rfl, id, rfl, rfl, rfl, id⟩

theorem Internal.useFree (s : State) : Internal s s.useFree :=
  ⟨⟨rfl, rfl, rfl, rfl, rfl, rfl, rfl, rfl, rfl, rfl, rfl, rfl, rfl, .inl rfl⟩, id, id, id, rfl, id, rfl, rfl, rfl, id⟩

/-- An update of a slot that energizes no line. -/
theorem Internal.modSlot (s : State) (n : Nat) (f : ArbSlot → ArbSlot)
    (hf : ∀ a, (f a).lineOn = a.lineOn ∨ (f a).lineOn = none := by intro a; simp) : Internal s (s.modSlot n f) where
  outside := ⟨rfl, rfl, rfl, rfl, rfl, rfl, rfl, rfl, rfl, rfl, rfl, rfl, rfl, .inl rfl⟩
  port1 := id
  port2 := id
  records := id
  views := rfl
  biases := id
  gens := rfl
  channels := rfl
  slots := by simp
  lines := by
    intro h hm x hx
    rcases mem_modAt hx with hx | ⟨y, hy, rfl⟩
    · exact h hm x hx
    · rcases hf y with e | e
      · rw [e]; exact h hm y hy
      · exact e

/-- An update of the sequencers that leaves the inhibit alone. -/
theorem Internal.modSeqs (s : State) (f : Seqs → Seqs) (hf : (f s.seqs).inhibit = s.seqs.inhibit := by rfl) :
    Internal s (s.modSeqs f) :=
  ⟨⟨rfl, rfl, rfl, rfl, rfl, rfl, rfl, rfl, rfl, rfl, rfl, hf, rfl, .inl rfl⟩, id, id, id, rfl, id, rfl, rfl, rfl, id⟩

theorem Internal.modSeq (s : State) (q : SeqId) (f : Seq → Seq) : Internal s (s.modSeq q f) := by
  cases q
  · exact Internal.modSeqs s (fun x => { x with seq1 := f x.seq1 }) rfl
  · exact Internal.modSeqs s (fun x => { x with seq2 := f x.seq2 }) rfl

/-- An update of the Paralleling Unit that leaves the generators alone and keeps the number of channels. -/
theorem Internal.modPar (s : State) (f : Par → Par) (hg : (f s.par).gens = s.par.gens := by rfl)
    (hc : (f s.par).channels.length = s.par.channels.length := by simp) : Internal s (s.modPar f) :=
  ⟨⟨rfl, rfl, rfl, rfl, rfl, rfl, rfl, rfl, rfl, rfl, rfl, rfl, rfl, .inl rfl⟩, id, id, id, rfl,
    fun h g hm => h g (hg ▸ hm), congrArg List.length hg, hc, rfl, id⟩

/-- An update of a generator that keeps its bias within its range. -/
theorem Internal.modGen (s : State) (k : Nat) (f : Gen → Gen)
    (hf : ∀ g, (f g).bias = g.bias ∨ (f g).bias = 0 := by intro g; simp) : Internal s (s.modGen k f) := by
  unfold State.modGen
  split
  · exact .refl s
  · exact
      { outside := ⟨rfl, rfl, rfl, rfl, rfl, rfl, rfl, rfl, rfl, rfl, rfl, rfl, rfl, .inl rfl⟩
        port1 := id, port2 := id, records := id, views := rfl
        biases := by
          intro h g hg
          rcases mem_modAt hg with hg | ⟨y, hy, rfl⟩
          · exact h g hg
          · rcases hf y with e | e
            · unfold biasOk; rw [e]; exact h y hy
            · unfold biasOk; rw [e]; omega
        gens := by simp, channels := rfl, slots := rfl, lines := id }

/-- An update of the records that keeps the queue within its capacity. -/
theorem Internal.modRecords (s : State) (f : Rec → Rec)
    (hq : (f s.records).queue.length ≤ s.records.queue.length := by simp)
    (hv : (f s.records).bfView.length = s.records.bfView.length := by simp) : Internal s (s.modRecords f) :=
  ⟨⟨rfl, rfl, rfl, rfl, rfl, rfl, rfl, rfl, rfl, rfl, rfl, rfl, rfl, .inl rfl⟩, id, id, fun h => Nat.le_trans hq h, hv,
    id, rfl, rfl, rfl, id⟩

/-- An update of the emulator. -/
theorem Internal.modEmuList (s : State) (f : List (Option Emu) → List (Option Emu)) :
    Internal s (s.modMgmt fun m => { m with emu := f m.emu }) :=
  ⟨⟨rfl, rfl, rfl, rfl, rfl, rfl, rfl, rfl, rfl, rfl, rfl, rfl, rfl, .inl rfl⟩, id, id, id, rfl, id, rfl, rfl, rfl, id⟩

/-! ## The Link Unit -/

theorem setQueue_ok {ps : PortState} (q : Egress) (f : QFrame) (h : portOk ps)
    (hq : (queueOf ps q).length < capacity q) : portOk (setQueue ps q (queueOf ps q ++ [f])) := by
  obtain ⟨h1, h2, h3⟩ := h
  cases q <;> simp only [setQueue, queueOf, capacity, portOk, List.length_append, List.length_singleton] at hq ⊢ <;>
    omega

theorem takeNext_ok {ps : PortState} (h : portOk ps) : portOk (takeNext ps) := by
  obtain ⟨h1, h2, h3⟩ := h
  unfold takeNext
  split
  · split <;> simp_all [portOk] <;> omega
  · exact ⟨h1, h2, h3⟩

theorem joinQueue_ok {ps : PortState} (q : Egress) (f : QFrame) (h : portOk ps) : portOk (joinQueue q f ps) := by
  unfold joinQueue
  split
  · rename_i c
    exact takeNext_ok (setQueue_ok q f h c.2)
  · exact h

/-- A frame directed to a port changes that port's queues only. -/
theorem Internal.enqueue (p : Port) (q : Egress) (f : QFrame) (s : State) : Internal s (enqueue p q f s) := by
  unfold Machine.enqueue
  split
  · cases p
    · exact ⟨⟨rfl, rfl, rfl, rfl, rfl, rfl, rfl, rfl, rfl, rfl, rfl, rfl, rfl, .inl rfl⟩, joinQueue_ok q f, id, id, rfl,
        id, rfl, rfl, rfl, id⟩
    · exact ⟨⟨rfl, rfl, rfl, rfl, rfl, rfl, rfl, rfl, rfl, rfl, rfl, rfl, rfl, .inl rfl⟩, id, joinQueue_ok q f, id, rfl,
        id, rfl, rfl, rfl, id⟩
  · exact .refl s

theorem Internal.originate (d : Nat) (p : OwnPayload) (s : State) : Internal s (originate d p s) := by
  unfold Machine.originate
  split
  · exact .refl s
  · exact (Internal.enqueue _ _ _ _).trans (.enqueue _ _ _ _)

/-! ## Notices and records -/

theorem Internal.note (c : NoticeClass) (s : State) : Internal s (note c s) := by
  unfold Machine.note
  split
  · exact .modRecords s _
  · exact .refl s

theorem Internal.recordEvent (n : Nat) (e : RecEvent) (s : State) : Internal s (recordEvent n e s) :=
  (Internal.modRecords s _).trans (.note _ _)

theorem Internal.testRecords (s : State) : Internal s (testRecords s) := by
  unfold Machine.testRecords
  dsimp only
  split
  · exact .refl s
  · exact (Internal.modRecords s _).trans (.recordEvent _ _ _)

theorem Internal.makeRoom (s : State) : Internal s (makeRoom s) := by
  unfold Machine.makeRoom
  split
  · split
    · exact .refl s
    · rename_i e
      exact (Internal.modRecords s _ (by simp [e])).trans (.recordEvent _ _ _)
  · exact .refl s

theorem makeRoom_length (s : State) (h : s.records.queue.length ≤ 16) : (makeRoom s).records.queue.length ≤ 15 := by
  unfold makeRoom
  split
  · split
    · rename_i e; simp [e]
    · rename_i r rest e
      have hle : rest.length ≤ 15 := by rw [e, List.length_cons] at h; omega
      simp only [Machine.recordEvent, Machine.note]
      split <;> simpa using hle
  · omega

theorem SameOutside.modRecords (s : State) (f : Rec → Rec) : SameOutside s (s.modRecords f) :=
  ⟨rfl, rfl, rfl, rfl, rfl, rfl, rfl, rfl, rfl, rfl, rfl, rfl, rfl, .inl rfl⟩

/-- A record is added where room has been made for it. -/
theorem Internal.addRecord {s w : State} (h : Internal s w)
    (hw : s.records.queue.length ≤ 16 → w.records.queue.length ≤ 15) (f : Rec → Rec)
    (hq : (f w.records).queue.length = w.records.queue.length + 1 := by simp)
    (hv : (f w.records).bfView.length = w.records.bfView.length := by simp) : Internal s (w.modRecords f) :=
  { h with
    outside := h.outside.trans (.modRecords w f)
    records := fun e => by rw [State.modRecords_records, hq]; have := hw e; omega
    views := hv.trans h.views }

@[simp] theorem modLast_length {α : Type} (p : α → Bool) (f : α → α) (l : List α) :
    (modLast p f l).length = l.length := by
  induction l with
  | nil => rfl
  | cons x rest ih => unfold modLast; split <;> [simp [ih]; split] <;> simp

theorem Internal.takeTrigger (t : Trigger) (s : State) : Internal s (takeTrigger t s) := by
  unfold Machine.takeTrigger
  dsimp only
  have h0 : Internal s (if (triggerSlots t).any (usesFree s) = true then s.useFree else s) := by
    split
    · exact .useFree s
    · exact .refl s
  generalize (if (triggerSlots t).any (usesFree s) = true then s.useFree else s) = u at h0
  refine h0.trans ?_
  split
  · exact ((Internal.modRecords u _).trans (.recordEvent _ _ _)).trans (.testRecords _)
  · exact ((Internal.addRecord (.makeRoom u) (makeRoom_length u) _).trans (.recordEvent _ _ _)).trans (.testRecords _)

theorem Internal.reportOpenEnd (n tag : Nat) (t : Told) (s : State) : Internal s (reportOpenEnd n tag t s) :=
  (Internal.modRecords s _).trans (.testRecords _)

theorem Internal.reportBf (n : Nat) (b : BFState) (s : State) : Internal s (reportBf n b s) :=
  ((Internal.modRecords s _).trans (.note _ _)).trans (.testRecords _)

theorem Internal.finalPeaks (g : Group) (row : Nat) (ph : Four Bool) (pk : Four Nat) (s : State) :
    Internal s (finalPeaks g row ph pk s) := .modRecords s _

/-! ## The grant and the channels -/

theorem Internal.setGenState (k : Nat) (st : GenState) (s : State) : Internal s (setGenState k st s) := by
  unfold Machine.setGenState
  split
  · exact .refl s
  · exact (Internal.modGen s k _).trans (.note _ _)

theorem Internal.readyToClosing (k : Nat) (s : State) : Internal s (readyToClosing k s) := by
  unfold Machine.readyToClosing
  split
  · exact .setGenState _ _ _
  · exact .refl s

theorem Internal.channelTaken (n : Nat) (s : State) : Internal s (channelTaken n s) := by
  unfold Machine.channelTaken
  split
  · exact .readyToClosing _ _
  · exact .refl s

theorem Internal.assignChannel (i : Nat) (r : SyncReq) (s : State) : Internal s (assignChannel i r s) :=
  ((Internal.modPar s _).trans (.channelTaken _ _)).trans (.note _ _)

theorem Internal.refillChannel (i : Nat) (s : State) : Internal s (refillChannel i s) := by
  unfold Machine.refillChannel
  split
  · exact .refl s
  · exact (Internal.modPar s _).trans (.assignChannel _ _ _)

theorem Internal.dropPlace (n : Nat) (s : State) : Internal s (dropPlace n s) := by
  unfold Machine.dropPlace
  split
  · exact ((Internal.modPar s _).trans (.note _ _)).trans (.refillChannel _ _)
  · split
    · exact .modPar s _
    · exact .refl s

theorem Internal.syncRequest (n : Nat) (s : State) : Internal s (syncRequest n s) := by
  unfold Machine.syncRequest
  dsimp only
  refine (Internal.dropPlace n s).trans ?_
  split
  · exact .assignChannel _ _ _
  · exact .modPar _ _

theorem Internal.askGrant {k : Nat} {r : Requester} {s t : State} (h : askGrant k r s = some t) : Internal s t := by
  unfold Machine.askGrant at h
  split at h
  · split at h
    · cases h; exact .modPar s _
    · cases h
  · split at h
    · cases h; exact ((Internal.modPar s _).trans (.note _ _)).trans (.readyToClosing _ _)
    · cases h

theorem Internal.releaseGrant (s : State) : Internal s (releaseGrant s) := by
  unfold Machine.releaseGrant
  split
  · exact .refl s
  · exact (Internal.modPar s _).trans (.note _ _)

theorem Internal.closeEnded (n : Nat) (r : Requester) (g : Bool) (t : Told) (s : State) :
    Internal s (closeEnded n r g t s) := by
  unfold Machine.closeEnded
  dsimp only
  refine (Internal.dropPlace n s).trans ?_
  generalize Machine.dropPlace n s = u
  have h : Internal u (if g = true then Machine.releaseGrant u else u) := by
    split
    · exact .releaseGrant u
    · exact .refl u
  generalize (if g = true then Machine.releaseGrant u else u) = v at h
  refine h.trans ?_
  split
  · exact .post _ _
  · exact .refl _

end Sys2Proof.Machine
end

