-- ==== Sys2Proof/Laws/InternalArbiter.lean ====
section
/-!
SUPPORT. The Order Arbiter's operations are internal (`Internal`): one lemma for each.
-/

set_option Elab.async false

namespace Sys2Proof.Machine

theorem Internal.modEmu (n : Nat) (f : Emu → Emu) (s : State) : Internal s (modEmu n f s) :=
  .modEmuList s fun l => modAt l n fun e => e.map f

theorem Internal.setMove (n : Nat) (t : OrdType) (s : State) : Internal s (setMove n t s) := by
  unfold Machine.setMove
  split
  · exact .modEmu _ _ _
  · exact .refl s

theorem Internal.cancelMove (n : Nat) (s : State) : Internal s (cancelMove n s) := by
  unfold Machine.cancelMove
  split
  · exact .modEmu _ _ _
  · exact .refl s

theorem Internal.sendFrame (n : Nat) (c : OrderCode) (tag : Nat) (x : Source) (s : State) :
    Internal s (sendFrame n c tag x s) := by
  unfold Machine.sendFrame
  split
  · exact .originate _ _ _
  · exact .refl s

theorem Internal.sendOrder (n : Nat) (s : State) : Internal s (sendOrder n s) := by
  unfold Machine.sendOrder
  split
  · exact .sendFrame _ _ _ _ _
  · exact .refl s

/-- A line energizes in LIVE only. -/
theorem Internal.energizeLine (n : Nat) (s : State) : Internal s (energizeLine n s) := by
  unfold Machine.energizeLine
  split
  · rename_i c
    exact
      { outside := ⟨rfl, rfl, rfl, rfl, rfl, rfl, rfl, rfl, rfl, rfl, rfl, rfl, rfl, .inl rfl⟩
        port1 := id, port2 := id, records := id, views := rfl, biases := id, gens := rfl, channels := rfl
        slots := by simp, lines := fun _ hm => absurd c.1 hm }
  · exact .refl s

theorem Internal.releaseLine (n : Nat) (s : State) : Internal s (releaseLine n s) := by
  unfold Machine.releaseLine
  split
  · exact .modSlot s _ _
  · exact .refl s

theorem Internal.startWithdraw (n tag : Nat) (c : Source) (s : State) : Internal s (startWithdraw n tag c s) := by
  unfold Machine.startWithdraw
  exact (Internal.modSlot s n (fun a => { a with withdraw := some ⟨tag, c, 2, s.now + ms 10⟩ })
    (fun _ => .inl rfl)).trans (.sendFrame _ _ _ _ _)

theorem Internal.removeOrder (n : Nat) (o : Order) (t : Told) (s : State) : Internal s (removeOrder n o t s) := by
  unfold Machine.removeOrder
  exact ((Internal.modSlot s n _ (by intro a; simp)).trans (.cancelMove _ _)).trans (.note _ _)

theorem Internal.tellAll (n : Nat) (o : Order) (t : Told) (s : State) : Internal s (tellAll n o t s) :=
  Internal.foldl (fun s _ => .post s _) _ _

theorem Internal.afterService (n : Nat) (o : Order) (t : Told) (s : State) : Internal s (afterService n o t s) := by
  unfold Machine.afterService
  split
  · exact .closeEnded _ _ _ _ _
  · split
    · exact (Internal.releaseLine _ _).trans (.reportOpenEnd _ _ _ _)
    · exact .releaseLine _ _

theorem Internal.leaveService (n : Nat) (t : Told) (s : State) : Internal s (leaveService n t s) := by
  unfold Machine.leaveService
  split
  · exact .refl s
  · exact ((Internal.removeOrder _ _ _ _).trans (.tellAll _ _ _ _)).trans (.afterService _ _ _ _)

theorem Internal.endClose (n : Nat) (t : Told) (s : State) : Internal s (endClose n t s) := by
  unfold Machine.endClose
  split
  · split
    · exact .refl s
    · dsimp only
      refine (Internal.leaveService n t s).trans ?_
      split
      · exact .startWithdraw _ _ _ _
      · exact .refl _
  · exact .refl s

theorem Internal.withdrawOwn (n : Nat) (r : Requester) (s : State) : Internal s (withdrawOwn n r s) := by
  unfold Machine.withdrawOwn
  split
  · split
    · exact .endClose _ _ _
    · exact .refl s
  · exact .refl s

theorem Internal.startBf (n : Nat) (s : State) : Internal s (startBf n s) := by
  unfold Machine.startBf
  split
  · exact (Internal.modSlot s _ _).trans (.reportBf _ _ _)
  · exact .refl s

theorem Internal.startProtective (n : Nat) (x : Source) (s : State) : Internal s (startProtective n x s) := by
  unfold Machine.startProtective
  split
  · exact (Internal.startBf _ _).trans (.energizeLine _ _)
  · exact .refl s

theorem Internal.issue (n : Nat) (s : State) : Internal s (issue n s) := by
  unfold Machine.issue
  split
  · exact .refl s
  · exact ((Internal.modSlot s _ _).trans (.setMove _ _ _)).trans (.sendOrder _ _)

theorem Internal.putOrder (n : Nat) (t : OrdType) (x : Source) (r : Requester) (s : State) :
    Internal s (putOrder n t x r s) := (Internal.modSlot s _ _).trans (.note _ _)

theorem Internal.putOpen (n : Nat) (x : Source) (r : Requester) (s : State) : Internal s (putOpen n x r s) :=
  ((Internal.putOrder _ _ _ _ _).trans (.issue _ _)).trans (.startProtective _ _ _)

theorem Internal.joinOpen (n : Nat) (o : Order) (x : Source) (r : Requester) (s : State) :
    Internal s (joinOpen n o x r s) := by
  unfold Machine.joinOpen
  dsimp only
  split
  · exact .modSlot s _ _
  · exact (Internal.modSlot s _ _).trans (.startProtective _ _ _)

theorem Internal.setWindow (n : Nat) (x : Source) (s : State) : Internal s (setWindow n x s) := by
  unfold Machine.setWindow
  split
  · exact .modSlot s _ _
  · exact .modSlot s _ _
  · exact .refl s

theorem Internal.endConflictingClose (n : Nat) (s : State) : Internal s (endConflictingClose n s) := by
  unfold Machine.endConflictingClose
  split
  · split
    · exact .endClose _ _ _
    · exact .refl s
  · exact .refl s

theorem Internal.raiseOpen (x : Source) (r : Requester) (n : Nat) (s : State) : Internal s (raiseOpen x r n s).1 := by
  unfold Machine.raiseOpen
  split
  · exact .refl s
  · split
    · exact .refl s
    · split
      · exact .endConflictingClose _ _
      · dsimp only
        refine (Internal.setWindow n x s).trans ?_
        split
        · split
          · exact .joinOpen _ _ _ _ _
          · exact (Internal.endClose _ _ _).trans (.putOpen _ _ _ _)
        · split
          · exact .refl _
          · exact .putOpen _ _ _ _

theorem Internal.markGrant (n : Nat) (s : State) : Internal s (markGrant n s) := .modSlot s _ _

theorem Internal.routeClose (x : Source) (r : Requester) (n : Nat) (s : State) : Internal s (routeClose x r n s).1 := by
  unfold Machine.routeClose
  dsimp only
  have h := Internal.putOrder n .close x r s
  generalize Machine.putOrder n .close x r s = u at h
  refine h.trans ?_
  split
  · exact .syncRequest _ _
  · split
    · split
      · rename_i e
        exact ((Internal.askGrant e).trans (.markGrant _ _)).trans (.issue _ _)
      · exact (Internal.modSlot u _ _).trans (.note _ _)
    · exact .issue _ _

theorem Internal.raiseClose (x : Source) (r : Requester) (n : Nat) (s : State) : Internal s (raiseClose x r n s).1 := by
  unfold Machine.raiseClose
  split
  · exact .refl s
  · split
    · exact .endConflictingClose _ _
    · split
      · exact .refl s
      · exact .setWindow _ _ _
      · have h := Internal.routeClose x r n s
        split
        · rename_i e; rw [e] at h; exact h
        · rename_i e; rw [e] at h; exact h.trans (.setWindow _ _ _)

theorem Internal.fireClose (n : Nat) (s : State) : Internal s (fireClose n s) := by
  unfold Machine.fireClose
  split
  · split
    · exact .leaveService _ _ _
    · exact (Internal.issue _ _).trans (.note _ _)
  · exact .refl s

theorem Internal.timeoutClose (n : Nat) (s : State) : Internal s (timeoutClose n s) := by
  unfold Machine.timeoutClose
  split
  · exact .leaveService _ _ _
  · exact .refl s

theorem Internal.testCompletion (n : Nat) (s : State) : Internal s (testCompletion n s) := by
  unfold Machine.testCompletion
  split
  · split
    · exact .leaveService _ _ _
    · exact .refl s
  · exact .refl s

theorem Internal.setRealPos (n : Nat) (p : Pos) (s : State) : Internal s (setRealPos n p s) := by
  unfold Machine.setRealPos
  dsimp only
  split
  · exact .refl s
  · have h : ∀ u m, Internal u (if u.mgmt.mode = .loop then u else u.post m) := by
      intro u m
      split
      · exact .refl u
      · exact .post u m
    refine Internal.trans ?_ (h _ _)
    exact Internal.trans (.modSlot s n _ (by intro a; simp)) (.note .position _)

theorem Internal.takeContacts (n : Nat) (c : Contacts) (s : State) : Internal s (takeContacts n c s) := by
  unfold Machine.takeContacts
  dsimp only
  split
  · split
    · exact .refl s
    · exact (Internal.modSlot s n (fun a => { a with acceptedPair := some c })).trans (.setRealPos _ _ _)
  · exact .modSlot s _ _

theorem Internal.takeFlags (p : PositionPayload) (s : State) : Internal s (takeFlags p s) := by
  unfold Machine.takeFlags
  dsimp only
  split
  · exact .modSlot s _ _
  · exact (Internal.modSlot s _ _).trans (.note _ _)

theorem Internal.takeTag (p : PositionPayload) (s : State) : Internal s (takeTag p s) := .modSlot s _ _

theorem Internal.takePosition (p : PositionPayload) (s : State) : Internal s (takePosition p s) := by
  unfold Machine.takePosition
  dsimp only
  refine ((Internal.takeFlags p s).trans (.takeTag p _)).trans ((Internal.takeContacts p.slot p.contacts _).trans ?_)
  split
  · exact .testCompletion _ _
  · exact .refl _

theorem Internal.withdrawAllCloses (s : State) : Internal s (withdrawAllCloses s) :=
  Internal.foldl (fun s n => .endClose n .withdrawn s) _ _

theorem Internal.repeatOrder (n : Nat) (s : State) : Internal s (repeatOrder n s) :=
  (Internal.modSlot s _ _).trans (.sendOrder _ _)

theorem Internal.failOpen (n : Nat) (s : State) : Internal s (failOpen n s) := .leaveService _ _ _

theorem Internal.failClose (n : Nat) (s : State) : Internal s (failClose n s) := by
  unfold Machine.failClose
  split
  · split
    · exact .leaveService _ _ _
    · exact (Internal.leaveService _ _ _).trans (.startWithdraw _ _ _ _)
  · exact .refl s

theorem Internal.resendWithdraw (n : Nat) (s : State) : Internal s (resendWithdraw n s) := by
  unfold Machine.resendWithdraw
  split
  · exact (Internal.modSlot s _ _).trans (.sendFrame _ _ _ _ _)
  · exact .refl s

theorem Internal.silencePosition (n : Nat) (s : State) : Internal s (silencePosition n s) := by
  unfold Machine.silencePosition
  dsimp only
  refine (Internal.setRealPos n .unknown s).trans (.trans ?_ (.modSlot _ _ _))
  split
  · exact .note _ _
  · exact .refl _

theorem Internal.takeMove (n : Nat) (t : OrdType) (s : State) : Internal s (takeMove n t s) := by
  unfold Machine.takeMove
  dsimp only
  refine (Internal.modEmu n (fun _ => { pos := orderedPos t, move := none }) s).trans (.trans ?_ (.testCompletion _ _))
  split
  · exact .refl _
  · exact (Internal.note _ _).trans (.post _ _)

end Sys2Proof.Machine
end

