-- ==== Sys2Proof/Laws/InternalPar.lean ====
section
/-!
SUPPORT. The Paralleling Unit's operations are internal (`Internal`): one lemma for each.
-/

set_option Elab.async false

namespace Sys2Proof.Machine

theorem Internal.zeroBias (k : Nat) (s : State) : Internal s (zeroBias k s) := .modGen s k _

theorem Internal.clearAwaited (k : Nat) (s : State) : Internal s (clearAwaited k s) := .modGen s k _

theorem Internal.startIfDemanded (k : Nat) (s : State) : Internal s (startIfDemanded k s) := by
  unfold Machine.startIfDemanded
  dsimp only
  split
  · refine (Internal.setGenState k .starting s).trans ?_
    split
    · exact .setGenState _ _ _
    · exact .refl _
  · exact .refl s

theorem Internal.enterOff (k : Nat) (s : State) : Internal s (enterOff k s) :=
  ((Internal.setGenState _ _ _).trans (.zeroBias _ _)).trans (.startIfDemanded _ _)

theorem Internal.enterOnline (k : Nat) (s : State) : Internal s (enterOnline k s) := .setGenState _ _ _

theorem Internal.parAtOnce (k : Nat) (t : OrdType) (x : Told) (s : State) : Internal s (parAtOnce k t x s) := by
  unfold Machine.parAtOnce
  exact (Internal.modGen s k _ (by intro g; simp)).trans (.post _ _)

theorem Internal.raiseGenOpen (k : Nat) (s : State) : Internal s (raiseGenOpen k s) := by
  unfold Machine.raiseGenOpen
  have h := Internal.raiseOpen .schO .par (genSlot k) s
  split
  · rename_i e; rw [e] at h; exact h.trans (.modGen _ _ _)
  · rename_i e; rw [e] at h; exact h.trans (.parAtOnce _ _ _ _)
  · rename_i e; rw [e] at h; exact h.trans (.parAtOnce _ _ _ _)

theorem Internal.releaseGrantOf (k : Nat) (s : State) : Internal s (releaseGrantOf k s) := by
  unfold Machine.releaseGrantOf
  split
  · split
    · exact .releaseGrant _
    · exact .refl s
  · exact .refl s

theorem Internal.raiseGenClose (k : Nat) (s : State) : Internal s (raiseGenClose k s) := by
  unfold Machine.raiseGenClose
  have h := Internal.raiseClose .schC .par (genSlot k) s
  split
  · rename_i e; rw [e] at h; exact h.trans (.modGen _ _ _)
  · rename_i e; rw [e] at h; exact (h.trans (.parAtOnce _ _ _ _)).trans (.releaseGrantOf _ _)
  · rename_i e; rw [e] at h; exact (h.trans (.parAtOnce _ _ _ _)).trans (.releaseGrantOf _ _)

theorem Internal.enterFailed (k : Nat) (c : FailCause) (s : State) : Internal s (enterFailed k c s) := by
  unfold Machine.enterFailed
  split
  · exact .refl s
  · dsimp only
    have h : Internal s (Machine.zeroBias k (Machine.setGenState k .failed
        (s.modGen k fun g => { g with cause := some c }))) :=
      ((Internal.modGen s k _).trans (.setGenState _ _ _)).trans (.zeroBias _ _)
    refine (h.trans ((Internal.endClose (genSlot k) .withdrawn _).trans (.clearAwaited k _))).trans ?_
    split
    · exact .refl _
    · exact .raiseGenOpen _ _

theorem Internal.enterManual (k : Nat) (s : State) : Internal s (enterManual k s) := by
  unfold Machine.enterManual
  dsimp only
  refine ((Internal.setGenState k .manual s).trans (.zeroBias k _)).trans ((Internal.endClose (genSlot k) .withdrawn _).trans ?_)
  split
  · split
    · exact .clearAwaited _ _
    · exact .refl _
  · exact .refl _

theorem Internal.withdrawGenClose (k : Nat) (s : State) : Internal s (withdrawGenClose k s) :=
  (Internal.withdrawOwn _ _ _).trans (.clearAwaited _ _)

theorem Internal.statusRow (k : Nat) (s : State) : Internal s ((statusRow k s).getD s) := by
  unfold Machine.statusRow
  dsimp only
  split
  · exact .enterManual _ _
  · split
    · simp only [Option.getD_some]
      split
      · exact .enterOnline _ _
      · exact .enterOff _ _
    · split
      · exact .enterFailed _ _ _
      · split
        · exact .setGenState _ _ _
        · split
          · exact .setGenState _ _ _
          · split
            · exact (Internal.withdrawGenClose _ _).trans (.setGenState _ _ _)
            · exact .refl s

theorem Internal.settleStatus (k : Nat) (s : State) : Internal s (settleStatus k s) := by
  unfold Machine.settleStatus
  have two : ∀ x : State, Internal x (let y := (Machine.statusRow k x).getD x; (Machine.statusRow k y).getD y) := fun x =>
    (Internal.statusRow k x).trans (.statusRow k _)
  exact (two s).trans ((two _).trans ((two _).trans (two _)))

theorem Internal.closeResult (k : Nat) (t : Told) (s : State) : Internal s (closeResult k t s) := by
  unfold Machine.closeResult
  split
  · exact .refl s
  · exact .refl s
  · exact .enterFailed _ _ _
  · exact .enterFailed _ _ _
  · split
    · exact .setGenState _ _ _
    · exact .refl s

theorem Internal.openResult (k : Nat) (t : Told) (s : State) : Internal s (openResult k t s) := by
  unfold Machine.openResult
  split
  · exact .enterFailed _ _ _
  · exact .refl s

theorem Internal.parTold (n : Nat) (y : OrdType) (g : Option Nat) (t : Told) (s : State) :
    Internal s (parTold n y g t s) := by
  unfold Machine.parTold
  split
  · exact .refl s
  · split
    · dsimp only
      rename_i k _ _
      refine (Internal.clearAwaited k s).trans ?_
      split
      · exact .closeResult _ _ _
      · exact .openResult _ _ _
    · exact .refl s

theorem Internal.otherClose (n : Nat) (t : Told) (s : State) : Internal s (otherClose n t s) := by
  unfold Machine.otherClose
  split
  · split
    · exact .closeResult _ _ _
    · exact .refl s
  · exact .refl s

theorem Internal.ite {s t u : State} {c : Prop} [Decidable c] (ht : Internal s t) (hu : Internal s u) :
    Internal s (if c then t else u) := by
  split
  · exact ht
  · exact hu

theorem Internal.endUnload (s : State) : Internal s (endUnload s) := by
  unfold Machine.endUnload
  split
  · exact .refl s
  · exact ((Internal.modPar s _).trans (.note _ _)).trans (.foldl (fun s k => .ite (.setGenState k .online s) (.refl s)) _ _)

theorem Internal.endUnloadOf (q : SeqId) (s : State) : Internal s (endUnloadOf q s) := by
  unfold Machine.endUnloadOf
  split
  · exact .ite (.endUnload s) (.refl s)
  · exact .refl s

theorem Internal.beginUnload (q : SeqId) (r : Nat) (s : State) : Internal s (beginUnload q r s) := by
  unfold Machine.beginUnload
  split
  · exact ((Internal.modPar s _).trans (.note _ _)).trans (.foldl (fun s k => .setGenState k .unloading s) _ _)
  · exact .refl s

theorem Internal.genPosition (k : Nat) (was now : Pos) (s : State) : Internal s (genPosition k was now s) := by
  unfold Machine.genPosition
  exact .ite (.refl s) (.ite (.ite (.enterOnline _ _) (.refl s)) (.ite (.enterOff _ _) (.refl s)))

theorem Internal.parPosition (n : Nat) (was now : Pos) (s : State) : Internal s (parPosition n was now s) := by
  unfold Machine.parPosition
  split
  · exact .genPosition _ _ _ _
  · split
    · exact .ite (.endUnload s) (.refl s)
    · exact .refl s

theorem Internal.raiseDemand (s : State) : Internal s (raiseDemand s) := by
  unfold Machine.raiseDemand
  split
  · exact .refl s
  · dsimp only
    refine ((Internal.modPar s fun p => { p with demand := true, stopTimer := none, stopPending := false }).trans
      (.note .generator _)).trans ?_
    split
    · exact .refl _
    · exact .foldl (fun s k => .startIfDemanded k s) _ _

theorem Internal.demandDropped (k : Nat) (s : State) : Internal s (demandDropped k s) := by
  unfold Machine.demandDropped
  split
  · exact .enterOff _ _
  · exact .enterOff _ _
  · exact (Internal.withdrawGenClose _ _).trans (.enterOff _ _)
  · exact .refl s

theorem Internal.startStopTimer (s : State) : Internal s (startStopTimer s) := by
  unfold Machine.startStopTimer
  split
  · exact (Internal.modPar s _).trans (.note _ _)
  · exact .refl s

theorem Internal.formDemand (s : State) : Internal s (formDemand s) := by
  unfold Machine.formDemand
  exact .ite (.raiseDemand s) (.startStopTimer s)

theorem Internal.stopExpired (s : State) : Internal s (stopExpired s) := by
  unfold Machine.stopExpired
  exact ((Internal.modPar s _).trans (.note _ _)).trans (.foldl (fun s k => .demandDropped k s) _ _)

theorem Internal.stopGenerators (s : State) : Internal s (stopGenerators s) := by
  unfold Machine.stopGenerators
  exact .ite (.foldl (fun s k => .ite (.raiseGenOpen k s) (.refl s)) _ _) (.refl s)

theorem Internal.releaseOnLive (s : State) : Internal s (releaseOnLive s) := by
  unfold Machine.releaseOnLive
  split
  · split
    · exact .refl s
    · split
      · exact Internal.trans (.ite (.endClose _ _ s) (.refl s)) (.releaseGrant _)
      · exact .releaseGrant s
  · exact .refl s

theorem Internal.grantDead (s : State) : Internal s (grantDead s) := by
  unfold Machine.grantDead
  split
  · split
    · exact (((Internal.modPar s _).trans (.note _ _)).trans (.setGenState _ _ _)).trans (.raiseGenClose _ _)
    · exact .refl s
  · exact .refl s

theorem Internal.closeLive (s : State) : Internal s (closeLive s) := by
  unfold Machine.closeLive
  exact .ite (.foldl (fun s k => .ite (.raiseGenClose k s) (.refl s)) _ _) (.refl s)

theorem Internal.modChannel (i : Nat) (f : Channel → Channel) (s : State) : Internal s (modChannel i f s) := .modPar s _

theorem Internal.fireChannel (i n : Nat) (s : State) : Internal s (fireChannel i n s) :=
  ((Internal.modChannel _ _ _).trans (.note _ _)).trans (.fireClose _ _)

theorem Internal.testChannel (i : Nat) (s : State) : Internal s (testChannel i s) := by
  unfold Machine.testChannel
  split
  · exact .refl s
  · split
    · exact .refl s
    · split
      · dsimp only
        refine (Internal.modChannel i (fun c => { c with hold := c.hold + 1 }) s).trans ?_
        split
        · exact .fireChannel _ _ _
        · exact .refl _
      · exact .modChannel _ _ _

theorem Internal.expireSyncWait (n : Nat) (s : State) : Internal s (expireSyncWait n s) :=
  .ite (.timeoutClose _ _) (.dropPlace _ _)

theorem limitBias_ok (x : Int) : -1000 ≤ limitBias x ∧ limitBias x ≤ 1000 := by
  unfold limitBias clampInt
  split
  · omega
  · split <;> omega

/-- R156: every bias a sharing update forms lies in its range. -/
theorem Internal.shareLoad (s : State) : Internal s (shareLoad s) :=
  { outside := ⟨rfl, rfl, rfl, rfl, rfl, rfl, rfl, rfl, rfl, rfl, rfl, rfl, rfl, .inl rfl⟩
    port1 := id, port2 := id, records := id, views := rfl
    biases := by
      intro h g hg
      unfold Machine.shareLoad at hg
      simp only [State.modPar_par] at hg
      obtain ⟨i, hi, rfl⟩ := List.mem_mapIdx.1 hg
      split
      · exact h _ (List.getElem_mem hi)
      · split
        · exact limitBias_ok _
        · exact limitBias_ok _
    gens := by simp [Machine.shareLoad]
    channels := rfl, slots := rfl, lines := id }

theorem Internal.stepUnload (s : State) : Internal s (stepUnload s) := .modPar s _

theorem Internal.sendGencmd (k : Nat) (s : State) : Internal s (sendGencmd k s) := by
  unfold Machine.sendGencmd
  exact (Internal.modGen s k _ (by intro g; simp)).trans (.originate _ _ _)

theorem Internal.sharingUpdate (s : State) : Internal s (sharingUpdate s) := by
  unfold Machine.sharingUpdate
  exact ((Internal.stepUnload s).trans (.shareLoad _)).trans (.foldl (fun s k => .sendGencmd k s) _ _)

theorem Internal.formCapacity (s : State) : Internal s (formCapacity s) := by
  unfold Machine.formCapacity
  exact .modPar s _

theorem Internal.clearFailed (k : Nat) (s : State) : Internal s (clearFailed k s) := by
  unfold Machine.clearFailed
  split
  · dsimp only
    have h : Internal s (Machine.zeroBias k (Machine.setGenState k .off (s.modGen k fun g => { g with cause := none }))) :=
      ((Internal.modGen s k _).trans (.setGenState _ _ _)).trans (.zeroBias _ _)
    exact h.trans (.ite (.enterFailed _ _ _) (.ite (.enterFailed _ _ _) (.startIfDemanded _ _)))
  · exact .refl s

theorem Internal.takeGenstat (p : GenstatPayload) (s : State) : Internal s (takeGenstat p s) := by
  unfold Machine.takeGenstat
  dsimp only
  exact (Internal.modGen s p.gen _ (by intro g; simp)).trans (.ite (.refl _) (.settleStatus _ _))

theorem Internal.loseStatus (k : Nat) (s : State) : Internal s (loseStatus k s) := by
  unfold Machine.loseStatus
  exact (Internal.modGen s k _ (by intro g; simp)).trans (.settleStatus _ _)

end Sys2Proof.Machine
end

