-- ==== Sys2Proof/Laws/InternalSeq.lean ====
section
/-!
SUPPORT. The sequencers' operations are internal (`Internal`): one lemma for each.
-/

set_option Elab.async false

namespace Sys2Proof.Machine

theorem Internal.setSeqState (q : SeqId) (st : SeqState) (s : State) : Internal s (setSeqState q st s) := by
  unfold Machine.setSeqState
  exact .ite (.refl s) ((Internal.modSeq s q _).trans (.note _ _))

theorem Internal.releaseClaim (q : SeqId) (s : State) : Internal s (releaseClaim q s) := by
  unfold Machine.releaseClaim
  exact .ite ((Internal.modSeqs s fun x => { x with claim := none }).trans (.note _ _)) (.refl s)

theorem Internal.takeClaim (q : SeqId) (s : State) : Internal s (takeClaim q s) := by
  unfold Machine.takeClaim
  exact .ite (.refl s) ((Internal.modSeqs s fun x => { x with claim := some q }).trans (.note _ _))

theorem Internal.withdrawSeqClose (q : SeqId) (s : State) : Internal s (withdrawSeqClose q s) := by
  unfold Machine.withdrawSeqClose
  dsimp only
  refine Internal.trans ?_ (.modSeq _ q _)
  split
  · exact .ite (.withdrawOwn _ _ _) (.refl s)
  · exact .refl s

theorem Internal.setReady (q : SeqId) (b : Bool) (s : State) : Internal s (setReady q b s) := by
  unfold Machine.setReady
  exact .ite (.refl s) ((Internal.modSeq s q _).trans (.note _ _))

theorem Internal.setPendingPark (q : SeqId) (b : Bool) (s : State) : Internal s (setPendingPark q b s) := by
  unfold Machine.setPendingPark
  exact .ite (.refl s) ((Internal.modSeq s q _).trans (.note _ _))

theorem Internal.enterParked (q : SeqId) (s : State) : Internal s (enterParked q s) := by
  unfold Machine.enterParked
  exact (((Internal.withdrawSeqClose q s).trans (.setReady q false _)).trans
    ((Internal.modSeq _ q _).trans (.setPendingPark q false _))).trans (.setSeqState q .parked _)

theorem Internal.goStable (q : SeqId) (st : SeqState) (s : State) : Internal s (goStable q st s) := by
  unfold Machine.goStable
  exact .ite (.enterParked q s) (.setSeqState q st s)

theorem Internal.enterPreferred (q : SeqId) (s : State) : Internal s (enterPreferred q s) :=
  (Internal.modSeq s q _).trans (.goStable q .preferred _)

theorem Internal.enterOnAlternate (q : SeqId) (a : Alt) (p : Bool) (s : State) :
    Internal s (enterOnAlternate q a p s) := by
  unfold Machine.enterOnAlternate
  exact ((Internal.modSeq s q _).trans (.goStable q .onAlternate _)).trans (.ite (.modSeq _ q _) (.refl _))

theorem Internal.enterLockedOut (q : SeqId) (s : State) : Internal s (enterLockedOut q s) := by
  unfold Machine.enterLockedOut
  exact (((Internal.withdrawSeqClose q s).trans (.endUnloadOf q _)).trans (.releaseClaim q _)).trans
    (((Internal.modSeq _ q _).trans (.setReady q false _)).trans (.goStable q .lockedOut _))

theorem Internal.enterDeadBus (q : SeqId) (s : State) : Internal s (enterDeadBus q s) :=
  (Internal.modSeq s q _).trans (.goStable q .deadBus _)

theorem Internal.awaitReply (q : SeqId) (n : Nat) (t : OrdType) (r : State × Reply) :
    Internal r.1 (awaitReply q n t r) := by
  unfold Machine.awaitReply
  split
  · exact .modSeq _ q _
  · exact (Internal.modSeq _ q _).trans (.post _ _)
  · exact (Internal.modSeq _ q _).trans (.post _ _)

theorem Internal.seqOpen (q : SeqId) (n : Nat) (s : State) : Internal s (seqOpen q n s) :=
  (Internal.raiseOpen .schO (.seq q) n s).trans (.awaitReply q n .opn _)

theorem Internal.seqClose (q : SeqId) (n : Nat) (s : State) : Internal s (seqClose q n s) :=
  (Internal.raiseClose .schC (.seq q) n s).trans (.awaitReply q n .close _)

theorem Internal.takeSnapshot (q : SeqId) (s : State) : Internal s (takeSnapshot q s) := .modSeq s q _

theorem Internal.enterDeadWait (q : SeqId) (s : State) : Internal s (enterDeadWait q s) :=
  (Internal.setSeqState q .deadWait s).trans (.modSeq _ q _)

theorem Internal.useTie (q : SeqId) (s : State) : Internal s (useTie q s) :=
  (((Internal.takeClaim q s).trans (.modSeq _ q _)).trans (.setSeqState q .altClosing _)).trans (.seqClose q _ _)

theorem Internal.closeGm (q : SeqId) (s : State) : Internal s (closeGm q s) :=
  ((Internal.modSeq s q _).trans (.setSeqState q .altClosing _)).trans (.seqClose q _ _)

theorem Internal.trial (q : SeqId) (l : List Alt) (s : State) : Internal s (trial q l s) := by
  induction l with
  | nil => exact .enterDeadBus q s
  | cons a rest ih =>
    cases a
    · exact .ite (.useTie q s) ih
    · exact .ite ((Internal.modSeq s q _).trans (.setSeqState q .genWait _)) ih

theorem Internal.alternateFailed (q : SeqId) (a : Alt) (s : State) : Internal s (alternateFailed q a s) := by
  unfold Machine.alternateFailed
  exact ((Internal.ite (.releaseClaim q s) (.refl s)).trans (.modSeq _ q _)).trans (.trial q _ _)

theorem Internal.deadBusTrial (q : SeqId) (l : List Alt) (s : State) : Internal s (deadBusTrial q l s) := by
  induction l with
  | nil => exact .refl s
  | cons a rest ih =>
    cases a
    · exact .ite (.useTie q s) ih
    · exact .ite (.closeGm q s) ih

theorem Internal.loseAlternate (q : SeqId) (s : State) : Internal s (loseAlternate q s) := by
  unfold Machine.loseAlternate
  exact .ite ((Internal.ite (.releaseClaim q s) (.refl s)).trans (.enterDeadBus q _))
    ((Internal.seqOpen q _ s).trans (.goStable q .deadBus _))

theorem Internal.returnClose (q : SeqId) (s : State) : Internal s (returnClose q s) :=
  (Internal.setSeqState q .returnClosing s).trans (.seqClose q _ _)

theorem Internal.enterReturnSync (q : SeqId) (k : ReturnKind) (s : State) : Internal s (enterReturnSync q k s) :=
  ((Internal.modSeq s q _).trans (.setSeqState q .returnSync _)).trans (.seqClose q _ _)

theorem Internal.enterReturnOpening (q : SeqId) (s : State) : Internal s (enterReturnOpening q s) :=
  (Internal.setSeqState q .returnOpening s).trans (.seqOpen q _ _)

theorem Internal.beginReturn (q : SeqId) (s : State) : Internal s (beginReturn q s) := by
  unfold Machine.beginReturn
  exact .ite (.enterReturnOpening q s) (.ite (.enterReturnOpening q s)
    (.ite (.enterReturnSync q .soft s) (.enterReturnSync q .fast s)))

theorem Internal.enterParallelFast (q : SeqId) (s : State) : Internal s (enterParallelFast q s) :=
  ((Internal.setSeqState q .parallelFast s).trans (.modSeq _ q _)).trans (.seqOpen q _ _)

theorem Internal.enterParallelSoft (q : SeqId) (s : State) : Internal s (enterParallelSoft q s) :=
  ((Internal.setSeqState q .parallelSoft s).trans (.modSeq _ q _)).trans (.beginUnload q _ _)

theorem Internal.endSoft (q : SeqId) (s : State) : Internal s (endSoft q s) :=
  (Internal.endUnloadOf q s).trans (.enterParallelFast q _)

theorem Internal.parallelDone (q : SeqId) (s : State) : Internal s (parallelDone q s) := by
  unfold Machine.parallelDone
  exact ((Internal.ite (.releaseClaim q s) (.refl s)).trans (.modSeq _ q _)).trans (.enterPreferred q _)

theorem Internal.raiseOverrun (q : SeqId) (s : State) : Internal s (raiseOverrun q s) := by
  unfold Machine.raiseOverrun
  exact (((Internal.modSeq s q _).trans (.raiseOpen .prot (.seq q) _ _)).trans (.awaitReply q _ .opn _)).trans
    (.takeTrigger _ _)

theorem Internal.derive (q : SeqId) (s : State) : Internal s (derive q s) := by
  unfold Machine.derive
  dsimp only
  have h : Internal s (Machine.setReady q false (s.modSeq q derivedClean)) :=
    (Internal.modSeq s q _).trans (.setReady q false _)
  generalize Machine.setReady q false (s.modSeq q derivedClean) = u at h
  have k : Internal s (Machine.releaseClaim q (u.modSeq q fun x => { x with alt := none })) :=
    h.trans ((Internal.modSeq u q _).trans (.releaseClaim q _))
  exact .ite (k.trans (.goStable q .lockedOut _)) (.ite (k.trans (.enterPreferred q _))
    (.ite ((k.trans (.setSeqState q .lossPending _)).trans (.modSeq _ q _))
      (.ite (k.trans (.enterOnAlternate q .gm _ _))
        (.ite ((h.trans (.takeClaim q u)).trans (.enterOnAlternate q .tie _ _)) (k.trans (.goStable q .deadBus _))))))

theorem Internal.unaskedClose (q : SeqId) (s : State) : Internal s (unaskedClose q s) :=
  (Internal.withdrawSeqClose q s).trans (.derive q _)

theorem Internal.sourceOpened (q : SeqId) (s : State) : Internal s (sourceOpened q s) := by
  unfold Machine.sourceOpened
  exact .ite (.enterOnAlternate q .gm _ s) (.ite ((Internal.takeClaim q s).trans (.enterOnAlternate q .tie _ _))
    (.enterDeadWait q s))

theorem Internal.alternateOutcome (q : SeqId) (t : Told) (s : State) : Internal s (alternateOutcome q t s) := by
  unfold Machine.alternateOutcome
  split
  · exact .refl s
  · split
    · exact .enterOnAlternate q _ false s
    · split
      · exact .setSeqState q .genWait s
      · exact .setSeqState q .genWait s
      · exact .modSeq s q _
      · exact .alternateFailed q _ s

theorem Internal.returnSyncOutcome (q : SeqId) (t : Told) (s : State) : Internal s (returnSyncOutcome q t s) := by
  unfold Machine.returnSyncOutcome
  split
  · split
    · exact .enterParallelSoft q s
    · exact .enterParallelFast q s
  · exact .ite (.enterReturnOpening q s)
      (((Internal.setReady q false s).trans (.goStable q .returnWatch _)).trans (.ite (.modSeq _ q _) (.refl _)))

theorem Internal.parallelOutcome (q : SeqId) (t : Told) (s : State) : Internal s (parallelOutcome q t s) := by
  unfold Machine.parallelOutcome
  exact .ite (.parallelDone q s) (.ite (.raiseOverrun q s) (.enterLockedOut q s))

theorem Internal.returnOpeningOutcome (q : SeqId) (t : Told) (s : State) :
    Internal s (returnOpeningOutcome q t s) := by
  unfold Machine.returnOpeningOutcome
  exact (Internal.ite (.releaseClaim q s) (.refl s)).trans (.ite (.modSeq _ q _) (.enterLockedOut q _))

theorem Internal.returnClosingOutcome (q : SeqId) (t : Told) (s : State) :
    Internal s (returnClosingOutcome q t s) := by
  unfold Machine.returnClosingOutcome
  exact .ite ((Internal.modSeq s q _).trans (.enterPreferred q _)) (.enterDeadBus q s)

theorem Internal.lostOutcome (q : SeqId) (t : Told) (s : State) : Internal s (lostOutcome q t s) := by
  unfold Machine.lostOutcome
  exact (Internal.ite (.releaseClaim q s) (.refl s)).trans (.ite (.modSeq _ q _) (.enterLockedOut q _))

/-- R111: whatever a sequencer is told, its answer is internal. -/
theorem Internal.seqTold (q : SeqId) (n : Nat) (y : OrdType) (tag : Option Nat) (t : Told) (s : State) :
    Internal s (seqTold q n y tag t s) := by
  unfold Machine.seqTold
  split
  · refine (Internal.modSeq s q fun x => { x with awaited := none }).trans ?_
    dsimp only
    split
    · exact .ite (.sourceOpened q _) (.enterLockedOut q _)
    · exact .alternateOutcome q t _
    · exact .returnSyncOutcome q t _
    · exact .parallelOutcome q t _
    · exact .returnOpeningOutcome q t _
    · exact .returnClosingOutcome q t _
    · exact .lostOutcome q t _
    all_goals exact .refl _
  · exact .refl s

theorem Internal.incOpened (q : SeqId) (s : State) : Internal s (incOpened q s) :=
  ((Internal.modSeq s q _).trans (.takeSnapshot q _)).trans (.enterDeadWait q _)

theorem Internal.incLostInParallel (q : SeqId) (s : State) : Internal s (incLostInParallel q s) := by
  unfold Machine.incLostInParallel
  refine ((Internal.endUnloadOf q s).trans (.modSeq _ q fun x =>
    { x with parallel := none, softLimit := none, awaited := none })).trans ?_
  dsimp only
  split
  · exact .enterOnAlternate q _ _ _
  · exact .refl _

theorem Internal.incMoved (q : SeqId) (p : Pos) (s : State) : Internal s (incMoved q p s) := by
  unfold Machine.incMoved
  split
  · exact .ite (.incOpened q s) (.ite (.incLostInParallel q s) (.refl s))
  · exact .ite (.unaskedClose q s) (.refl s)
  all_goals exact .refl s

theorem Internal.alternateMoved (q : SeqId) (a : Alt) (p : Pos) (s : State) :
    Internal s (alternateMoved q a p s) := by
  unfold Machine.alternateMoved
  split
  · exact .ite (.ite (.loseAlternate q s) (.ite (.parallelDone q s)
      (.ite ((Internal.endUnloadOf q s).trans (.parallelDone q _)) (.refl s)))) (.refl s)
  · exact .ite (.unaskedClose q s) (.refl s)
  all_goals exact .refl s

theorem Internal.seqPosition (q : SeqId) (n : Nat) (p : Pos) (s : State) : Internal s (seqPosition q n p s) := by
  unfold Machine.seqPosition
  split
  · exact .ite (.derive q s) (.refl s)
  · split
    · exact .incMoved q p s
    · split
      · exact .alternateMoved q _ p s
      · exact .refl s

theorem Internal.seqBusLocked (q : SeqId) (b : Bus) (s : State) : Internal s (seqBusLocked q b s) := by
  unfold Machine.seqBusLocked
  exact .ite (.enterLockedOut q s) (.refl s)

theorem Internal.heedLockout (q : SeqId) (s : State) : Internal s (heedLockout q s) :=
  .ite (.seqBusLocked q _ s) (.refl s)

theorem Internal.seqBusCleared (q : SeqId) (b : Bus) (s : State) : Internal s (seqBusCleared q b s) := by
  unfold Machine.seqBusCleared
  exact .ite (.derive q s) (.refl s)

/-! ## Updates -/

theorem Internal.takeLoad (q : SeqId) (s : State) : Internal s (takeLoad q s) := by
  unfold Machine.takeLoad
  exact .ite (.modSeq s q _) (.refl s)

theorem Internal.runRestore (q : SeqId) (s : State) : Internal s (runRestore q s) := .modSeq s q _

theorem Internal.updateGenWait (q : SeqId) (s : State) : Internal s (updateGenWait q s) := by
  unfold Machine.updateGenWait
  exact (Internal.runRestore q s).trans (.ite (.alternateFailed q .gm _) (.ite (.closeGm q _) (.refl _)))

theorem Internal.updateOnAlternate (q : SeqId) (s : State) : Internal s (updateOnAlternate q s) := by
  unfold Machine.updateOnAlternate
  exact (Internal.ite (.modSeq s q _) (.refl s)).trans (.ite (.loseAlternate q _)
    (.ite (((Internal.setReady q false _).trans (.setSeqState q .returnWatch _)).trans (.modSeq _ q _)) (.refl _)))

theorem Internal.backToAlternate (q : SeqId) (s : State) : Internal s (backToAlternate q s) := by
  unfold Machine.backToAlternate
  split
  · exact .enterOnAlternate q _ _ s
  · exact .refl s

theorem Internal.updateReturnWatch (q : SeqId) (s : State) : Internal s (updateReturnWatch q s) := by
  unfold Machine.updateReturnWatch
  exact .ite (.loseAlternate q s) (.ite (.refl s) ((Internal.setReady q false s).trans (.backToAlternate q _)))

theorem Internal.updateReturnSync (q : SeqId) (s : State) : Internal s (updateReturnSync q s) := by
  unfold Machine.updateReturnSync
  exact .ite ((Internal.withdrawSeqClose q s).trans (.backToAlternate q _)) (.refl s)

theorem Internal.updateParallelSoft (q : SeqId) (s : State) : Internal s (updateParallelSoft q s) := by
  unfold Machine.updateParallelSoft
  exact .ite (((Internal.endUnloadOf q s).trans (.setSeqState q .sourceOpening _)).trans (.seqOpen q _ _))
    (.ite (.endSoft q s) (.refl s))

theorem Internal.updateDeadBus (q : SeqId) (s : State) : Internal s (updateDeadBus q s) := by
  unfold Machine.updateDeadBus
  exact .ite (.refl s) ((Internal.runRestore q s).trans (.deadBusTrial q _ _))

theorem Internal.updateState (q : SeqId) (s : State) : Internal s (updateState q s) := by
  unfold Machine.updateState
  split
  · exact .ite (.derive q s) (.refl s)
  · exact .ite (.refl s) ((Internal.setSeqState q .lossPending s).trans (.modSeq _ q _))
  · exact .ite ((Internal.modSeq s q _).trans (.enterPreferred q _)) (.refl s)
  · exact .ite (.trial q _ s) (.refl s)
  · exact .updateGenWait q s
  · exact .ite (.seqClose q _ s) (.refl s)
  · exact .updateOnAlternate q s
  · exact .updateReturnWatch q s
  · exact .updateReturnSync q s
  · exact .updateParallelSoft q s
  · exact .ite (.returnClose q s) (.refl s)
  · exact .updateDeadBus q s
  all_goals exact .refl s

/-! ## Expiries, inhibit, park, resume, abort -/

theorem Internal.lossExpired (q : SeqId) (s : State) : Internal s (lossExpired q s) := by
  unfold Machine.lossExpired
  exact .ite (.modSeq s q _) (.ite (.modSeq s q _)
    (((Internal.takeSnapshot q s).trans (.setSeqState q .sourceOpening _)).trans (.seqOpen q _ _)))

theorem Internal.deadExpired (q : SeqId) (s : State) : Internal s (deadExpired q s) := by
  unfold Machine.deadExpired
  refine (Internal.modSeq s q fun x => { x with dead := none }).trans ?_
  dsimp only
  split
  · exact .trial q _ _
  · exact .alternateFailed q .tie _
  · exact .loseAlternate q _
  · exact .returnClose q _
  · exact .refl _

theorem Internal.retransferExpired (q : SeqId) (s : State) : Internal s (retransferExpired q s) := by
  unfold Machine.retransferExpired
  exact (Internal.modSeq s q _).trans (.ite (.setReady q true _) (.beginReturn q _))

theorem Internal.restoreExpired (q : SeqId) (s : State) : Internal s (restoreExpired q s) :=
  (Internal.modSeq s q _).trans (.returnClose q _)

theorem Internal.inhibitEnded (q : SeqId) (s : State) : Internal s (inhibitEnded q s) := by
  unfold Machine.inhibitEnded
  exact .ite ((Internal.modSeq s q _).trans (.lossExpired q _)) (.ite (.beginReturn q s) (.refl s))

theorem Internal.parkSeq (q : SeqId) (s : State) : Internal s (parkSeq q s) := by
  unfold Machine.parkSeq
  exact .ite (.refl s) (.ite (.enterParked q s) (.setPendingPark q true s))

theorem Internal.resumeSeq (q : SeqId) (s : State) : Internal s ((resumeSeq q s).getD s) := by
  unfold Machine.resumeSeq
  dsimp only
  split
  · exact .refl s
  · split
    · split
      · exact .refl s
      · exact .derive q s
    · split
      · exact .setPendingPark q false s
      · split
        · exact .derive q s
        · exact .refl s

theorem Internal.abortSeq (q : SeqId) (s : State) : Internal s ((abortSeq q s).getD s) := by
  unfold Machine.abortSeq
  dsimp only
  split
  · exact .refl s
  · exact (((Internal.withdrawSeqClose q s).trans (.endUnloadOf q _)).trans (.releaseClaim q _)).trans (.derive q _)

theorem Internal.configPark (q : SeqId) (s : State) : Internal s (configPark q s) :=
  ((Internal.enterParked q s).trans (.releaseClaim q _)).trans (.endUnloadOf q _)

theorem Internal.deriveUnparked (q : SeqId) (s : State) : Internal s (deriveUnparked q s) := by
  unfold Machine.deriveUnparked
  exact .ite (.refl s) (.derive q s)

theorem Internal.refreshDemand (s : State) : Internal s (refreshDemand s) := by
  unfold Machine.refreshDemand
  exact ((Internal.modSeq s .seq1 _).trans (.modSeq _ .seq2 _)).trans (.formDemand _)

end Sys2Proof.Machine
end

