-- ==== Sys2Proof/Laws/InternalMail.lean ====
section
/-!
SUPPORT. What the end of a block's act can do, said once: `finish` and everything under it is internal (`Internal`), so a
statement about a command needs only what the command did before it.
-/

set_option Elab.async false

namespace Sys2Proof.Machine

/-- R184: only STARTING ends. -/
theorem Internal.refreshStarting (s : State) : Internal s (refreshStarting s) := by
  unfold Machine.refreshStarting
  dsimp only
  split
  · rename_i c
    refine Internal.trans ?_ (.note _ _)
    exact
      { outside := ⟨rfl, rfl, rfl, rfl, rfl, rfl, rfl, rfl, rfl, rfl, rfl, rfl, rfl, .inr ⟨c.1, rfl⟩⟩
        port1 := id, port2 := id, records := id, views := rfl, biases := id, gens := rfl, channels := rfl
        slots := rfl, lines := id }
  · exact .refl s

theorem Internal.settle (s : State) : Internal s (settle s) :=
  (Internal.refreshDemand s).trans (.refreshStarting _)

theorem Internal.deliver (m : Msg) (s : State) : Internal s (deliver m s) := by
  unfold Machine.deliver
  split
  · exact (Internal.heedLockout _ s).trans (.seqTold _ _ _ _ _ _)
  · exact .parTold _ _ _ _ s
  · exact .refl s
  · exact .refl s
  · exact .refl s
  · exact .otherClose _ _ s
  · exact ((Internal.seqPosition .seq1 _ _ s).trans (.seqPosition .seq2 _ _ _)).trans (.parPosition _ _ _ _)
  · exact (Internal.seqBusLocked .seq1 _ s).trans (.seqBusLocked .seq2 _ _)
  · exact (Internal.seqBusCleared .seq1 _ s).trans (.seqBusCleared .seq2 _ _)

theorem Internal.drain (fuel : Nat) (s : State) : Internal s (drain fuel s) := by
  induction fuel generalizing s with
  | zero => exact .refl s
  | succ n ih =>
    unfold Machine.drain
    split
    · exact .refl s
    · exact (((Internal.takeMail s _).trans (.deliver _ _)).trans (.settle _)).trans (ih _)

/-- The end of a block's act is internal. -/
theorem Internal.finish (s : State) : Internal s (finish s) := (Internal.settle s).trans (.drain _ _)

/-- R76, log 4: what `finish` leaves alone. -/
theorem finish_outside (s : State) : SameOutside s (finish s) := (Internal.finish s).outside

/-- A safe state stays safe through internal acts. -/
theorem State.Safe.internal {s t : State} (h : s.Safe) (k : Internal s t) : t.Safe where
  port1 := k.port1 h.port1
  port2 := k.port2 h.port2
  dup := by rw [k.outside.dup]; exact h.dup
  requests := by rw [k.outside.mgmt]; exact h.requests
  records := k.records h.records
  biases := k.biases h.biases
  lines := by rw [k.outside.mode]; exact k.lines h.lines
  slots := k.slots.trans h.slots
  gens := k.gens.trans h.gens
  channels := k.channels.trans h.channels
  views := k.views.trans h.views
  streams := by rw [k.outside.intake]; exact h.streams
  elements := by rw [k.outside.prot]; exact h.elements

end Sys2Proof.Machine
end

