-- ==== Sys2Proof/Laws/PerInstr.lean ====
section
/-!
SUPPORT. A family of statements over every command: a well-formed command that names a breaker slot names one of the
twenty-five (00_scope.md). One lemma for each constructor.
-/

set_option Elab.async false

namespace Sys2Proof

/-- The breaker slot a command names. -/
def slotNamed : Instr → Option Nat
  | .powerOn => none
  | .linkInitEnd => none
  | .supplyLoss => none
  | .portLinkUp _ => none
  | .portLinkDown _ => none
  | .badFrame _ _ => none
  | .foreignFrame _ _ => none
  | .forwardedFrame _ _ => none
  | .sample _ _ => none
  | .position _ _ => none
  | .genstat _ _ => none
  | .manage _ _ => none
  | .frameTransmitEnd _ => none
  | .retiredNumberExpiry => none
  | .duplicateFilterExpiry => none
  | .fallback => none
  | .streamGood _ => none
  | .streamLost _ => none
  | .holdExpiry _ _ _ => none
  | .divergentSet _ _ => none
  | .divergentClear _ _ => none
  | .directionMemoryExpiry n _ => some n
  | .trackerEmpty _ => none
  | .qualifierDeclare _ => none
  | .tocOperate _ => none
  | .definiteTimeOperate _ => none
  | .tocResetEnd _ => none
  | .orderRepeat n => some n
  | .openLimitExpiry n => some n
  | .closeLimitExpiry n => some n
  | .withdrawResend n => some n
  | .travelTimeout n => some n
  | .positionSilence n => some n
  | .operatorWindowExpiry n => some n
  | .bfOperate n => some n
  | .lockoutStoreWriteEnd => none
  | .directTripRelease n => some n
  | .startupTimerExpiry _ => none
  | .lossTimerExpiry _ => none
  | .deadTimerExpiry _ => none
  | .retransferTimerExpiry _ => none
  | .parallelTimerExpiry _ => none
  | .softLimitExpiry _ => none
  | .restoreTimerExpiry _ => none
  | .inhibitEnd => none
  | .stopTimerExpiry => none
  | .statusLoss _ => none
  | .syncFire _ => none
  | .syncWaitLimit n => some n
  | .noticeSend => none
  | .readStatus => none
  | .readPoint => none
  | .readBreaker => none
  | .readElement => none
  | .readGenerator => none
  | .readRow => none
  | .writeRow => none
  | .enterConfig => none
  | .commit => none
  | .discard => none
  | .discardRead => none
  | .selectGroup => none
  | .setMode => none
  | .operate => none
  | .resetLockout => none
  | .clear => none
  | .inhibitTransfer => none
  | .park => none
  | .resume => none
  | .abort => none
  | .retransferNow => none
  | .readRecord => none
  | .discardRecord => none
  | .restart => none
  | .warmRestart => none
  | .settingsWriteEnd _ => none
  | .loadingEnd => none
  | .emulatedMoveDue n => some n

/-- A well-formed command names a slot from 0 to 24. -/
def Laws.SlotNumbers.Statement (i : Instr) : Prop := i.wf = true → ∀ n, slotNamed i = some n → n < 25

theorem Laws.SlotNumbers.powerOn : Laws.SlotNumbers.Statement (.powerOn) := by
  intro _ n hn
  simp [slotNamed] at hn

theorem Laws.SlotNumbers.linkInitEnd : Laws.SlotNumbers.Statement (.linkInitEnd) := by
  intro _ n hn
  simp [slotNamed] at hn

theorem Laws.SlotNumbers.supplyLoss : Laws.SlotNumbers.Statement (.supplyLoss) := by
  intro _ n hn
  simp [slotNamed] at hn

theorem Laws.SlotNumbers.portLinkUp (p : Port) : Laws.SlotNumbers.Statement (.portLinkUp p) := by
  intro _ n hn
  simp [slotNamed] at hn

theorem Laws.SlotNumbers.portLinkDown (p : Port) : Laws.SlotNumbers.Statement (.portLinkDown p) := by
  intro _ n hn
  simp [slotNamed] at hn

theorem Laws.SlotNumbers.badFrame (p : Port) (f : EthFrame) : Laws.SlotNumbers.Statement (.badFrame p f) := by
  intro _ n hn
  simp [slotNamed] at hn

theorem Laws.SlotNumbers.foreignFrame (p : Port) (f : EthFrame) : Laws.SlotNumbers.Statement (.foreignFrame p f) := by
  intro _ n hn
  simp [slotNamed] at hn

theorem Laws.SlotNumbers.forwardedFrame (p : Port) (f : EthFrame) : Laws.SlotNumbers.Statement (.forwardedFrame p f) := by
  intro _ n hn
  simp [slotNamed] at hn

theorem Laws.SlotNumbers.sample (p : Port) (f : EthFrame) : Laws.SlotNumbers.Statement (.sample p f) := by
  intro _ n hn
  simp [slotNamed] at hn

theorem Laws.SlotNumbers.position (p : Port) (f : EthFrame) : Laws.SlotNumbers.Statement (.position p f) := by
  intro _ n hn
  simp [slotNamed] at hn

theorem Laws.SlotNumbers.genstat (p : Port) (f : EthFrame) : Laws.SlotNumbers.Statement (.genstat p f) := by
  intro _ n hn
  simp [slotNamed] at hn

theorem Laws.SlotNumbers.manage (p : Port) (f : EthFrame) : Laws.SlotNumbers.Statement (.manage p f) := by
  intro _ n hn
  simp [slotNamed] at hn

theorem Laws.SlotNumbers.frameTransmitEnd (p : Port) : Laws.SlotNumbers.Statement (.frameTransmitEnd p) := by
  intro _ n hn
  simp [slotNamed] at hn

theorem Laws.SlotNumbers.retiredNumberExpiry : Laws.SlotNumbers.Statement (.retiredNumberExpiry) := by
  intro _ n hn
  simp [slotNamed] at hn

theorem Laws.SlotNumbers.duplicateFilterExpiry : Laws.SlotNumbers.Statement (.duplicateFilterExpiry) := by
  intro _ n hn
  simp [slotNamed] at hn

theorem Laws.SlotNumbers.fallback : Laws.SlotNumbers.Statement (.fallback) := by
  intro _ n hn
  simp [slotNamed] at hn

theorem Laws.SlotNumbers.streamGood (sub : Nat) : Laws.SlotNumbers.Statement (.streamGood sub) := by
  intro _ n hn
  simp [slotNamed] at hn

theorem Laws.SlotNumbers.streamLost (sub : Nat) : Laws.SlotNumbers.Statement (.streamLost sub) := by
  intro _ n hn
  simp [slotNamed] at hn

theorem Laws.SlotNumbers.holdExpiry (pt : PointId) (ph : Phase) (kind : HoldKind) : Laws.SlotNumbers.Statement (.holdExpiry pt ph kind) := by
  intro _ n hn
  simp [slotNamed] at hn

theorem Laws.SlotNumbers.divergentSet (pt : PointId) (ph : Phase) : Laws.SlotNumbers.Statement (.divergentSet pt ph) := by
  intro _ n hn
  simp [slotNamed] at hn

theorem Laws.SlotNumbers.divergentClear (pt : PointId) (ph : Phase) : Laws.SlotNumbers.Statement (.divergentClear pt ph) := by
  intro _ n hn
  simp [slotNamed] at hn

theorem Laws.SlotNumbers.directionMemoryExpiry (slot : Nat) (ph : Phase) : Laws.SlotNumbers.Statement (.directionMemoryExpiry slot ph) := by
  intro h n hn
  simp only [slotNamed, Option.some.injEq] at hn
  simp_all [Instr.wf, slotOk]

theorem Laws.SlotNumbers.trackerEmpty (v : Nat) : Laws.SlotNumbers.Statement (.trackerEmpty v) := by
  intro _ n hn
  simp [slotNamed] at hn

theorem Laws.SlotNumbers.qualifierDeclare (v : Nat) : Laws.SlotNumbers.Statement (.qualifierDeclare v) := by
  intro _ n hn
  simp [slotNamed] at hn

theorem Laws.SlotNumbers.tocOperate (row : Nat) : Laws.SlotNumbers.Statement (.tocOperate row) := by
  intro _ n hn
  simp [slotNamed] at hn

theorem Laws.SlotNumbers.definiteTimeOperate (row : Nat) : Laws.SlotNumbers.Statement (.definiteTimeOperate row) := by
  intro _ n hn
  simp [slotNamed] at hn

theorem Laws.SlotNumbers.tocResetEnd (row : Nat) : Laws.SlotNumbers.Statement (.tocResetEnd row) := by
  intro _ n hn
  simp [slotNamed] at hn

theorem Laws.SlotNumbers.orderRepeat (slot : Nat) : Laws.SlotNumbers.Statement (.orderRepeat slot) := by
  intro h n hn
  simp only [slotNamed, Option.some.injEq] at hn
  simp_all [Instr.wf, slotOk]

theorem Laws.SlotNumbers.openLimitExpiry (slot : Nat) : Laws.SlotNumbers.Statement (.openLimitExpiry slot) := by
  intro h n hn
  simp only [slotNamed, Option.some.injEq] at hn
  simp_all [Instr.wf, slotOk]

theorem Laws.SlotNumbers.closeLimitExpiry (slot : Nat) : Laws.SlotNumbers.Statement (.closeLimitExpiry slot) := by
  intro h n hn
  simp only [slotNamed, Option.some.injEq] at hn
  simp_all [Instr.wf, slotOk]

theorem Laws.SlotNumbers.withdrawResend (slot : Nat) : Laws.SlotNumbers.Statement (.withdrawResend slot) := by
  intro h n hn
  simp only [slotNamed, Option.some.injEq] at hn
  simp_all [Instr.wf, slotOk]

theorem Laws.SlotNumbers.travelTimeout (slot : Nat) : Laws.SlotNumbers.Statement (.travelTimeout slot) := by
  intro h n hn
  simp only [slotNamed, Option.some.injEq] at hn
  simp_all [Instr.wf, slotOk]

theorem Laws.SlotNumbers.positionSilence (slot : Nat) : Laws.SlotNumbers.Statement (.positionSilence slot) := by
  intro h n hn
  simp only [slotNamed, Option.some.injEq] at hn
  simp_all [Instr.wf, slotOk]

theorem Laws.SlotNumbers.operatorWindowExpiry (slot : Nat) : Laws.SlotNumbers.Statement (.operatorWindowExpiry slot) := by
  intro h n hn
  simp only [slotNamed, Option.some.injEq] at hn
  simp_all [Instr.wf, slotOk]

theorem Laws.SlotNumbers.bfOperate (slot : Nat) : Laws.SlotNumbers.Statement (.bfOperate slot) := by
  intro h n hn
  simp only [slotNamed, Option.some.injEq] at hn
  simp_all [Instr.wf, slotOk]

theorem Laws.SlotNumbers.lockoutStoreWriteEnd : Laws.SlotNumbers.Statement (.lockoutStoreWriteEnd) := by
  intro _ n hn
  simp [slotNamed] at hn

theorem Laws.SlotNumbers.directTripRelease (slot : Nat) : Laws.SlotNumbers.Statement (.directTripRelease slot) := by
  intro h n hn
  simp only [slotNamed, Option.some.injEq] at hn
  simp_all [Instr.wf, slotOk]

theorem Laws.SlotNumbers.startupTimerExpiry (q : SeqId) : Laws.SlotNumbers.Statement (.startupTimerExpiry q) := by
  intro _ n hn
  simp [slotNamed] at hn

theorem Laws.SlotNumbers.lossTimerExpiry (q : SeqId) : Laws.SlotNumbers.Statement (.lossTimerExpiry q) := by
  intro _ n hn
  simp [slotNamed] at hn

theorem Laws.SlotNumbers.deadTimerExpiry (q : SeqId) : Laws.SlotNumbers.Statement (.deadTimerExpiry q) := by
  intro _ n hn
  simp [slotNamed] at hn

theorem Laws.SlotNumbers.retransferTimerExpiry (q : SeqId) : Laws.SlotNumbers.Statement (.retransferTimerExpiry q) := by
  intro _ n hn
  simp [slotNamed] at hn

theorem Laws.SlotNumbers.parallelTimerExpiry (q : SeqId) : Laws.SlotNumbers.Statement (.parallelTimerExpiry q) := by
  intro _ n hn
  simp [slotNamed] at hn

theorem Laws.SlotNumbers.softLimitExpiry (q : SeqId) : Laws.SlotNumbers.Statement (.softLimitExpiry q) := by
  intro _ n hn
  simp [slotNamed] at hn

theorem Laws.SlotNumbers.restoreTimerExpiry (q : SeqId) : Laws.SlotNumbers.Statement (.restoreTimerExpiry q) := by
  intro _ n hn
  simp [slotNamed] at hn

theorem Laws.SlotNumbers.inhibitEnd : Laws.SlotNumbers.Statement (.inhibitEnd) := by
  intro _ n hn
  simp [slotNamed] at hn

theorem Laws.SlotNumbers.stopTimerExpiry : Laws.SlotNumbers.Statement (.stopTimerExpiry) := by
  intro _ n hn
  simp [slotNamed] at hn

theorem Laws.SlotNumbers.statusLoss (gen : Nat) : Laws.SlotNumbers.Statement (.statusLoss gen) := by
  intro _ n hn
  simp [slotNamed] at hn

theorem Laws.SlotNumbers.syncFire (channel : Nat) : Laws.SlotNumbers.Statement (.syncFire channel) := by
  intro _ n hn
  simp [slotNamed] at hn

theorem Laws.SlotNumbers.syncWaitLimit (slot : Nat) : Laws.SlotNumbers.Statement (.syncWaitLimit slot) := by
  intro h n hn
  simp only [slotNamed, Option.some.injEq] at hn
  simp_all [Instr.wf, slotOk]

theorem Laws.SlotNumbers.noticeSend : Laws.SlotNumbers.Statement (.noticeSend) := by
  intro _ n hn
  simp [slotNamed] at hn

theorem Laws.SlotNumbers.readStatus : Laws.SlotNumbers.Statement (.readStatus) := by
  intro _ n hn
  simp [slotNamed] at hn

theorem Laws.SlotNumbers.readPoint : Laws.SlotNumbers.Statement (.readPoint) := by
  intro _ n hn
  simp [slotNamed] at hn

theorem Laws.SlotNumbers.readBreaker : Laws.SlotNumbers.Statement (.readBreaker) := by
  intro _ n hn
  simp [slotNamed] at hn

theorem Laws.SlotNumbers.readElement : Laws.SlotNumbers.Statement (.readElement) := by
  intro _ n hn
  simp [slotNamed] at hn

theorem Laws.SlotNumbers.readGenerator : Laws.SlotNumbers.Statement (.readGenerator) := by
  intro _ n hn
  simp [slotNamed] at hn

theorem Laws.SlotNumbers.readRow : Laws.SlotNumbers.Statement (.readRow) := by
  intro _ n hn
  simp [slotNamed] at hn

theorem Laws.SlotNumbers.writeRow : Laws.SlotNumbers.Statement (.writeRow) := by
  intro _ n hn
  simp [slotNamed] at hn

theorem Laws.SlotNumbers.enterConfig : Laws.SlotNumbers.Statement (.enterConfig) := by
  intro _ n hn
  simp [slotNamed] at hn

theorem Laws.SlotNumbers.commit : Laws.SlotNumbers.Statement (.commit) := by
  intro _ n hn
  simp [slotNamed] at hn

theorem Laws.SlotNumbers.discard : Laws.SlotNumbers.Statement (.discard) := by
  intro _ n hn
  simp [slotNamed] at hn

theorem Laws.SlotNumbers.discardRead : Laws.SlotNumbers.Statement (.discardRead) := by
  intro _ n hn
  simp [slotNamed] at hn

theorem Laws.SlotNumbers.selectGroup : Laws.SlotNumbers.Statement (.selectGroup) := by
  intro _ n hn
  simp [slotNamed] at hn

theorem Laws.SlotNumbers.setMode : Laws.SlotNumbers.Statement (.setMode) := by
  intro _ n hn
  simp [slotNamed] at hn

theorem Laws.SlotNumbers.operate : Laws.SlotNumbers.Statement (.operate) := by
  intro _ n hn
  simp [slotNamed] at hn

theorem Laws.SlotNumbers.resetLockout : Laws.SlotNumbers.Statement (.resetLockout) := by
  intro _ n hn
  simp [slotNamed] at hn

theorem Laws.SlotNumbers.clear : Laws.SlotNumbers.Statement (.clear) := by
  intro _ n hn
  simp [slotNamed] at hn

theorem Laws.SlotNumbers.inhibitTransfer : Laws.SlotNumbers.Statement (.inhibitTransfer) := by
  intro _ n hn
  simp [slotNamed] at hn

theorem Laws.SlotNumbers.park : Laws.SlotNumbers.Statement (.park) := by
  intro _ n hn
  simp [slotNamed] at hn

theorem Laws.SlotNumbers.resume : Laws.SlotNumbers.Statement (.resume) := by
  intro _ n hn
  simp [slotNamed] at hn

theorem Laws.SlotNumbers.abort : Laws.SlotNumbers.Statement (.abort) := by
  intro _ n hn
  simp [slotNamed] at hn

theorem Laws.SlotNumbers.retransferNow : Laws.SlotNumbers.Statement (.retransferNow) := by
  intro _ n hn
  simp [slotNamed] at hn

theorem Laws.SlotNumbers.readRecord : Laws.SlotNumbers.Statement (.readRecord) := by
  intro _ n hn
  simp [slotNamed] at hn

theorem Laws.SlotNumbers.discardRecord : Laws.SlotNumbers.Statement (.discardRecord) := by
  intro _ n hn
  simp [slotNamed] at hn

theorem Laws.SlotNumbers.restart : Laws.SlotNumbers.Statement (.restart) := by
  intro _ n hn
  simp [slotNamed] at hn

theorem Laws.SlotNumbers.warmRestart : Laws.SlotNumbers.Statement (.warmRestart) := by
  intro _ n hn
  simp [slotNamed] at hn

theorem Laws.SlotNumbers.settingsWriteEnd (readBackOk : Bool) : Laws.SlotNumbers.Statement (.settingsWriteEnd readBackOk) := by
  intro _ n hn
  simp [slotNamed] at hn

theorem Laws.SlotNumbers.loadingEnd : Laws.SlotNumbers.Statement (.loadingEnd) := by
  intro _ n hn
  simp [slotNamed] at hn

theorem Laws.SlotNumbers.emulatedMoveDue (slot : Nat) : Laws.SlotNumbers.Statement (.emulatedMoveDue slot) := by
  intro h n hn
  simp only [slotNamed, Option.some.injEq] at hn
  simp_all [Instr.wf, slotOk]

end Sys2Proof
end

