-- ==== Sys2Proof/Tests/Slice0.lean ====
section
/-!
SUPPORT. Tests: the check of well-formedness on ill-formed commands, worked cases of the chapters (each named with its
source), and for every statement with hypotheses a concrete state and operands that meet them. Witness theorems are named
test_wit_ and the statement's name.
-/

set_option Elab.async false
set_option maxRecDepth 8000

namespace Sys2Proof.Tests

open Sys2Proof.Machine

/-! ## Small states -/

/-- `State.Safe` as a check. -/
def safeB (s : State) : Bool :=
  let port := fun (p : PortState) => decide (p.urgent.length ≤ 8 ∧ p.stream.length ≤ 32 ∧ p.bulk.length ≤ 16)
  port s.link.p1 && port s.link.p2 && decide (s.link.dup.length ≤ 8) && decide (s.mgmt.requests.length ≤ 4) &&
    decide (s.records.queue.length ≤ 16) && s.par.gens.all (fun g => decide (-1000 ≤ g.bias ∧ g.bias ≤ 1000)) &&
    (decide (s.mgmt.mode = .live) || s.arb.slots.all fun x => x.lineOn.isNone) && decide (s.arb.slots.length = 25) &&
    decide (s.par.gens.length = 8) && decide (s.par.channels.length = 4) && decide (s.records.bfView.length = 25) &&
    decide (s.intake.streams.length = 48) && decide (s.prot.slots.length = 64)

theorem safe_of {s : State} (h : safeB s = true) : s.Safe := by
  simp only [safeB, Bool.and_eq_true, Bool.or_eq_true, decide_eq_true_eq, List.all_eq_true] at h
  obtain ⟨⟨⟨⟨⟨⟨⟨⟨⟨⟨⟨⟨a, b⟩, c⟩, d⟩, e⟩, f⟩, g⟩, i⟩, j⟩, k⟩, l⟩, m⟩, n⟩ := h
  refine ⟨a, b, c, d, e, f, ?_, i, j, k, l, m, n⟩
  intro hm x hx
  rcases g with g | g
  · exact absurd g hm
  · exact Option.isNone_iff_eq_none.1 (g x hx)

/-- The tables of a small station: two incomers, TIE, both generator mains, G1 and G2 with their breakers, and feeder 13. -/
def tables : Tables :=
  let unit := fun (n v : Nat) => ({ present := true, station := 600 + n, vref := some v, bfUpdates := some 30 } : BreakerRow)
  { site := { fNom := some 50, vn := some 6350, station := some 210, noticeDest := some 500 }
    managers := [⟨true, 500, .operate⟩, ⟨true, 501, .view⟩, {}, {}]
    subs := ⟨300, 0, 3, true⟩ :: List.replicate 47 {}
    breakers := [unit 0 0, unit 1 1, unit 2 2, unit 3 4, unit 4 4, unit 5 4, unit 6 4] ++ List.replicate 6 {} ++
      [unit 13 2] ++ List.replicate 11 {}
    curves := { points := [(16, 100), (20, 600), (24, 1200), (32, 2000), (40, 3500), (64, 9000), (160, 25000)]
                resetRate := 20000 } :: List.replicate 7 {}
    elemsA := { enabled := true, pickup := 400, td := 50, resetMode := .timed, trip := [13], lockout := .bus .bus1 } ::
      { enabled := true, kind := .ioc, pickup := 400, trip := [13], lockout := .breaker } :: List.replicate 62 {}
    gens := [⟨true, 700, 2000, 1⟩, ⟨true, 700, 1000, 2⟩] ++ List.replicate 6 {} }

/-- A part in SERVICE at 10 s, station 210, both ports UP, every breaker OPEN, both sequencers in DEAD_BUS. -/
def base : State :=
  { now := 10000000
    link := { running := true, p1 := { up := true }, p2 := { up := true }, station := some 210 }
    arb := { slots := List.replicate 25 { position := .opn } }
    seqs := { seq1 := { state := .deadBus }, seq2 := { state := .deadBus } }
    mgmt := { part := .service false, image := some ⟨tables, .a⟩, serviceAt := some 0 } }

/-- `base` with a request of kind `k` of manager 500 at the head of the queue. -/
def ask (k : Kind) (a : Args) : State := base.modMgmt fun m => { m with requests := [⟨500, 7, kindCodeOf k, a⟩] }

/-- The request of `ask`. -/
def req (k : Kind) (a : Args) : Request := ⟨500, 7, kindCodeOf k, a⟩

/-- `base` with slot `n` replaced. -/
def withSlot (n : Nat) (a : ArbSlot) : State := base.modSlot n fun _ => a

/-- `s` with a sequencer replaced. -/
def withSeq (q : SeqId) (x : Seq) (s : State) : State := s.modSeq q fun _ => x

/-- `s` with the declared state of voltage points set. -/
def declare (l : List (Nat × VClass)) (s : State) : State :=
  s.modMeas fun m => { m with volt := l.foldl (fun v p => modAt v p.1 fun x => { x with declared := p.2 }) m.volt }

/-- The state an outcome answers, and `State.reset` where it answers none. -/
def after (x : Host.Outcome State Fault Refusal) : State :=
  match x with
  | .next s => s
  | _ => State.reset

/-- A vendor frame of at least the minimum length. -/
def frame (k : FrameKind) (dest src : Nat) (payload : List Nat) (a : Args := .absent) : EthFrame :=
  let b := [1, kindCode k, dest / 256, dest % 256, src / 256, src % 256, 0, payload.length] ++ payload
  ⟨BitVec.allOnes 48, 0x0200000000A1, true, 0x9A31, (b ++ List.replicate (46 - b.length) 0).map fun x => BitVec.ofNat 8 x, a⟩

/-- A frame that is no vendor frame, of `n` bytes in all. -/
def foreign (n : Nat) : EthFrame := ⟨0x0200000000B2, 0x0200000000C3, true, 0x0800, List.replicate (n - 18) 0, .absent⟩

/-! ## Well-formedness: an ill-formed command for each check -/

theorem test_wf_refuses_ill_formed :
    [Instr.badFrame .p1 (foreign 64), .foreignFrame .p1 (frame .order 1 1 [0, 1, 0, 1]),
      .forwardedFrame .p1 (frame .sample 65535 300 [0, 1, 0, 0, 1, 0, 0]), .sample .p1 (foreign 64),
      .position .p1 (foreign 64), .genstat .p1 (foreign 64), .manage .p1 (foreign 64), .streamGood 48, .streamLost 48,
      .holdExpiry (.cur 25) .a .missing, .holdExpiry (.volt 0) .n .clipped, .divergentSet (.volt 13) .a,
      .divergentClear (.volt 0) .n, .directionMemoryExpiry 25 .a, .trackerEmpty 13, .qualifierDeclare 13, .tocOperate 64,
      .definiteTimeOperate 64, .tocResetEnd 64, .orderRepeat 25, .openLimitExpiry 25, .closeLimitExpiry 25,
      .withdrawResend 25, .travelTimeout 25, .positionSilence 25, .operatorWindowExpiry 25, .bfOperate 25,
      .directTripRelease 25, .statusLoss 0, .statusLoss 9, .syncFire 4, .syncWaitLimit 25, .emulatedMoveDue 25].all
        (fun c => !c.wf) = true := by decide

theorem test_wf_accepts :
    [Instr.badFrame .p1 (foreign 63), .foreignFrame .p1 (foreign 64),
      .forwardedFrame .p2 (frame .order 210 600 [0, 1, 0, 1]), .sample .p1 (frame .sample 65535 300 [0, 1, 0, 0, 1, 0, 0]),
      .position .p1 (frame .position 65535 600 [0, 1, 0]), .genstat .p1 (frame .genstat 65535 700 [1, 1, 1, 0, 0]),
      .manage .p1 (frame .manage 210 500 [0, 7, 1]), .holdExpiry (.cur 24) .n .missing, .statusLoss 8, .syncFire 3,
      .emulatedMoveDue 24].all (fun c => c.wf) = true := by decide

/-- No row of the table has bits. -/
theorem test_no_word_spells_a_command (n w : Nat) : decodeTableWord n w = none := rfl

/-! ## Worked cases of the chapters -/

/-- Chapter 3.2: the sum of squares 6,400,000,000 gives 14,142 counts and 7,071 V. -/
theorem test_rms_worked_case : floorSqrt (6400000000 / 32) = 14142 ∧ publishRms 14142 500 = 7071 := by decide

/-- Chapter 3.4: sum4 = 32,899 at 50 Hz gives 49,800 mHz. -/
theorem test_frequency_worked_case :
    frequencyOf 50 { times := [288979, 280754, 272529, 264304, 256080], accepted := 5 } = some 49800 ∧
      frequencyOf 50 { times := [280754, 272529, 264304, 256080], accepted := 4 } = none := by decide

/-- Chapter 3.4: the pair −1,200, 2,600 at positions 1,000 and 1,001 crosses at 256,080. -/
theorem test_crossing_worked_case :
    let hist : List Int := List.replicate 7 5 ++ [2600, -1200] ++ List.replicate 23 (-5)
    crossingAt 1008 6 hist = none ∧ crossingAt 1008 7 hist = some 256080 := by decide

/-- Chapter 4.5: at 1,000 A the increment is 7,000, at 700 A 2,400, at 65,535 A with pickup 100 A and TD 5 500,000; the
decrement is 40,000 and the dropout threshold 380 A. -/
theorem test_toc_worked_case :
    let c := tables.curves.getD 0 {}
    let r := tables.elemsA.getD 0 {}
    tocIncrement c r 1000 = 7000 ∧ tocIncrement c r 700 = 2400 ∧
      tocIncrement c { r with pickup := 100, td := 5 } 65535 = 500000 ∧ tocDecrement c r = 40000 ∧ dropout r = 380 ∧
      (evalToc c r 1000 9 { state := .timing, acc := 994000 }).state = .operated ∧
      (evalToc c r 1000 9 { state := .resetting, acc := 600000 }).acc = 607000 ∧
      (evalToc c r 381 9 { state := .timing, acc := 5 }).acc = 5 ∧ (evalToc c r 0 9 { state := .resetting, acc := 40000 }) = {} := by
  decide

/-- Chapter 5.13: 150 ms are 30 updates at 50 Hz. -/
theorem test_bf_time_in_updates : msToUpdates 50 150 = 30 ∧ msToUpdates 60 150 = 36 := by decide

/-- Chapter 7.7: at slip 100 mHz and angle −600 with a closing time of 150 ms the prediction is −60 and holds; at −2,100 it
is −1,560 and does not; a slip of 6 mHz at −1,200 does not hold. -/
theorem test_sync_worked_case :
    angleHolds 1000 150 (-600) 100 = true ∧ angleHolds 1000 150 (-2100) 100 = false ∧
      angleHolds 1000 150 (-1200) 6 = false ∧ wrapAngle (-2100 + 540) = -1560 := by decide

/-- Chapter 7.9: the three sharing updates of G1 and G2. -/
theorem test_sharing_worked_case :
    shareStep 200 10 2000 1600 1800 0 0 0 = (-50, -5) ∧ shareStep 200 10 1000 800 600 0 0 0 = (50, 10) ∧
      shareStep 200 10 2000 1600 1800 (-50) (-5) 0 = (-87, -13) ∧ shareStep 200 10 1000 800 600 50 10 0 = (87, 20) ∧
      shareStep 200 10 2000 1600 1700 (-87) (-13) 0 = (-90, -22) ∧ shareStep 200 10 1000 800 700 87 20 0 = (90, 30) := by
  decide

/-- Chapter 7.8: trims at slips of +20, +100 and −150 mHz. -/
theorem test_trim_notes : limitTrim (100 - 20) = 4 ∧ limitTrim (100 - 100) = 0 ∧ limitTrim (100 + 150) = 10 := by decide

/-- Chapter 7.10: r is 3 kW at 50 Hz and 2 kW at 60 Hz. -/
theorem test_unload_worked_case : max 1 (ceilDiv (3000 * 2) (100 * 25)) = 3 ∧ max 1 (ceilDiv (3000 * 2) (100 * 30)) = 2 := by
  decide

/-- R180: the check value of the CRC-32 over the nine characters 1 to 9 is CBF43926 hexadecimal, as published for this
polynomial and convention. -/
theorem test_crc32_check_value :
    crc32 ([49, 50, 51, 52, 53, 54, 55, 56, 57].map fun x => BitVec.ofNat 8 x) = 0xCBF43926#32 := by decide

/-- Chapter 5.13 at t = 30: a PROT open preempts the close 42 that was sent: its result is PREEMPTED, a WITHDRAW with tag 42
runs, the open has tag 43, breaker failure is TIMING and the line is energized. -/
theorem test_preempted_close :
    let s := (withSlot 1 { position := .opn, lastTag := some 42, order := some { type := .close, causes := [.schC], tag := 42, phase := .issued, issueTime := some 0, requesters := [.seq .seq2] } }).modMgmt
      fun m => { m with image := m.image.map fun im => { im with tables := { im.tables with
        breakers := modAt im.tables.breakers 1 fun b => { b with line := some 1 } } } }
    let a := (raiseOpen .prot .prot 1 s).1.slot 1
    a.lastTag = some 43 ∧ a.order.map (fun o => (o.type, o.tag, o.causes, o.phase)) = some (.opn, 43, [.prot], .issued) ∧
      a.lastResult = some ⟨.close, 42, [.schC], .preempted⟩ ∧ a.withdraw = some ⟨42, .schC, 2, 10010000⟩ ∧
      a.bf = .timing ∧ a.bfTimer = 0 ∧ a.lineOn = some 10000000 := by decide

/-- Chapter 10.4: a second frame with the same pair makes the position OPEN; one frame does not. -/
theorem test_debounce :
    let f := frame .position 65535 613 [13, 1, 255]
    let s := withSlot 13 { position := .closed, prevPair := some ⟨false, true⟩, acceptedPair := some ⟨false, true⟩ }
    let once := after (exec (.position .p1 f) s)
    (once.slot 13).position = .closed ∧ (once.slot 13).lastTag = some 255 ∧
      ((after (exec (.position .p2 f) once)).slot 13).position = .opn := by decide

/-- Chapter 10.5: with UA declared HEALTHY and the INC closed, derivation gives PREFERRED; on a closed INC with a dead
utility it gives LOSS_PENDING with its timer. -/
theorem test_derivation :
    let s := withSlot 0 { position := .closed }
    ((derive .seq1 (declare [(0, .healthy)] s)).seq .seq1).state = .preferred ∧
      ((derive .seq1 s).seq .seq1).state = .lossPending ∧ ((derive .seq1 s).seq .seq1).loss = some 11000000 := by decide

/-! ## Statements with hypotheses: states and operands that meet them -/

/-- `Inward` as a check. -/
def inwardB (k : FrameKind) (p : Port) (f : EthFrame) (h : Header) (s : State) : Bool :=
  receiving s p && decide (frameClass f = .vendor h) && decide (h.kind = k) && offeredInward s h

theorem inward_of {k : FrameKind} {p : Port} {f : EthFrame} {h : Header} {s : State}
    (e : inwardB k p f h s = true) : Inward k p f h s := by
  simp only [inwardB, Bool.and_eq_true, decide_eq_true_eq] at e
  exact ⟨e.1.1.1, e.1.1.2, e.1.2, e.2⟩

/-- `SampleFor` as a check. -/
def sampleB (p : Port) (f : EthFrame) (h : Header) (x : SamplePayload) (r : Nat) (s : State) : Bool :=
  inwardB .sample p f h s && decide (samplePayload h f.body = some x) && decide (subscriptionOf s h.src x.stream = some r) &&
    decide (x.values.length = (s.sub r).count)

theorem sample_of {p : Port} {f : EthFrame} {h : Header} {x : SamplePayload} {r : Nat} {s : State}
    (e : sampleB p f h x r s = true) : SampleFor p f h x r s := by
  simp only [sampleB, Bool.and_eq_true, decide_eq_true_eq] at e
  exact ⟨inward_of e.1.1.1, e.1.1.2, e.1.2, e.2⟩

/-- `Taken` as a check. -/
def takenB (k : Kind) (r : Request) (rest : List Request) (s : State) : Bool :=
  decide (s.mgmt.requests = r :: rest) && decide (r.kind = kindCodeOf k) && unitFree s &&
    ((managerRights s r.src).any fun x => includesRight x (rightOf k)) && argsShape k r.args && takenNow k s.mgmt.part &&
    argsNumbered r.args

theorem taken_of {k : Kind} {r : Request} {rest : List Request} {s : State} (e : takenB k r rest s = true) :
    Taken k r rest s := by
  simp only [takenB, Bool.and_eq_true, decide_eq_true_eq, Option.any_eq_true] at e
  exact ⟨e.1.1.1.1.1.1, e.1.1.1.1.1.2, e.1.1.1.1.2, e.1.1.1.2, e.1.1.2, e.1.2, e.2⟩

/-- `PastLimit` as a check. -/
def pastB (n : Nat) (t : OrdType) (limit : Nat) (o : Order) (issued : Nat) (s : State) : Bool :=
  decide (n < 25 ∧ (s.slot n).order = some o ∧ o.type = t ∧ o.phase = .issued ∧ o.issueTime = some issued ∧
    issued + limit * 1000 ≤ s.now)

theorem past_of {n : Nat} {t : OrdType} {limit : Nat} {o : Order} {issued : Nat} {s : State}
    (e : pastB n t limit o issued s = true) : PastLimit n t limit o issued s := by
  simp only [pastB, decide_eq_true_eq] at e
  exact ⟨e.1, e.2.1, e.2.2.1, e.2.2.2.1, e.2.2.2.2.1, e.2.2.2.2.2⟩

theorem base_safe : base.Safe := safe_of (by decide)

/-- `base` with another Link Unit. -/
def withLink (f : Link → Link) : State := base.modLink f

theorem test_wit_IdleTickQueuesWhatIsDue :
    let s := { base.modSeqs fun x => { x with inhibit := some 10000001 } with now := 10000001 }
    base.pending = [] ∧ DueNow s .inhibitEnd ∧ .inhibitEnd ∈ due s :=
  ⟨rfl, .inhibit 10000001 rfl (Nat.le_refl _), by decide⟩

theorem test_wit_StepKeepsSafe : base.Safe ∧ (∃ t, step base = .next t) ∧
    ({ base with pending := [.restart] } : State).Safe ∧ ∃ t, step { base with pending := [.restart] } = .next t :=
  ⟨base_safe, ⟨_, rfl⟩, safe_of (by decide), ⟨_, rfl⟩⟩

theorem test_wit_SupplyComesAndGoes :
    (({ supply := false } : State).supply = false ∧ ({ supply := false } : State).mgmt.write = none ∧
       ({ supply := false } : State).nv.storeWrite = none ∧ State.reset.supply = true ∧
       State.reset.link.running = false) ∧
    (let w := fun b => base.modMgmt fun m => { m with write := some ⟨b, 3, ⟨tables, .a⟩, [], false, []⟩ }
     let c := fun b => base.modNv fun v => { v with storeWrite := some {}, nextCopy := b }
     base.supply = true ∧ base.mgmt.write = none ∧ base.nv.storeWrite = none ∧ (w true).supply = true ∧
       ((w true).mgmt.write.map fun x => x.bank) = some true ∧ ((w false).mgmt.write.map fun x => x.bank) = some false ∧
       (c true).supply = true ∧ (c true).nv.nextCopy = true ∧ (c false).nv.nextCopy = false) :=
  ⟨by decide,
   by decide⟩

theorem test_wit_PortsAndTransmission :
    (let s := withLink fun l => { l with p1 := {} }
     s.link.running = true ∧ (portOf s.link .p1).up = false) ∧
    (let f : QFrame := .fwd (foreign 64)
     let p := fun u t b => portOf (withLink fun l => { l with p1 := { up := true, urgent := u, stream := t, bulk := b } }).link .p1
     (p [f] [f] [f]).up = true ∧ (p [f] [f] [f]).urgent = [f] ∧ (p [] [f] [f]).urgent = [] ∧ (p [] [f] [f]).stream = [f] ∧
       (p [] [] [f]).stream = [] ∧ (p [] [] [f]).bulk = [f] ∧ (p [] [] []).bulk = []) :=
  ⟨by decide,
   by decide⟩

theorem test_wit_FramesForwardedOrRemoved :
    (({ foreign 64 with fcsOk := false } : EthFrame).fcsOk = false ∧ (foreign 63).body.length + 18 < 64 ∧
       1518 < (foreign 1519).body.length + 18 ∧ receiving base .p1 = true ∧ frameSound (foreign 64) = true ∧
       frameSound (foreign 1518) = true ∧ (foreign 1518).etherType ≠ 0x9A31 ∧
       (let f := frame .order 210 65535 []
        frameSound f = true ∧ headerCheck f.body = none)) ∧
    (let s := fun (t : Nat) => withLink fun l => { l with retired := some (211, t) }
     let none' := withLink fun l => { l with station := none }
     let h := fun (k : FrameKind) d n => (⟨k, d, n, 0⟩ : Header)
     (∀ k ∈ [FrameKind.order, .gencmd, .answer, .notice], frameClass (frame k 65535 300 []) = .vendor (h k 65535 300)) ∧
       receiving none' .p1 = true ∧ none'.link.station = none ∧ receiving (s 0) .p2 = true ∧
       (s 0).link.station = some 210 ∧ frameClass (frame .order 1 210 []) = .vendor (h .order 1 210) ∧
       frameClass (frame .order 210 300 []) = .vendor (h .order 210 300) ∧
       frameClass (frame .notice 1 211 []) = .vendor (h .notice 1 211) ∧
       (s 9000001).now < 9000001 + 1000000 ∧ ¬(s 9000000).now < 9000000 + 1000000) :=
  ⟨by decide,
   by decide⟩

theorem test_wit_LinkExpiries :
    let s := fun (t : Nat) => withLink fun l => { l with retired := some (211, t), dup := [⟨500, 1, 9500000⟩, ⟨500, 2, 9500001⟩] }
    (s 9000000).link.retired = some (211, 9000000) ∧ 9000000 + 1000000 ≤ (s 9000000).now ∧
      (s 9000001).now < 9000001 + 1000000 ∧
      (∀ e ∈ (s 0).link.dup, (s 0).now < e.arrival + 500000 ↔ e.tag = 2) := by decide

theorem test_wit_OwnFrameOnBothPorts : base.link.running = true ∧ base.link.station = some 210 := by decide

/-- A MANAGE frame of station `n` with tag 7 and kind `k`. -/
def ordered (dest n k : Nat) : EthFrame := frame .manage dest n [0, 7, k] .absent

theorem test_wit_ManageJoinsQueue :
    let s := fun (d : List DupEntry) q => (withLink fun l => { l with dup := d }).modMgmt fun m => { m with requests := q }
    let r : Request := ⟨500, 7, 1, .absent⟩
    let bad : Request := ⟨502, 7, 1, .absent⟩
    let h := fun d n => (⟨.manage, d, n, 3⟩ : Header)
    let held := fun q => s [] q |>.modMgmt fun m => { m with restart := some (500, 1) }
    (s [] []).Safe ∧ (s [⟨500, 7, 9500001⟩] []).Safe ∧ (s [⟨500, 7, 9500000⟩] []).Safe ∧
      (s [] [r, r, r, r]).Safe ∧ (held [r, r, r]).Safe ∧
      Inward .manage .p1 (ordered 65535 500 1) (h 65535 500) (s [] []) ∧
      managePayload (h 65535 500) (ordered 65535 500 1) = some r ∧ (s [] []).link.station ≠ some 65535 ∧
      Inward .manage .p1 (ordered 210 500 1) (h 210 500) (s [⟨500, 7, 9500001⟩] []) ∧
      managePayload (h 210 500) (ordered 210 500 1) = some r ∧ (s [] []).link.station = some 210 ∧
      (s [] []).now < 9500001 + 500000 ∧
      Inward .manage .p1 (ordered 210 502 1) (h 210 502) (s [⟨500, 7, 9500000⟩] []) ∧ 9500000 + 500000 ≤ (s [] []).now ∧
      managePayload (h 210 502) (ordered 210 502 1) = some bad ∧ managerRights (s [⟨500, 7, 9500000⟩] []) 502 = none ∧
      Inward .manage .p2 (ordered 210 500 1) (h 210 500) (s [] [r, r, r, r]) ∧
      (s [] [r, r, r, r]).mgmt.requests.length = 4 ∧
      Inward .manage .p2 (ordered 210 500 1) (h 210 500) (held [r, r, r]) ∧
      (managerRights (held [r, r, r]) 500).isSome = true ∧ (held [r, r, r]).mgmt.requests.length < 4 ∧
      headWaits (setRequests ((held [r, r, r]).mgmt.requests ++ [r]) (held [r, r, r])) ∧
      headWaits (setRequests ((s [] []).mgmt.requests ++ [r]) (s [] [])) := by
  refine ⟨safe_of ?_, safe_of ?_, safe_of ?_, safe_of ?_, safe_of ?_, inward_of ?_, ?_, ?_, inward_of ?_, ?_, ?_, ?_,
    inward_of ?_, ?_, ?_, ?_, inward_of ?_, ?_, inward_of ?_, ?_, ?_, Or.inl ?_, Or.inr ?_⟩
  all_goals decide

theorem test_wit_OwnFramesReadBack :
    (ownPayloadBytes (.order 24 .withdraw 255 .oprC)).length ≤ 1492 ∧
      (ownPayloadBytes (.gencmd 8 true (-1000))).length ≤ 1492 ∧ (24 < 25 ∧ 255 < 256) ∧ (0 < 25 ∧ 0 < 256) ∧
      ((8 ≤ 8 : Prop) ∧ (-1000 : Int) ≤ -1000 ∧ (-1000 : Int) ≤ 1000) ∧ ((-1000 : Int) ≤ 1000 ∧ (1000 : Int) ≤ 1000) ∧
      (65535 < 65536 ∧ 255 < 256) ∧ (1 ≤ 65535 ∧ 65535 ≤ 65535 ∧ 1 ≤ 65534 ∧ 65534 ≤ 65534) := by decide

/-! ### Chapter 2 -/

/-- A SAMPLE frame of station 300, stream 0, three channels, index `j`. -/
def sampleFrame (j : Nat) (stream : Nat := 0) (n : Nat := 3) : EthFrame :=
  frame .sample 65535 300 ([stream, 1, j / 256, j % 256, n] ++ List.replicate (2 * n) 0)

/-- Its header and payload. -/
def sampleHead : Header := ⟨.sample, 65535, 300, 11⟩
def sampleGot (j : Nat) : SamplePayload := ⟨0, true, j, [0, 0, 0]⟩

/-- `base` with processing index and stream record 0. -/
def withStream (k : Option Nat) (r : StreamRec) : State :=
  base.modIntake fun i => { i with k := k, lastProc := k.map fun _ => 9997500, streams := modAt i.streams 0 fun _ => r }

theorem test_wit_SampleArrivesOnceIndexSet :
    let s := fun k => withStream (some k) { state := .good, buffer := [⟨65530, true, [0, 0, 0]⟩] }
    (s 65530).Safe ∧ (∀ k j, (k, j) ∈ [(65530, 9), (65530, 10), (65530, 65530), (65530, 65529)] →
      sampleB .p1 (sampleFrame j) sampleHead (sampleGot j) 0 (s k) = true ∧ (s k).intake.k = some k) ∧
    SampleFor .p1 (sampleFrame 9) sampleHead (sampleGot 9) 0 (s 65530) ∧ aheadBy 9 65530 = 15 ∧ aheadBy 10 65530 = 16 := by
  refine ⟨safe_of ?_, ?_, sample_of ?_, ?_, ?_⟩
  · decide
  · intro k j h
    simp only [List.mem_cons, Prod.mk.injEq, List.not_mem_nil, or_false] at h
    rcases h with ⟨rfl, rfl⟩ | ⟨rfl, rfl⟩ | ⟨rfl, rfl⟩ | ⟨rfl, rfl⟩ <;> decide
  all_goals decide

theorem test_wit_SampleArrivesBeforeIndex :
    let s := fun (m : Option Nat) (a : Nat) => withStream none
      { state := .acquiring, latest := m, arrRun := a, buffer := m.toList.map fun j => ⟨j, true, [0, 0, 0]⟩ }
    (s none 0).Safe ∧ (s (some 5) 31).Safe ∧ (s none 0).intake.k = none ∧
      SampleFor .p1 (sampleFrame 5) sampleHead (sampleGot 5) 0 (s none 0) ∧
      SampleFor .p1 (sampleFrame 5) sampleHead (sampleGot 5) 0 (s (some 5) 31) ∧
      SampleFor .p1 (sampleFrame 6) sampleHead (sampleGot 6) 0 (s (some 5) 31) ∧ (s (some 5) 31).intake.k = none ∧
      (let run := fun m a j => (storeEarly ⟨j, true, [0, 0, 0]⟩ ((s m a).stream 0)).arrRun
       run none 0 5 < 32 ∧ 32 ≤ run (some 5) 31 6 ∧ run (some 5) 30 6 < 32 ∧ run (some 5) 31 7 < 32) ∧
      ((s (some 5) 31).stream 0).latest = some 5 ∧ aheadBy 6 5 = 1 ∧ aheadBy 32772 5 = 32767 ∧ aheadBy 32773 5 = 32768 ∧
      aheadBy 5 65526 = 15 ∧ aheadBy 5 65525 = 16 := by
  refine ⟨safe_of ?_, safe_of ?_, ?_, sample_of ?_, sample_of ?_, sample_of ?_, ?_⟩ <;> decide

theorem test_wit_SampleNotTaken :
    let v := fun f => frameClass f
    let s := withLink fun l => { l with station := some 300 }
    receiving base .p1 = true ∧ receiving s .p1 = true ∧ v (sampleFrame 5) = .vendor sampleHead ∧
      offeredInward s sampleHead = false ∧ offeredInward base sampleHead = true ∧
      v (sampleFrame 5 4) = .vendor sampleHead ∧ samplePayload sampleHead (sampleFrame 5 4).body = none ∧
      v (sampleFrame 5 3) = .vendor sampleHead ∧ samplePayload sampleHead (sampleFrame 5 3).body = some ⟨3, true, 5, [0, 0, 0]⟩ ∧
      subscriptionOf base 300 3 = none ∧ v (sampleFrame 5 0 2) = .vendor { sampleHead with payloadLen := 9 } ∧
      samplePayload { sampleHead with payloadLen := 9 } (sampleFrame 5 0 2).body = some ⟨0, true, 5, [0, 0]⟩ ∧
      subscriptionOf base 300 0 = some 0 ∧ [0, 0].length ≠ (base.sub 0).count := by decide

/-- `base` at the last index before a measurement update, with the three phases of point `.cur 0` sampled. -/
def sampled : State :=
  ((withStream (some 65535) { state := .good, delRun := 32, buffer := [⟨65535, true, [100, 0, 0]⟩] }).modIntake fun i =>
    { i with count := 7 }).modMgmt fun m =>
      let rows : List ChanRow := [{ used := true, scale := 500 }, { used := true, phase := .b }, { used := true, phase := .c }]
      { m with image := some ⟨{ tables with chans := rows ++ List.replicate 381 {} }, .a⟩ }

theorem test_wit_FallbackProcessesIndex :
    let s := withStream (some 65535) {}
    let later := { s with now := 9999999 }
    let at' := fun c => ((s.modIntake fun i => { i with count := c }).modSlot 13 fun a =>
      { a with position := .closed, bf := .timing, bfTimer := 28 }).modSlot 2 fun a =>
        { a with position := .closed, bf := .timing, bfTimer := 29 }
    (at' 7).Safe ∧ (at' 4294967295).Safe ∧ sampled.Safe ∧ s.intake.k = some 65535 ∧ s.intake.lastProc = some 9997500 ∧ s.blocksRun = true ∧ s.fNom ≠ 60 ∧
      9997500 + 2500 ≤ s.now ∧ (∃ z ∈ sampled.intake.streams, z.buffer ≠ []) ∧
      (∀ z ∈ (at' 7).intake.streams, z.buffer = []) ∧ later.intake.k = some 65535 ∧ later.now < 9997500 + 2500 ∧
      (at' 0).intake.k = some 65535 ∧ (at' 0).blocksRun = true ∧ (0 + 1) % 4294967296 % 8 ≠ 0 ∧
      (7 + 1) % 4294967296 % 8 = 0 ∧ (7 + 1) % 64 ≠ 0 ∧ (4294967295 + 1) % 4294967296 % 64 = 0 ∧
      ((at' 7).slot 13).bf = .timing ∧ (at' 7).pos 13 ≠ .opn ∧ 28 + 1 < bfUpdates (at' 7) 13 ∧
      bfUpdates (at' 7) 2 ≤ 29 + 1 ∧ (at' 7).inService = true ∧ (at' 7).prot.pendingGroup = none ∧
      (sampled.elemRow .a 0).enabled = true ∧ (sampled.elemRow .a 0).kind = .toc ∧ (sampled.rtSlot 0).state ≠ .blocked ∧
      elementBlocked (processIndex sampled) (sampled.elemRow .a 0) = false ∧ sampled.inService = true ∧
      ((at' 7).brk 13).vref = some 2 ∧ (base.genRow 1).present = true := by
  refine ⟨safe_of ?_, safe_of ?_, safe_of ?_, ?_⟩ <;> decide

theorem test_wit_FallbackProcessesIndex_groupSwitch :
    let row : ElementRow := { enabled := true, kind := .ioc, pickup := 400, trip := [13] }
    let s := ((withStream (some 65535) {}).modIntake fun i => { i with count := 7 }).modProt fun p => { p with pendingGroup := some .b }
    let both := s.modMgmt fun m => { m with image := some ⟨{ tables with elemsB := {} :: row :: List.replicate 62 {} }, .a⟩ }
    s.Safe ∧ both.Safe ∧ s.prot.pendingGroup.getD s.prot.active = .b ∧ (s.elemRow .a 1).enabled = true ∧
      (s.elemRow .b 1).enabled = false ∧ (both.elemRow .b 1).enabled = true ∧
      (both.elemRow .a 1).kind = (both.elemRow .b 1).kind ∧ (both.elemRow .a 1).point = (both.elemRow .b 1).point := by
  refine ⟨safe_of ?_, safe_of ?_, ?_⟩ <;> decide

theorem test_wit_StreamAtProcessing :
    let r : StreamRec := { state := .acquiring, delRun := 31, subRun := 0, buffer := [⟨7, false, [-32768, -32767, 5]⟩] }
    let lost : StreamRec := { r with state := .good, delRun := 32, subRun := 31 }
    r.state ≠ .idle ∧ r.delRun ≤ 32 ∧ r.subRun ≤ 32 ∧
      r.buffer.find? (fun y => decide (y.index = 7)) = some ⟨7, false, [-32768, -32767, 5]⟩ ∧
      ([-32768, -32767, 5] : List Int)[1]? = some (-32767) ∧ lost.state ≠ .idle ∧ lost.delRun ≤ 32 ∧ lost.subRun ≤ 32 ∧
      (∀ y ∈ lost.buffer, y.index ≠ 8) := by decide

theorem test_wit_StreamAndPhaseEvents :
    (let s := fun st d u => withStream (some 0) { state := st, delRun := d, subRun := u }
     (s .acquiring 32 0).Safe ∧ ((s .acquiring 32 0).stream 0).delRun = 32 ∧ ((s .acquiring 32 0).stream 0).state = .acquiring ∧
       (s .good 0 32).Safe ∧ ((s .good 0 32).stream 0).subRun = 32 ∧ ((s .good 0 32).stream 0).state = .good ∧
       (s .good 0 32).siteInForce = true ∧ noticeEnabled (s .good 0 32) .stream = true) ∧
    (let s := base.modIntake fun i => { i with volt := modAt i.volt 12 fun f => { f with c := { missHold := 1, clipHold := 1, divRun := 8, agrRun := 32 } } }
     pointOk (.volt 12) = true ∧ s.intake.cur.length = 25 ∧ s.intake.volt.length = 13 ∧ (phaseRec s (.volt 12) .c).missHold = 1 ∧
       (phaseRec s (.volt 12) .c).clipHold = 1 ∧ (phaseRec s (.volt 12) .c).divRun = 8 ∧
       (phaseRec s (.volt 12) .c).agrRun = 32 ∧ Phase.a ≠ .c ∧ PointId.cur 12 ≠ .volt 12) :=
  ⟨by
    refine ⟨safe_of ?_, ?_, ?_, safe_of ?_, ?_⟩ <;> decide,
   by decide⟩


theorem test_wit_MergeAndDivergence :
    let src := fun (clean : Bool) (v : Int) => (⟨true, clean, v, false, true, false, false, 500, 300⟩ : Source')
    let far := fun (m c : Source') => (m.value - limitCount ((c.value * (c.scale : Int)).tdiv (m.scale : Int))).natAbs
    (src true 1000).usable = true ∧ (src true 1000).clean = true ∧ far (src true 1000) (src true 700) ≤ 300 ∧
      300 < far (src true 1000) (src true 699) ∧ far (src true 1000) (src true (-1000)) = 2000 ∧
      (src false 1000).clean = false ∧ ({ src true 0 with usable := false } : Source').usable = false ∧
      (let row := fun (r : Role) => ({ used := true, role := r } : ChanRow)
       let st := fun (x : StreamState) (sync : Bool) => ({ stream := { state := x, sync := sync } } : StreamStep)
       let q := fun (l : List StreamStep) (x : Four PhaseRec) =>
         pointQuality l ([0, 1, 2].map (fun i => (i, { row .main with phase := [Phase.a, .b, .c].getD i .n })) ++ [(8, row .check)]) (.cur 0) x
       let none' : Four PhaseRec := ⟨{}, {}, {}, {}⟩
       [q [st .lost true] none', q [st .degraded true] none', q [st .good true, st .degraded false] none',
         q [st .good true, st .degraded true] none', q [st .good true] { none' with n := { missHold := 1 } },
         q [st .good true] { none' with b := { divergent := true } }] =
         [.invalid, .degraded, .suspect, .good, .degraded, .suspect]) ∧
      ({ agrRun := 31, divergent := true } : PhaseRec).agrRun ≤ 32 ∧
      ({ divRun := 7 } : PhaseRec).divRun ≤ 8 := by decide

/-! ### Chapters 3 and 4 -/

theorem test_wit_MeasuredQuantities :
    let rows : List (Nat × ChanRow) := [.a, .b, .c].zipIdx.map fun p => (p.2, { used := true, phase := p.1, scale := 500 })
    let thr : Thresholds := { dir10 := 635 }
    let held : VoltMeas :=
      { times := [34815, 26600, 18300, 10100, 1900], accepted := 5, freq := some 50000, rms := ⟨5000, 5000, 5000, 0⟩
        quality := .good }
    let s := fun (m : VoltMeas) => (base.modIntake fun i => { i with k := some 100, count := 200, filled := 32 }).modMeas fun x =>
      { x with thr := thr, volt := modAt x.volt 12 fun _ => m }
    let t := fun n => timeDiff ((s held).intake.count * 256 % 2 ^ 40) n
    let hist : List Int := List.replicate 7 5 ++ [2600, -1200] ++ List.replicate 23 (-5)
    2 ^ 64 - 1 < 2 ^ 64 ∧ floorSqrt (2 ^ 64 - 1) = 4294967295 ∧ floorSqrt (4294967295 * 4294967295 - 1) = 4294967294 ∧
      65535999 * 1 / 1000 ≤ 65535 ∧ 65535 < 65536 * 1000 / 1000 ∧
      [Phase.a, .b, .c].map (scaleOf rows (.cur 0)) = List.replicate 3 (some 500) ∧ scaleOf rows (.cur 0) .n = none ∧
      hist.getD 8 0 < 0 ∧ 0 ≤ hist.getD 7 0 ∧ 0 ≤ hist.getD 1 0 ∧ hist.getD 8 0 = -1200 ∧ timeDiff 36863 34815 = 2048 ∧
      timeDiff 36862 34815 < 2048 ∧ ({ held with quality := .invalid }).quality = .invalid ∧ held.quality ≠ .invalid ∧
      thr.dir10 ≤ held.rms.a ∧ 12 < (s held).meas.volt.length ∧ (s held).intake.k = some 100 ∧
      (s held).intake.count % 8 = 0 ∧ trackerValid (s held).meas.thr ((s held).voltMeas 12) = true ∧
      ((s held).voltMeas 12).times.head? = some 34815 ∧ 16384 < t 34815 ∧ ¬16384 < t 34816 ∧
      (let near := { held with times := [51000, 42785, 34500, 26300, 18100] }
       let x := trackCrossings (s near) [] near
       x.accepted = 5 ∧ x.times = near.times ∧ timeDiff 51000 18100 = 32900 ∧ x.freq = some (4 * 256 * 32 * 50 * 1000 / 32900)) ∧
      4 * 256 * 32 * 50 * 1000 / timeDiff 51000 10000 < 40000 ∧ trackCrossings (s {}) [] {} = { latest := none, sum4 := none } := by
  decide

theorem test_wit_DirectionMemory :
    let m : DirMem := ⟨some .reverse, 8⟩
    let s := base.modMeas fun x => { x with cur := modAt x.cur 24 fun y => { y with mem := { y.mem with n := m } } }
    (10 ≤ 10 ∧ (0 : Int) < 1 ∧ (-1 : Int) < 0) ∧ (⟨some .forward, 7⟩ : DirMem).firm = some .forward ∧
      (⟨some .forward, 7⟩ : DirMem).lowRun < 8 ∧ 8 ≤ m.lowRun ∧ 24 < s.meas.cur.length ∧
      ((s.curMeas 24).mem.get .n).lowRun = 8 ∧ ((s.curMeas 24).mem.get .n).firm ≠ none := by decide

/-- Thresholds of a 6,350 V section. -/
def limits : Thresholds :=
  { dead := 1270, live := 4445, healthyLo := 5588, healthyHi := 6985, dir10 := 635, dir2 := 127, freqLo := 49500, freqHi := 50500 }

theorem test_wit_QualifierDeclares :
    let s := base.modMeas fun m => { m with volt := modAt m.volt 0 fun x => { x with raw := .healthy, run := 40 } }
    ({ run := 255 } : VoltMeas).run ≤ 255 ∧ qualifierCount base.site .healthy = 40 ∧
      (qualify base.site .healthy { raw := .healthy, run := 39 }).run = 40 ∧
      (qualify base.site .healthy { raw := .healthy, run := 38 }).run < qualifierCount base.site .healthy ∧
      ({ quality := .good } : VoltMeas).quality ≠ .invalid ∧ ({ dead := 1270 } : Thresholds).dead ≤ 1270 ∧
      (let m := fun f a => ({ quality := .good, freq := f, rms := ⟨a, 6000, 6000, 0⟩ } : VoltMeas)
       (m none 1269).quality ≠ .invalid ∧ rawClass limits (m none 1269) = .indeterminate ∧
         rawClass limits (m none 4445) = .live ∧ rawClass limits (m (some 50000) 5588) = .healthy ∧
         rawClass limits (m (some 50501) 5588) = .live ∧ rawClass limits { m none 0 with rms := ⟨0, 0, 1269, 0⟩ } = .dead) ∧
      0 < s.meas.volt.length ∧ qualifierCount s.site (s.voltMeas 0).raw ≤ (s.voltMeas 0).run ∧
      (s.voltMeas 0).declared ≠ (s.voltMeas 0).raw := by decide

theorem test_wit_CurveIncrement :
    let c := tables.curves.getD 0 {}
    let r := tables.elemsA.getD 0 {}
    let m := fun i => min 640 (i * 16 / r.pickup)
    c.points = [] ++ (16, 100) :: [(20, 600), (24, 1200), (32, 2000), (40, 3500), (64, 9000), (160, 25000)] ∧ 16 ≤ m 400 ∧
      m 400 < 20 ∧ c.points = [(16, 100), (20, 600), (24, 1200), (32, 2000), (40, 3500), (64, 9000)] ++ (160, 25000) :: [] ∧
      160 ≤ m 65535 ∧ m 65535 = 640 ∧ 1 ≤ r.pickup ∧ 399 < r.pickup := by decide

theorem test_wit_TocEvaluation :
    let r := tables.elemsA.getD 0 {}
    let x := fun st a => ({ state := st, acc := a } : RtSlot)
    let y := fun st a => evalToc (tables.curves.getD 0 {}) r a 9 (x st 40000)
    399 < r.pickup ∧ r.pickup ≤ 400 ∧ 380 = dropout r ∧ (y .idle 399).state = .idle ∧ (y .timing 400).state = .timing ∧
      (y .operated 380).state = .operated ∧ (y .timing 379).state = .idle ∧ (y .resetting 399).state = .idle ∧
      r.resetMode = .timed ∧ ({ r with resetMode := .instant } : ElementRow).resetMode = .instant := by decide

/-- `base` with runtime slot `i`. -/
def withRt (i : Nat) (x : RtSlot) : State := base.modRt i fun _ => x

/-- `withRt` with the breaker of slot 13 CLOSED. -/
def running (i : Nat) (x : RtSlot) : State := (withRt i x).modSlot 13 fun a => { a with position := .closed }

/-- An element of each kind on its point, and a measurement at which it picks up. -/
def pickups : List (ElementRow × State) :=
  let cur := fun (m : CurMeas) => base.modMeas fun x => { x with cur := modAt x.cur 0 fun _ => m }
  let volt := fun (m : VoltMeas) => base.modMeas fun x => { x with volt := modAt x.volt 0 fun _ => { m with quality := .good } }
  [({ kind := .toc, pickup := 400 }, cur { quality := .good, rms := ⟨0, 400, 0, 0⟩ }),
    ({ kind := .ioc, pickup := 400, scope := .residual }, cur { quality := .good, sat := ⟨false, false, false, true⟩ }),
    ({ kind := .uv, point := .volt 0, pickup := 4000 }, volt { rms := ⟨4001, 4000, 4001, 0⟩ }),
    ({ kind := .ov, point := .volt 0, pickup := 4000 }, volt { rms := ⟨3999, 4000, 3999, 0⟩ }),
    ({ kind := .uf, point := .volt 0, pickup := 49000 }, volt { freq := some 49000 }),
    ({ kind := .ovf, point := .volt 0, pickup := 51000 }, volt { freq := some 51000 }),
    ({ kind := .rp, pickup := 100 }, volt { rms := ⟨0, 0, 0, 0⟩ } |>.modMeas fun x =>
      { x with cur := modAt x.cur 0 fun _ => { quality := .good, power := some (-101) } })]

theorem test_wit_ElementsEvaluated :
    let row : ElementRow := { enabled := true, kind := .uv, point := .volt 0, pickup := 4000, delayMs := 10 }
    let s := (pickups.getD 2 (row, base)).2
    (∀ x ∈ pickups, pickedUp x.2 x.1 false = true ∧ elementBlocked x.2 x.1 = false) ∧
      elementBlocked base row = true ∧ elementBlocked s row = false ∧ msToUpdates 50 10 = 2 ∧
      pickedUp s { row with pickup := 3999 } false = false ∧ pickedUp s { row with pickup := 3810 } true = true ∧
      pickedUp s { row with pickup := 3809 } true = false ∧
      ([({} : RtSlot), { state := .timing, acc := 0 }, { state := .timing, acc := 1 }, { state := .operated },
          { state := .blocked, frozen := some .timing, acc := 1 }].map fun x => (evalSlot s row x).state) =
        [.timing, .timing, .operated, .operated, .operated] ∧
      (evalSlot base row { state := .timing }).frozen = some .timing ∧ (evalSlot base row { state := .blocked }).frozen = none ∧
      (evalSlot s { row with pickup := 3000 } { state := .operated }).state = .idle := by decide

theorem test_wit_ElementOperates :
    let s := running 0 { state := .timing, acc := 1000000, pickupIdx := some 3 }
    let d := running 1 { state := .timing, acc := 0 }
    let z := withRt 63 { state := .resetting, acc := 0 }
    s.Safe ∧ d.Safe ∧ z.Safe ∧ s.inService = true ∧ (s.elemRow s.prot.active 0).enabled = true ∧
      (s.rtSlot 0).state = .timing ∧ (s.elemRow s.prot.active 0).kind = .toc ∧ (s.rtSlot 0).acc = 1000000 ∧
      (s.elemRow s.prot.active 0).trip = [13] ∧ (s.brk 13).present = true ∧ s.pos 13 ≠ .opn ∧
      (s.elemRow s.prot.active 0).lockout = .bus .bus1 ∧ (d.elemRow d.prot.active 1).enabled = true ∧
      (d.rtSlot 1).state = .timing ∧ (d.elemRow d.prot.active 1).kind ≠ .toc ∧
      delayOf d (d.elemRow d.prot.active 1) ≤ (d.rtSlot 1).acc ∧ (d.elemRow d.prot.active 1).lockout = .breaker ∧
      (z.rtSlot 63).state = .resetting ∧ (z.rtSlot 63).acc = 0 := by
  refine ⟨safe_of ?_, safe_of ?_, safe_of ?_, ?_⟩ <;> decide

/-! ### Chapter 5 -/

/-- A POSITION frame of slot 13 with contact byte `c` and tag `t`, its header, and its payload. -/
def posFrame (c t : Nat) : EthFrame := frame .position 65535 613 [13, c, t]
def posHead : Header := ⟨.position, 65535, 613, 3⟩
def posGot (o c : Bool) (t : Nat) : PositionPayload := ⟨13, ⟨o, c⟩, false, false, t⟩

/-- An open in service on slot 13, ISSUED at 9.9 s with tag 7. -/
def opening : Order :=
  { type := .opn, causes := [.prot, .oprO], tag := 7, phase := .issued, issueTime := some 9900000
    requesters := [.prot, .manager 500 3], nextRepeat := 10000000 }

/-- A close in service, ISSUED at 9.8 s with tag 255. -/
def closing : Order :=
  { type := .close, causes := [.oprC], tag := 255, phase := .issued, issueTime := some 9800000
    requesters := [.manager 500 3], nextRepeat := 10000000 }

theorem test_wit_PositionFrameTaken :
    let s := fun (p a : Option Contacts) o => withSlot 13 { position := .closed, prevPair := p, acceptedPair := a, order := o }
    let cl : Contacts := ⟨false, true⟩
    let op : Contacts := ⟨true, false⟩
    let waiting : Order := { closing with phase := .syncWait, issueTime := none }
    let loop := (s (some op) (some cl) (some opening)).modMgmt fun m => { m with mode := .loop }
    let wait := s (some op) (some cl) (some waiting)
    let done := (s (some op) (some cl) (some opening)).modSlot 13 fun a => { a with lineOn := some 9900000 }
    (s none none none).Safe ∧ (s (some op) (some cl) (some opening)).Safe ∧ (s (some cl) (some cl) (some opening)).Safe ∧
      Inward .position .p1 (posFrame 1 7) posHead (s none none none) ∧
      Inward .position .p1 (posFrame 1 7) posHead (s (some op) (some cl) (some opening)) ∧
      Inward .position .p1 (posFrame 2 7) posHead (s (some cl) (some cl) (some opening)) ∧
      positionPayload posHead (posFrame 1 7).body = some (posGot true false 7) ∧
      positionPayload posHead (posFrame 2 7).body = some (posGot false true 7) ∧
      (s none none none).blocksRun = true ∧ ((s none none none).brk 13).present = true ∧
      ((s none none none).brk 13).station = 613 ∧ op ≠ cl ∧ (s none none none).mgmt.mode = .live ∧
      (∀ x ∈ [loop, wait, done], safeB x = true ∧ x.blocksRun = true ∧ (x.brk 13).present = true ∧ (x.brk 13).station = 613 ∧
        inwardB .position .p1 (posFrame 1 7) posHead x = true) ∧
      loop.mgmt.mode ≠ .live ∧ (loop.slot 13).order = some opening ∧ (wait.slot 13).order = some waiting ∧
      waiting.phase = .syncWait ∧ done.mgmt.mode = .live ∧ (done.slot 13).order = some opening ∧ opening.phase = .issued ∧
      (done.slot 13).prevPair = some op ∧ (done.slot 13).acceptedPair ≠ some op ∧ (done.slot 13).lineOn = some 9900000 ∧
      9900000 + 100000 ≤ done.now := by
  refine ⟨safe_of ?_, safe_of ?_, safe_of ?_, inward_of ?_, inward_of ?_, inward_of ?_, ?_⟩ <;> decide

theorem test_wit_PositionFrameTaken_notTaken :
    let bare := { base with mgmt := { base.mgmt with part := .unconfigured } }
    let own := frame .position 65535 210 [13, 1, 7]
    let f := fun (n : Nat) => frame .position 65535 600 [n, 1, 7]
    let h : Header := ⟨.position, 65535, 600, 3⟩
    (∀ x ∈ [base, bare], receiving x .p1 = true ∧ frameClass (f 25) = .vendor h ∧ offeredInward x h = true) ∧
      frameClass own = .vendor { h with src := 210 } ∧ offeredInward base { h with src := 210 } = false ∧
      bare.blocksRun = false ∧ positionPayload h (f 25).body = none ∧
      positionPayload h (f 24).body = some ⟨24, ⟨true, false⟩, false, false, 7⟩ ∧ (base.brk 24).present = false ∧
      positionPayload h (f 13).body = some (posGot true false 7) ∧ (base.brk 13).station ≠ h.src := by decide

theorem test_wit_OrdersAndWithdrawsRepeat :
    let s := withSlot 24 { order := some opening, withdraw := some ⟨6, .schC, 1, 10000000⟩ }
    s.Safe ∧ 24 < 25 ∧ (s.slot 24).order = some opening ∧ opening.phase = .issued ∧ opening.nextRepeat ≤ s.now ∧
      (s.slot 24).withdraw = some ⟨6, .schC, 1, 10000000⟩ ∧ 10000000 ≤ s.now := by
  refine ⟨safe_of ?_, ?_⟩ <;> decide

theorem test_wit_OrderLimitsFail :
    let s := withSlot 13 { position := .closed, order := some opening }
    let c := withSlot 13 { position := .opn, order := some closing }
    s.Safe ∧ PastLimit 13 .opn (s.brk 13).openLimit opening 9900000 s ∧ 9900000 + 100 * 1000 = s.now ∧ c.Safe ∧
      PastLimit 13 .close (c.brk 13).closeLimit closing 9800000 c ∧ 9800000 + 200 * 1000 = c.now := by
  refine ⟨safe_of ?_, past_of ?_, ?_, safe_of ?_, past_of ?_, ?_⟩ <;> decide

theorem test_wit_SlotTimesExpire :
    (let s := withSlot 0 { position := .travel, travelAt := some 9800000, lastFrame := some 9950000 }
     s.Safe ∧ (s.slot 0).position = .travel ∧ (s.slot 0).travelAt = some 9800000 ∧
       9800000 + max (s.brk 0).openLimit (s.brk 0).closeLimit * 1000 ≤ s.now ∧ (s.brk 0).present = true ∧
       (s.slot 0).lastFrame = some 9950000 ∧ 9950000 + 50000 ≤ s.now) ∧
    (let s := fun w t o => withSlot 24 { window := some (.opn, w), lineOn := some t, order := o }
     let free := s 9500000 9900000 (some { opening with causes := [.oprO] })
     let not := s 9500001 9900001 (some opening)
     free.Safe ∧ not.Safe ∧ (free.slot 24).window = some (.opn, 9500000) ∧ 9500000 + 500000 ≤ free.now ∧
       (not.slot 24).window = some (.opn, 9500001) ∧ not.now < 9500001 + 500000 ∧ (free.slot 24).lineOn = some 9900000 ∧
       9900000 + 100000 ≤ free.now ∧ (free.slot 24).order = some { opening with causes := [.oprO] } ∧
       (not.slot 24).lineOn = some 9900001 ∧ not.now < 9900001 + 100000 ∧ opening.type = .opn ∧ .prot ∈ opening.causes) :=
  ⟨by
    refine ⟨safe_of ?_, ?_⟩ <;> decide,
   by
    refine ⟨safe_of ?_, safe_of ?_, ?_⟩ <;> decide⟩

theorem test_wit_BreakerFailure :
    (let s := (withSlot 2 { position := .closed, bf := .timing, bfTimer := 30 }).modSlot 0 fun a => { a with position := .closed }
     s.Safe ∧ (s.slot 2).bf = .timing ∧ bfUpdates s 2 ≤ (s.slot 2).bfTimer ∧ s.busSides 2 = [.bus1, .bus2] ∧
       (s.brk 0).present = true ∧ s.busSides 0 = [.bus1] ∧ s.pos 0 ≠ .opn ∧ .gbus ∉ s.busSides 2) ∧
    (let s := fun p b t i => (withSlot 13 { position := p, bf := b, bfTimer := t }).modMeas fun m =>
       { m with cur := modAt m.cur 13 fun x => { x with quality := .good, rms := ⟨i, 0, 0, 0⟩ } }
     let carries := fun (s : State) => decide ((s.curMeas 13).quality ≠ .invalid ∧
       (s.brk 13).bfThreshold ≤ max (s.curMeas 13).rms.a (max (s.curMeas 13).rms.b (s.curMeas 13).rms.c))
     (s .opn .timing 5 49).Safe ∧ carries (s .opn .timing 5 49) = false ∧ (s .opn .timing 5 49).pos 13 = .opn ∧
       (s .opn .operated 5 50).Safe ∧ carries (s .opn .operated 5 50) = true ∧
       ((s .opn .operated 5 50).slot 13).bf = .operated ∧ (s .closed .timing 28 0).Safe ∧
       (s .closed .timing 28 0).pos 13 ≠ .opn ∧ ((s .closed .timing 28 0).slot 13).bf = .timing ∧
       28 + 1 < bfUpdates (s .closed .timing 28 0) 13) :=
  ⟨by
    refine ⟨safe_of ?_, ?_⟩ <;> decide,
   by
    refine ⟨safe_of ?_, ?_, ?_, safe_of ?_, ?_, ?_, safe_of ?_, ?_⟩ <;> decide⟩


/-- The conditions of the rows of R92 and R93 in order, R98 first, and the grant rule last. -/
def rungs (x : Source) (n : Nat) (s : State) : List Bool :=
  let side := sideStates s n
  let closedLike := fun m => decide (s.pos m = .closed ∨ s.pos m = .travel) || ((s.slot m).order.any fun o => decide (o.type = .close))
  [windowConflict s n x, (s.slot n).order.isSome, s.inConfig, (s.slot n).lock.isSet,
    (s.busSides n).any fun b => (s.busLock b).isSet, !decide (s.pos n = .opn ∨ s.pos n = .closed), (s.slot n).localCtl,
    decide (s.pos n = .closed),
    decide (n < 3) && ([0, 1, 2].filter fun m => decide (m ≠ n)).all closedLike && !s.site.utilPar,
    decide (.indeterminate ∈ side), side.all (fun c => decide (c = .dead)) && !(s.brk n).deadDead,
    decide (n = 3 ∨ n = 4) && !isLive (s.declared 4),
    decide (5 ≤ n ∧ n ≤ 12 ∧ s.declared 4 = .dead) && (s.par.grant.any fun g => decide (g.gen ≠ n - 4))]

/-- The first row that applies, 13 where none does. -/
def firstRung (x : Source) (n : Nat) (s : State) : Nat := (rungs x n s).findIdx id

theorem test_wit_CloseLadder :
    let dead := fun l => declare l base
    [firstRung .oprC 13 (withSlot 13 { position := .opn, window := some (.opn, 9500001) }),
      firstRung .oprC 13 (withSlot 13 { position := .opn, order := some opening }),
      firstRung .oprC 13 (base.modMgmt fun m => { m with part := .config true }),
      firstRung .oprC 13 (withSlot 13 { position := .opn, lock := ⟨true, [.bf 13]⟩ }),
      firstRung .oprC 13 (base.setBusLock .bus1 ⟨true, [.bf 2]⟩), firstRung .oprC 13 (withSlot 13 { position := .travel }),
      firstRung .oprC 13 (withSlot 13 { position := .opn, localCtl := true }),
      firstRung .oprC 13 (withSlot 13 { position := .closed }),
      firstRung .schC 2 ((withSlot 0 { position := .closed }).modSlot 1 fun a => { a with position := .travel }),
      firstRung .oprC 13 base, firstRung .oprC 13 (dead [(2, .dead)]), firstRung .schC 3 (dead [(2, .healthy), (4, .dead)]),
      firstRung .schC 5 ((dead [(5, .healthy), (4, .dead)]).modPar fun p => { p with grant := some ⟨2, .par, true⟩ }),
      firstRung .schC 5 (dead [(5, .healthy), (4, .dead)])] = List.range 14 ∧
    ∀ n ∈ [2, 3, 5, 13], (base.brk n).present = true := by decide

theorem test_wit_OperateAnswered :
    let s := fun n a => (ask .operate (.operate n (some .opn))).modSlot n fun _ => a
    let r := fun n => req .operate (.operate n (some .opn))
    let c := ask .operate (.operate 13 (some .close))
    let live := declare [(2, .healthy)] c
    let waiting : Order := { closing with phase := .syncWait, issueTime := none }
    let busy : Channel := { slot := 24, ref := 4, inc := 5, closing := 100 }
    let close := fun n l => declare l (ask .operate (.operate n (some .close)))
    let between := fun c => (close 2 [(2, .healthy), (3, .live)]).modPar fun p => { p with channels := List.replicate 4 c }
    let onDead := fun g => ((close 5 [(5, .healthy), (4, .dead)]).modPar fun p => { p with grant := g }).modGen 1 fun x =>
      { x with state := .ready }
    (s 24 {}).Safe ∧ Taken .operate (r 24) [] (s 24 {}) ∧ ((s 24 {}).brk 24).present = false ∧
      (s 13 { localCtl := true }).Safe ∧ Taken .operate (r 13) [] (s 13 { localCtl := true }) ∧
      ((s 13 {}).brk 13).present = true ∧ (s 13 { window := some (.close, 9500001) }).Safe ∧
      Taken .operate (r 13) [] (s 13 { window := some (.close, 9500001) }) ∧ (s 13 {}).now < 9500001 + 500000 ∧
      (s 13 { position := .closed, window := some (.close, 9500000) }).Safe ∧
      Taken .operate (r 13) [] (s 13 { position := .closed, window := some (.close, 9500000) }) ∧
      9500000 + 500000 ≤ (s 13 {}).now ∧ (s 13 { position := .opn }).Safe ∧
      Taken .operate (r 13) [] (s 13 { position := .opn }) ∧ c.Safe ∧
      Taken .operate (req .operate (.operate 13 (some .close))) [] c ∧
      (∀ o ∈ [opening, closing, waiting], safeB (s 13 { order := some o }) = true ∧
        takenB .operate (r 13) [] (s 13 { order := some o }) = true ∧ ((s 13 { order := some o }).slot 13).order = some o) ∧
      opening.type = .opn ∧ closing.type = .close ∧ closing.phase = .issued ∧ waiting.type = .close ∧
      waiting.phase = .syncWait ∧ safeB live = true ∧ takenB .operate (req .operate (.operate 13 (some .close))) [] live = true ∧
      (live.slot 13).window = none ∧ closeLadder live 13 = .taken (nextTag (live.slot 13)) ∧ bothLive live 13 = false ∧
      genOfSlot 13 = none ∧
      (∀ x ∈ [(2, between none), (2, between (some busy)), (5, onDead none), (5, onDead (some ⟨1, .par, true⟩)),
          (5, onDead (some ⟨2, .par, true⟩))],
        safeB x.2 = true ∧ takenB .operate (req .operate (.operate x.1 (some .close))) [] x.2 = true ∧
        (x.2.brk x.1).present = true ∧ (x.2.slot x.1).window = none ∧
        closeLadder x.2 x.1 = .taken (nextTag (x.2.slot x.1)) ∧ channelOf x.2 x.1 = none ∧ x.2.par.queue = []) ∧
      (between none).sides 2 = (2, some 3) ∧ isLive ((between none).declared 2) = true ∧
      isLive ((between none).declared 3) = true ∧ (between none).par.channels[0]? = some none ∧
      none ∉ (between (some busy)).par.channels ∧ genOfSlot 5 = some 1 ∧ (onDead none).declared 4 = .dead ∧
      ((onDead none).gen 1).state = .ready := by
  refine ⟨safe_of ?_, taken_of ?_, ?_, safe_of ?_, taken_of ?_, ?_, safe_of ?_, taken_of ?_, ?_, safe_of ?_, taken_of ?_, ?_,
    safe_of ?_, taken_of ?_, safe_of ?_, taken_of ?_, ?_⟩ <;> decide

theorem test_wit_OperateAnswered_conflict :
    let s := fun (o : Order) => (ask .operate (.operate 13 (some .opn))).modSlot 13 fun _ =>
      { position := .opn, order := some o, window := some (.close, 9500001) }
    let c := fun (o : Order) => withSlot 13 { position := .closed, order := some o, window := some (.opn, 9500001) }
    (∀ o ∈ [closing, { closing with phase := .syncWait, issueTime := none }, { closing with grantHeld := true }],
      safeB (s o) = true ∧ takenB .operate (req .operate (.operate 13 (some .opn))) [] (s o) = true ∧
        (s o).now < 9500001 + 500000 ∧ ((s o).slot 13).order = some o ∧ o.type = .close ∧ .oprC ∈ o.causes) ∧
      (∀ o ∈ [opening, { closing with causes := [.schC] }], windowConflict (c o) 13 .oprC = true ∧
        (o.type = .opn ∨ .oprC ∉ o.causes)) ∧ windowConflict (s closing) 13 .oprO = true ∧ (base.brk 13).present = true := by
  decide

theorem test_wit_ResetLockoutBySetters :
    let s := fun l => (ask .resetLockout (.lockSlot 13)).modSlot 13 fun a => { a with lock := l }
    let b := fun l => (ask .resetLockout (.lockBus (some .gbus))).setBusLock .gbus l
    let r := req .resetLockout (.lockSlot 13)
    let rb := req .resetLockout (.lockBus (some .gbus))
    let act := fun (s : State) => (s.modSlot 3 fun a => { a with bf := .timing }).modProt fun p =>
      { p with operated := modAt p.operated 63 fun _ => some .a }
    let l : Lockout := ⟨true, [.bf 3, .element .a 63]⟩
    (s {}).Safe ∧ Taken .resetLockout r [] (s {}) ∧ ((s {}).slot 13).lock.isSet = false ∧
      (s l).Safe ∧ Taken .resetLockout r [] (s l) ∧ ((s l).slot 13).lock = l ∧ ((s l).slot 3).bf = .idle ∧
      (s l).prot.operated.getD 63 none = none ∧ (act (s l)).Safe ∧ Taken .resetLockout r [] (act (s l)) ∧
      ((act (s l)).slot 3).bf = .timing ∧ ((act (s l)).prot.operated.getD 63 none).isSome = true ∧
      (b {}).Safe ∧ Taken .resetLockout rb [] (b {}) ∧ ((b {}).busLock .gbus).isSet = false ∧ (b l).Safe ∧
      Taken .resetLockout rb [] (b l) ∧ (b l).busLock .gbus = l ∧ ((b l).slot 3).bf = .idle ∧
      (act (b l)).Safe ∧ Taken .resetLockout rb [] (act (b l)) ∧ ((act (b l)).slot 3).bf = .timing ∧
      (s l).siteInForce = true ∧ noticeEnabled (s l) .lockout = true := by
  refine ⟨safe_of ?_, taken_of ?_, ?_, safe_of ?_, taken_of ?_, ?_, ?_, ?_, safe_of ?_, taken_of ?_, ?_, ?_, safe_of ?_,
    taken_of ?_, ?_, safe_of ?_, taken_of ?_, ?_, ?_, safe_of ?_, taken_of ?_, ?_⟩ <;> decide

/-! ### Chapter 6 -/

theorem test_wit_StartupAndLossTimers :
    (let s := fun t => withSeq .seq2 { state := .starting, startup := some t } base
     ((s 0).seq .seq2).state = .starting ∧ (s 0).inService = true ∧ ((s 10000000).seq .seq2).startup = some 10000000 ∧
       10000000 ≤ (s 0).now ∧ ((s 10000001).seq .seq2).startup = some 10000001 ∧ (s 0).now < 10000001) ∧
    (let s := withSeq .seq1 { state := .lossPending, loss := some 10000000 } (withSlot 0 { position := .closed })
     let blocked := s.modProt fun p => { p with block1 := true }
     let inhibited := s.modSeqs fun x => { x with inhibit := some 10000001 }
     s.Safe ∧ blocked.Safe ∧ inhibited.Safe ∧ (s.seq .seq1).state = .lossPending ∧ (s.seq .seq1).loss = some 10000000 ∧
       10000000 ≤ s.now ∧ (blocked.seq .seq1).state = .lossPending ∧ blocked.prot.block1 = true ∧
       s.prot.block1 = false ∧ s.inhibitActive = false ∧ inhibited.prot.block1 = false ∧
       (inhibited.seq .seq1).state = .lossPending ∧ inhibited.inhibitActive = true) :=
  ⟨by decide,
   by
    refine ⟨safe_of ?_, safe_of ?_, safe_of ?_, ?_⟩ <;> decide⟩

/-- `altReady` as a check. -/
def altReadyB (s : State) (q : SeqId) : Alt → Bool
  | .tie => decide ((s.seq q).spentTie = false ∧ (s.seq (otherSeq q)).state = .preferred ∧
      s.declared (utilPoint (otherSeq q)) = .healthy ∧ s.seqs.claim = none ∧ (s.slot 2).lock.isSet = false)
  | .gm => decide ((s.seq q).spentGm = false ∧ (s.slot (gmSlot q)).lock.isSet = false ∧ s.arb.gbus.isSet = false)

theorem ready_iff {s : State} {q : SeqId} {a : Alt} : altReady s q a ↔ altReadyB s q a = true := by
  cases a <;> simp only [altReady, altReadyB, decide_eq_true_eq]

theorem test_wit_DeadTimerExpires :
    let s := fun (x : Seq) => withSeq .seq2 { state := .preferred } (declare [(1, .healthy)] (withSeq .seq1 { x with dead := some 10000000 } base))
    let wait := s { state := .deadWait }
    let wait2 := s { state := .deadWait, spentTie := true }
    let wait3 := s { state := .deadWait, spentTie := true, spentGm := true }
    let alt := (s { state := .altClosing, alt := some .tie }).modSeqs fun x => { x with claim := some .seq1 }
    let alt2 := (s { state := .altClosing, alt := some .tie, spentGm := true }).modSeqs fun x => { x with claim := some .seq1 }
    let on := (s { state := .onAlternate, alt := some .gm }).modSlot 3 fun a => { a with position := .closed }
    let on2 := s { state := .onAlternate, alt := some .tie }
    let ret := s { state := .returnOpening }
    (∀ x ∈ [wait, wait2, wait3, alt, alt2, on, on2, ret], safeB x = true ∧ (x.seq .seq1).dead = some 10000000 ∧
      10000000 ≤ x.now ∧ (x.seq .seq1).awaited = none) ∧
    (wait.seq .seq1).state = .deadWait ∧ (wait.scheme .seq1).alternates = [] ++ .tie :: [.gm] ∧ altReady wait .seq1 .tie ∧
      (wait2.seq .seq1).state = .deadWait ∧ (wait2.scheme .seq1).alternates = [.tie] ++ .gm :: [] ∧
      ¬altReady wait2 .seq1 .tie ∧ altReady wait2 .seq1 .gm ∧ (wait3.seq .seq1).state = .deadWait ∧
      ¬altReady wait3 .seq1 .tie ∧ ¬altReady wait3 .seq1 .gm ∧ (alt.seq .seq1).state = .altClosing ∧
      (alt.scheme .seq1).alternates = [.tie, .gm] ∧ altReady alt .seq1 .gm ∧ (alt2.seq .seq1).state = .altClosing ∧
      (alt2.scheme .seq1).alternates = [.tie, .gm] ∧ ¬altReady alt2 .seq1 .gm ∧
      (on.seq .seq1).state = .onAlternate ∧ (on.seq .seq1).alt = some .gm ∧ on.pos (altSlot .seq1 .gm) ≠ .opn ∧
      (on2.seq .seq1).state = .onAlternate ∧ (on2.seq .seq1).alt = some .tie ∧ on2.pos (altSlot .seq1 .tie) = .opn ∧
      (ret.seq .seq1).state = .returnOpening := by
  simp only [ready_iff]
  decide

theorem test_wit_ReturnBegins :
    let s := fun (x : Seq) => withSeq .seq1 x (ask .retransferNow (.sequencer 1))
    let watch := s { state := .returnWatch, alt := some .gm, retransfer := some 10000000 }
    let held := watch.modSeqs fun x => { x with inhibit := some 10000001 }
    let on := s { state := .onAlternate, alt := some .gm }
    let plain := s { state := .preferred }
    let gen := s { state := .genWait, alt := some .gm, restore := some 10000000 }
    let dead := s { state := .deadBus, restore := some 10000000 }
    let r := req .retransferNow (.sequencer 1)
    (∀ x ∈ [watch, held, on, plain], Taken .retransferNow r [] x ∧ namesSeq r .seq1 x) ∧
      (∀ x ∈ [watch, held, on, plain, gen, dead], safeB x = true) ∧ (watch.seq .seq1).alt = some .gm ∧
      (watch.seq .seq1).state = .returnWatch ∧ (watch.seq .seq1).retransfer = some 10000000 ∧ 10000000 ≤ watch.now ∧
      (watch.scheme .seq1).autoRetransfer = true ∧ watch.inhibitActive = false ∧ (held.seq .seq1).alt = some .gm ∧
      (held.seq .seq1).state = .returnWatch ∧ (held.seq .seq1).retransfer = some 10000000 ∧ held.inhibitActive = true ∧
      (on.seq .seq1).alt = some .gm ∧ (plain.seq .seq1).alt = none ∧ (plain.seq .seq1).state ≠ .returnWatch ∧
      (on.seq .seq1).state ≠ .returnWatch ∧ (gen.seq .seq1).state = .genWait ∧ (gen.seq .seq1).restore = some 10000000 ∧
      (dead.seq .seq1).state = .deadBus ∧ (dead.seq .seq1).awaited = none ∧ (dead.seq .seq1).restore = some 10000000 := by
  intro s watch held on plain gen dead r
  have each : ∀ x ∈ [watch, held, on, plain], takenB .retransferNow r [] x = true ∧ (x.brk 0).present = true := by decide
  exact ⟨fun x m => ⟨taken_of (each x m).1, .inl ⟨rfl, rfl⟩, .inr (each x m).2⟩, by decide⟩

theorem test_wit_ParallelAndSoftLimits :
    let s := fun (x : Seq) => withSeq .seq2 x (withSlot 4 { position := .closed })
    let fast := s { state := .parallelFast, alt := some .gm, parallel := some 10000000 }
    let soft := (s { state := .parallelSoft, alt := some .gm, softLimit := some 10000000 }).modPar fun p =>
      { p with unload := some ⟨.seq2, 0, 3, 3000⟩ }
    fast.Safe ∧ (fast.seq .seq2).alt = some .gm ∧ (fast.seq .seq2).state = .parallelFast ∧
      (fast.seq .seq2).parallel = some 10000000 ∧ 10000000 ≤ fast.now ∧ (fast.brk (altSlot .seq2 .gm)).present = true ∧
      fast.pos (altSlot .seq2 .gm) ≠ .opn ∧ fast.records.queue = [] ∧ soft.Safe ∧ (soft.seq .seq2).alt = some .gm ∧
      (soft.seq .seq2).state = .parallelSoft ∧ (soft.seq .seq2).softLimit = some 10000000 ∧ 10000000 ≤ soft.now ∧
      soft.par.unload = some ⟨.seq2, 0, 3, 3000⟩ := by
  refine ⟨safe_of ?_, ?_, ?_, ?_, ?_, ?_, ?_, ?_, safe_of ?_, ?_⟩ <;> decide

theorem test_wit_InhibitSetAndEnded :
    let s := fun n => ask .inhibitTransfer (.duration n)
    let t := (withSeq .seq1 { state := .lossPending, inhibitHold := true }
      (withSeq .seq2 { state := .returnWatch, alt := some .gm, retReady := true } base)).modSeqs fun x =>
        { x with inhibit := some 10000000 }
    let blocked := t.modProt fun p => { p with block1 := true }
    (∀ n ∈ [0, 1, 3600, 3601, 4294967295],
      safeB (s n) = true ∧ takenB .inhibitTransfer (req .inhibitTransfer (.duration n)) [] (s n) = true) ∧
      t.Safe ∧ t.seqs.inhibit = some 10000000 ∧ 10000000 ≤ t.now ∧ (t.seq .seq1).state = .lossPending ∧
      (t.seq .seq1).inhibitHold = true ∧ t.prot.block1 = false ∧ (t.seq .seq2).state = .returnWatch ∧
      (t.seq .seq2).retReady = true ∧ (t.scheme .seq2).autoRetransfer = true ∧ blocked.Safe ∧
      (blocked.seq .seq1).inhibitHold = true ∧ blocked.prot.block1 = true ∧ (base.seq .seq1).state = .deadBus := by
  refine ⟨?_, safe_of ?_, ?_, ?_, ?_, ?_, ?_, ?_, ?_, ?_, safe_of ?_, ?_⟩ <;> decide

theorem test_wit_ParkResumeAbort :
    let s := fun k st pend => withSeq .seq2 { state := st, pendingPark := pend } (ask k (.sequencer 2))
    let r := fun k => req k (.sequencer 2)
    let parked := (s .resume .parked false).modMgmt fun m => { m with mode := .blocked }
    let unload := (s .abort .parallelSoft false).modPar fun p => { p with unload := some ⟨.seq2, 0, 3, 3000⟩ }
    let cases := [(Kind.park, SeqState.parked, false), (.park, .preferred, false), (.park, .lockedOut, false),
      (.park, .starting, false), (.park, .genWait, true), (.resume, .starting, false), (.resume, .genWait, false),
      (.resume, .parked, false), (.resume, .lockedOut, false), (.resume, .altClosing, true), (.abort, .starting, false),
      (.abort, .parked, false), (.abort, .lockedOut, false), (.abort, .returnSync, true)]
    (∀ x ∈ cases, (s x.1 x.2.1 x.2.2).Safe ∧ Taken x.1 (r x.1) [] (s x.1 x.2.1 x.2.2) ∧
      namesSeq (r x.1) .seq2 (s x.1 x.2.1 x.2.2)) ∧
    (s .park .parked false).inConfig = false ∧ (s .resume .parked false).mgmt.mode ≠ .blocked ∧
    (∀ x ∈ [(Kind.resume, parked), (.abort, unload)], x.2.Safe ∧ Taken x.1 (r x.1) [] x.2 ∧ namesSeq (r x.1) .seq2 x.2) ∧
    parked.mgmt.mode = .blocked ∧ (parked.seq .seq2).state = .parked ∧ unload.par.unload = some ⟨.seq2, 0, 3, 3000⟩ := by
  intro s r parked unload cases
  have named : ∀ (k : Kind) (x : State), (x.brk 1).present = true → namesSeq (r k) .seq2 x :=
    fun _ _ h => ⟨.inr ⟨rfl, rfl⟩, .inr h⟩
  have each : ∀ x ∈ cases, safeB (s x.1 x.2.1 x.2.2) = true ∧ takenB x.1 (r x.1) [] (s x.1 x.2.1 x.2.2) = true ∧
      ((s x.1 x.2.1 x.2.2).brk 1).present = true := by decide
  have both : ∀ x ∈ [(Kind.resume, parked), (.abort, unload)], safeB x.2 = true ∧ takenB x.1 (r x.1) [] x.2 = true ∧
      (x.2.brk 1).present = true := by decide
  exact ⟨fun x m => ⟨safe_of (each x m).1, taken_of (each x m).2.1, named _ _ (each x m).2.2⟩, by decide, by decide,
    fun x m => ⟨safe_of (both x m).1, taken_of (both x m).2.1, named _ _ (both x m).2.2⟩, by decide, by decide, by decide⟩


/-- What the clauses on updates ask of a state: the utility HEALTHY, the bus live, the bus run down, the positions and voltages
known, GBUS ready for the snapshot, the GM locked out. -/
def seqFacts (q : SeqId) (s : State) : List Bool :=
  let m := s.voltMeas (busPoint q)
  let r := (s.seq q).residual
  [decide (s.declared (utilPoint q) = .healthy), decide (s.declared (busPoint q) = .live ∨ s.declared (busPoint q) = .healthy),
    decide (m.quality ≠ .invalid ∧ m.rms.a < r ∧ m.rms.b < r ∧ m.rms.c < r),
    s.inService && (s.brk (incSlot q)).present && ((List.range 25).all fun n =>
      !(s.brk n).present || !decide (n = incSlot q ∨ n = 2 ∨ n = gmSlot q ∨ (13 ≤ n ∧ (s.brk n).busSide = secBus q)) ||
        decide (s.pos n ≠ .unknown)) &&
      decide (s.declared (utilPoint q) ≠ .indeterminate ∧ s.declared (busPoint q) ≠ .indeterminate),
    decide (s.declared 4 = .healthy ∧ ((s.seq q).snapshot : Int) ≤ s.par.freeCap),
    (s.slot (gmSlot q)).lock.isSet || s.arb.gbus.isSet]

/-- SEQ1 as given, SEQ2 in PREFERRED, GM1 CLOSED, and the points UA, UB, V2 and GBUS declared as given. -/
def section1 (ua v2 gbus : VClass) (x : Seq) : State :=
  withSeq .seq2 { state := .preferred } <| withSeq .seq1 x <| declare [(0, ua), (1, .healthy), (2, v2), (4, gbus)] <|
    withSlot 3 { position := .closed }

theorem test_wit_SequencerAtUpdate :
    let up := section1 .healthy .live .healthy
    let lit := section1 .dead .live .healthy
    let dark := section1 .dead .dead .dead
    let low := fun (s : State) => s.modMeas fun m => { m with volt := modAt m.volt 2 fun x => { x with quality := .good } }
    let locked := fun (s : State) => s.modSlot 3 fun a => { a with lock := ⟨true, [.bf 3]⟩ }
    let waits : State := (dark { state := .returnSync, alt := some .gm }).modSlot 0 fun a =>
      { a with order := some { closing with phase := .syncWait, issueTime := none } }
    let soft := fun (p : Int) => ((up { state := .parallelSoft, alt := some .gm }).modGen 1 fun g =>
      { g with state := .online }).modMeas fun m => { m with cur := modAt m.cur 5 fun x => { x with power := some p } }
    let load := fun s => ((allGens.filter fun k => (s.genRow k).present && countedOnline s k).map fun k =>
      max 0 ((s.curMeas (genSlot k)).power.getD 0)).sum
    let bound := fun s => ((allGens.filter fun k => (s.genRow k).present && countedOnline s k).map fun k =>
      ((s.genRow k).rating : Int)).sum * (s.scheme .seq1).softThreshold / 100
    let facts := fun (l : List State) => l.map fun s => (safeB s, (s.seq .seq1).state, seqFacts .seq1 s)
    facts [up { state := .starting }, (up { state := .starting }).modSlot 0 fun a => { a with position := .unknown },
        up { state := .preferred }, dark { state := .preferred }, up { state := .lossPending }, dark { state := .lossPending },
        low (dark { state := .deadWait, residual := 1 }), dark { state := .deadWait, residual := 1 },
        locked (up { state := .genWait, alt := some .gm }), up { state := .genWait, alt := some .gm },
        up { state := .genWait, alt := some .gm, snapshot := 1 },
        low (dark { state := .returnOpening, dead := some 11000000, residual := 1 }), dark { state := .returnOpening }] =
      [(true, .starting, [true, true, false, true, true, false]), (true, .starting, [true, true, false, false, true, false]),
        (true, .preferred, [true, true, false, true, true, false]), (true, .preferred, [false, false, false, true, false, false]),
        (true, .lossPending, [true, true, false, true, true, false]),
        (true, .lossPending, [false, false, false, true, false, false]),
        (true, .deadWait, [false, false, true, true, false, false]), (true, .deadWait, [false, false, false, true, false, false]),
        (true, .genWait, [true, true, false, true, true, true]), (true, .genWait, [true, true, false, true, true, false]),
        (true, .genWait, [true, true, false, true, false, false]),
        (true, .returnOpening, [false, false, true, true, false, false]),
        (true, .returnOpening, [false, false, false, true, false, false])] ∧
    (facts [up { state := .onAlternate, alt := some .gm }, lit { state := .onAlternate, alt := some .gm },
        dark { state := .onAlternate, alt := some .gm }, dark { state := .onAlternate, alt := some .gm, busProven := true },
        up { state := .returnWatch, alt := some .gm }, dark { state := .returnWatch, alt := some .gm },
        dark { state := .returnWatch, alt := some .gm, busProven := true }, waits, up { state := .returnSync, alt := some .gm },
        dark { state := .parallelSoft, alt := some .gm }, soft 100, soft 101]).map (fun x => (x.1, x.2.2.take 2)) =
      [(true, [true, true]), (true, [false, true]), (true, [false, false]), (true, [false, false]), (true, [true, true]),
        (true, [false, false]), (true, [false, false]), (true, [false, false]), (true, [true, true]), (true, [false, false]),
        (true, [true, true]), (true, [true, true])] ∧
    base.pos 2 = .opn ∧ (up {}).pos (altSlot .seq1 .gm) = .closed ∧ inSyncWait waits (incSlot .seq1) = true ∧
      load (soft 100) ≤ bound (soft 100) ∧ bound (soft 101) < load (soft 101) ∧
      (∀ s ∈ [dark { state := .altClosing, alt := some .tie, dead := some 11000000 }, dark { state := .altClosing, alt := some .tie },
        dark { state := .deadBus, awaited := some ⟨3, .opn, some 7⟩ }, dark { state := .preferred, awaited := some ⟨0, .opn, none⟩ },
        dark { state := .parallelFast, alt := some .gm }, dark { state := .parked }], safeB s = true) ∧
      (let s := up { state := .deadBus }
       s.Safe ∧ (s.scheme .seq1).alternates = [] ++ .tie :: [.gm] ∧ altReady s .seq1 .tie) ∧
      (let s := up { state := .deadBus, spentTie := true }
       s.Safe ∧ (s.scheme .seq1).alternates = [.tie] ++ .gm :: [] ∧ ¬altReady s .seq1 .tie ∧ altReady s .seq1 .gm) ∧
      (let s := dark { state := .deadBus, spentTie := true, spentGm := true }
       s.Safe ∧ ¬altReady s .seq1 .tie ∧ ¬altReady s .seq1 .gm) ∧
      (let s := (up { state := .preferred }).modMeas fun m => { m with volt := modAt m.volt 0 fun x => { x with raw := .healthy } }
       (s.voltMeas 0).raw = .healthy ∧ s.declared 0 = .healthy ∧ (s.modSlot 0 fun a => { a with position := .closed }).pos 0 = .closed) := by
  simp only [ready_iff]
  refine ⟨by decide, by decide, by decide, by decide, by decide, by decide, by decide, by decide, ⟨safe_of ?_, ?_⟩,
    ⟨safe_of ?_, ?_⟩, ⟨safe_of ?_, ?_⟩, ?_⟩ <;> decide

theorem test_wit_SequencerOutcomes :
    let w : Awaited := ⟨3, .opn, some 7⟩
    let s := fun st (alt : Option Alt) => section1 .dead .dead .dead { state := st, alt := alt, awaited := some w }
    let open3 := fun (s : State) => s.modSlot 3 fun a => { a with position := .opn }
    let tie := fun (s : State) => (open3 s).modSlot 2 fun a => { a with position := .closed }
    let fast := (s .parallelFast (some .tie)).modSeq .seq1 fun x => { x with parallel := some 11000000 }
    let noFallback := (s .returnSync (some .gm)).modMgmt fun m =>
      { m with image := some ⟨{ tables with schemes := [{ openFallback := false }, {}] }, .a⟩ }
    (∀ x ∈ [s .sourceOpening none, open3 (s .sourceOpening none), tie (s .sourceOpening none), s .altClosing (some .tie),
        s .altClosing (some .gm), s .returnSync (some .gm), noFallback, s .parallelFast (some .gm), fast,
        s .returnOpening (some .tie), s .deadBus (some .gm), s .returnClosing none, s .parked none],
      safeB x = true ∧ (x.seq .seq1).awaited = some ⟨3, .opn, some 7⟩) ∧
      (s .sourceOpening none).pos (gmSlot .seq1) = .closed ∧ (tie (s .sourceOpening none)).pos 2 = .closed ∧
      (tie (s .sourceOpening none)).pos (gmSlot .seq1) ≠ .closed ∧ (tie (s .sourceOpening none)).seqs.claim = none ∧
      (open3 (s .sourceOpening none)).pos 2 ≠ .closed ∧ (noFallback.scheme .seq1).openFallback = false ∧
      ((s .returnSync (some .gm)).scheme .seq1).openFallback = true ∧ ((s .returnSync (some .gm)).seq .seq1).kind = .fast ∧
      (({ kind := .soft } : Seq).kind = .soft) ∧ (fast.seq .seq1).parallel ≠ none ∧
      ((s .parallelFast (some .gm)).seq .seq1).parallel = none ∧ fast.records.queue = [] ∧
      (Told.refused .notSettled ≠ .done ∧ Told.refused .notSettled ≠ .noChange) ∧
      (let locked := (s .deadBus none).setBusLock .bus1 ⟨true, [.bf 2]⟩
       (s .deadBus none).Safe ∧ secBus .seq1 = .bus1 ∧ (locked.busLock (secBus .seq1)).isSet = true ∧
         ((s .deadBus none).busLock (secBus .seq1)).isSet = false ∧ (s .lockedOut none).Safe ∧
         ((s .lockedOut none).seq .seq1).state = .lockedOut) ∧
      ({ base with mail := [.busLockSet .bus1] } : State).mail = [.busLockSet .bus1] := by
  refine ⟨by decide, by decide, by decide, by decide, by decide, by decide, by decide, by decide, by decide, by decide,
    by decide, by decide, by decide, by decide, ⟨safe_of ?_, ?_, ?_, ?_, safe_of ?_, ?_⟩, ?_⟩ <;> decide

/-! ### Chapter 7 -/

/-- A GENSTAT frame of G1 with its four flags, its header and its payload. -/
def statFrame (run ready fault manual : Nat) : EthFrame := frame .genstat 65535 700 [1, run, ready, fault, manual]
def statHead : Header := ⟨.genstat, 65535, 700, 5⟩
def statGot (run ready fault manual : Bool) : GenstatPayload := ⟨1, run, ready, fault, manual⟩

/-- `base` with the record of G1. -/
def withGen (g : Gen) : State := base.modGen 1 fun _ => g

theorem test_wit_StatusMovesGenerator :
    let s := fun st => withGen { state := st }
    let m := withGen { state := .manual, manualMode := true }
    let closed := m.modSlot 5 fun a => { a with position := .closed }
    let lost := fun t => withGen { state := .online, lastStat := some t }
    (∀ x ∈ [s .off, s .starting, s .ready, s .closing, s .online, s .unloading, s .failed, m, closed, lost 9000000, lost 9000001],
      safeB x = true ∧ x.blocksRun = true ∧ (x.genRow 1).present = true ∧ (x.genRow 1).station = 700 ∧
        ∀ f ∈ [statFrame 0 0 0 0, statFrame 1 1 0 0, statFrame 0 0 1 0, statFrame 0 0 0 1],
          inwardB .genstat .p1 f statHead x = true) ∧
    genstatPayload statHead (statFrame 0 0 0 0).body = some (statGot false false false false) ∧
      genstatPayload statHead (statFrame 1 1 0 0).body = some (statGot true true false false) ∧
      genstatPayload statHead (statFrame 0 0 1 0).body = some (statGot false false true false) ∧
      genstatPayload statHead (statFrame 0 0 0 1).body = some (statGot false false false true) ∧
      closed.pos (genSlot 1) = .closed ∧ m.pos (genSlot 1) ≠ .closed ∧ m.par.demand = false ∧
      base.mgmt.serviceAt = some 0 ∧ ((lost 9000000).gen 1).lost = false ∧ max 0 9000000 + 1000000 ≤ base.now ∧
      ((lost 9000000).gen 1).lastStat = some 9000000 ∧ (lost 9000000).pos (genSlot 1) = .opn ∧
      ((lost 9000001).gen 1).lastStat = some 9000001 ∧ base.now < max 0 9000001 + 1000000 := by decide

theorem test_wit_StatusMovesGenerator_notTaken :
    let bare := { base with mgmt := { base.mgmt with part := .unconfigured } }
    let f := fun (k flag src : Nat) => frame .genstat 65535 src [k, flag, 0, 0, 0]
    (∀ x ∈ [base, bare], receiving x .p1 = true ∧ frameClass (f 1 0 700) = .vendor statHead ∧ offeredInward x statHead = true) ∧
      frameClass (f 1 0 210) = .vendor { statHead with src := 210 } ∧ offeredInward base { statHead with src := 210 } = false ∧
      bare.blocksRun = false ∧ [f 0 0 700, f 9 0 700, f 1 2 700].map (fun x => genstatPayload statHead x.body) = [none, none, none] ∧
      (genstatPayload statHead (f 8 1 700).body).map (fun x => x.gen) = some 8 ∧ (base.genRow 8).present = false ∧
      (base.genRow 1).station ≠ 699 := by decide

theorem test_wit_StopTimerDropsDemand :
    let s := fun t => (withGen { state := .closing, bias := -7 }).modPar fun p => { p with demand := true, stopTimer := some t }
    (s 10000000).Safe ∧ (s 10000001).Safe ∧ (s 10000000).par.stopTimer = some 10000000 ∧ 10000000 ≤ (s 0).now ∧
      (s 10000001).par.stopTimer = some 10000001 ∧ (s 0).now < 10000001 ∧ ((s 0).genRow 1).present = true ∧
      ((s 0).gen 1).state = .closing ∧ ((s 0).genRow 2).present = true ∧ ((s 0).gen 2).state = .off := by
  refine ⟨safe_of ?_, safe_of ?_, ?_⟩ <;> decide

theorem test_wit_SyncFiresOrTimesOut :
    let w : Order := { closing with phase := .syncWait, issueTime := none }
    let c : Channel := { slot := 0, ref := 0, inc := 2, closing := 150, hold := 2, start := 10000000 }
    let s := fun ch q => { ((withSlot 0 { position := .opn, order := some w }).modPar fun p =>
      { p with channels := [none, none, none, ch], queue := q }) with now := 40000000 }
    let held := ((s (some c) []).modSlot 1 fun a => { a with position := .closed }).modSlot 2 fun a => { a with position := .closed }
    let late := fun t => s none [⟨0, 0, 2, 150, t⟩]
    let next : SyncReq := ⟨1, 1, 2, 150, 20000000⟩
    let more := held.modPar fun p => { p with queue := [next] }
    (∀ x ∈ [s (some c) [], held, more, s (some c) [next], late 10000000, late 10000001], safeB x = true ∧ (x.slot 0).order = some w) ∧
      w.type = .close ∧ w.phase = .syncWait ∧ (s (some c) []).par.channels[3]? = some (some c) ∧ c.fired = false ∧
      c.hold = 2 ∧ c.slot < 25 ∧ interlockFails (s (some c) []) 0 = false ∧ held.par.channels[3]? = some (some c) ∧
      interlockFails held 0 = true ∧ waitingSince (s (some c) []) 0 = some 10000000 ∧
      waitingSince (late 10000000) 0 = some 10000000 ∧ channelOf (late 10000000) 0 = none ∧
      10000000 + base.tbl.par.syncWait * 1000000 ≤ 40000000 ∧ waitingSince (late 10000001) 0 = some 10000001 ∧
      40000000 < 10000001 + base.tbl.par.syncWait * 1000000 ∧
      (∀ x ∈ [s (some c) [], held, more, s (some c) [next]], channelOf x 0 = some 3) ∧ held.par.queue = [] ∧
      more.par.queue = [next] ∧ interlockFails more 0 = true ∧ waitingSince (s (some c) [next]) 0 = some 10000000 := by
  decide

/-- Channel 0 matching INC-A, with the angle and slip given and the points of UA and BUS1 as given. -/
def matching (q : Quality) (a : Nat) (hold : Nat) (angle slip : Int) : State :=
  (base.modPar fun p => { p with voltWin := 300, channels := [some { slot := 0, ref := 0, inc := 2, closing := 150, hold := hold, pair := some (angle, slip) }, none, none, none] }).modMeas
    fun m => { m with volt := modAt (modAt m.volt 0 fun x => { x with quality := .good, rms := ⟨6000, 0, 0, 0⟩ }) 2 fun x =>
      { x with quality := q, rms := ⟨a, 0, 0, 0⟩ } }

theorem test_wit_SyncFiresOrTimesOut_criteria :
    let c := fun (hold : Nat) (angle slip : Int) =>
      ({ slot := 0, ref := 0, inc := 2, closing := 150, hold := hold, pair := some (angle, slip) } : Channel)
    let win := (base.tbl.par.angleWin : Int)
    let holds := fun q a angle slip => channelHolds (matching q a 0 angle slip) (c 0 angle slip)
    [holds .good 6300 win 9, holds .good 6301 0 0, holds .suspect 6000 0 0, holds .good 6000 (win + 1) 0, holds .good 6000 0 10,
      holds .good 6000 0 ((base.tbl.par.slipLimit : Int) + 1), holds .good 6000 17990 10] =
      [true, false, false, false, true, false, false] ∧
    (∀ h ∈ [0, 1], (matching .good 6000 h 0 0).par.channels[0]? = some (some (c h 0 0)) ∧
      channelHolds (matching .good 6000 h 0 0) (c h 0 0) = true ∧ (c h 0 0).fired = false ∧ (c h 0 0).hold = h) ∧
    (0 + 10 * 150 * 36 : Int).tdiv 1000 = 54 := by decide

theorem test_wit_ClosesAndCapacity :
    let stop := fun (p : Pos) => ((((base.modPar fun x => { x with stopPending := true }).modSlot 3 fun a => { a with position := p }).modGen 1
      fun g => { g with state := .online }).modSlot 5 fun a => { a with position := .closed })
    let grant := fun (v : VClass) => ((declare [(4, v)] base).modPar fun p => { p with grant := some ⟨1, .par, true⟩ }).modSlot 5 fun a =>
      { a with order := some { closing with grantHeld := true, requesters := [.par] } }
    let ready := fun (gbus : VClass) (demand : Bool) => (((declare [(4, gbus), (5, .healthy), (6, .live)] base).modPar fun p =>
      { p with demand := demand }).modGen 1 fun g => { g with state := .ready }).modGen 2 fun g => { g with state := .ready }
    (∀ x ∈ [stop .opn, stop .closed, grant .dead, grant .live, ready .dead true, ready .dead false, ready .healthy true,
        ready .indeterminate true], safeB x = true) ∧
      (stop .opn).par.stopPending = true ∧ (stop .opn).pos 3 = .opn ∧ (stop .opn).pos 4 = .opn ∧ (stop .closed).pos 3 ≠ .opn ∧
      ((stop .opn).genRow 1).present = true ∧ ((stop .opn).gen 1).state = .online ∧ ((stop .opn).gen 1).awaited = none ∧
      (grant .dead).declared 4 = .dead ∧ (grant .live).declared 4 ≠ .dead ∧ (grant .live).par.grant = some ⟨1, .par, true⟩ ∧
      ((grant .live).slot (genSlot 1)).order = some { closing with grantHeld := true, requesters := [.par] } ∧
      (let x := ready .dead true
       x.inService = true ∧ x.par.demand = true ∧ x.mgmt.mode ≠ .blocked ∧ x.declared 4 = .dead ∧ x.par.grant = none ∧
         allGens.map (eligible x) = [true, true, false, false, false, false, false, false] ∧ (x.genRow 1).priority = 1 ∧
         (x.genRow 2).priority = 2 ∧ (x.brk (genSlot 1)).present = true ∧ closeLadder x (genSlot 1) = .taken 0) ∧
      (let x := ready .healthy true
       x.par.channels = List.replicate 4 none ∧ x.par.queue = [] ∧ isLive (x.declared 4) = true ∧ eligible x 2 = true ∧
         (x.gen 2).awaited = none ∧ closeLadder x (genSlot 2) = .taken 0) ∧
      (closeLadder (ready .indeterminate true) (genSlot 1) = .refused .notSettled) := by decide

theorem test_wit_TrimAndSharing :
    let c := fun (n : Nat) (fired : Bool) (slip : Int) =>
      ({ slot := n, ref := 2, inc := 3, closing := 150, fired := fired, pair := some (0, slip) } : Channel)
    let mains := fun (a b : Pos) => (((base.modSlot 3 fun x => { x with position := a }).modSlot 4 fun x => { x with position := b }).modGen 1
      fun g => { g with state := .online, bias := 995 }).modGen 2 fun g => { g with state := .unloading }
    let powered := fun (s : State) => s.modMeas fun m => { m with cur := modAt (modAt m.cur 5 fun x => { x with power := some 900 }) 6 fun x =>
      { x with power := some 300 } }
    let unload := (powered (mains .closed .opn)).modPar fun p => { p with unload := some ⟨.seq1, 1000, 3, 1000⟩ }
    (∀ x ∈ [mains .closed .opn, mains .opn .closed, powered (mains .closed .opn), unload], safeB x = true) ∧
      [trimOf (mains .closed .opn) (c 0 false 400) 1, trimOf (mains .opn .closed) (c 1 false 400) 1,
        trimOf (mains .opn .closed) (c 2 false (-400)) 1, trimOf (mains .closed .opn) (c 2 false (-400)) 1,
        trimOf (mains .closed .closed) (c 2 false 400) 1, trimOf (mains .closed .opn) (c 5 false 40) 1,
        trimOf (mains .closed .opn) (c 0 true 400) 1, trimOf (mains .closed .opn) (c 0 false 400) 2] = [10, 10, -10, 10, 0, 3, 0, 0] ∧
      ((mains .closed .opn).curMeas (genSlot 1)).power = none ∧ ((powered (mains .closed .opn)).curMeas (genSlot 1)).power = some 900 ∧
      unload.par.unload ≠ none ∧ (unload.genRow 2).present = true ∧ (unload.gen 2).state = .unloading ∧
      (unload.genRow 3).present = false ∧ (mains .closed .opn).par.unload = none ∧
      (mains .closed .opn).pos (gmSlot (otherSeq .seq1)) = .opn ∧ (mains .opn .closed).pos (gmSlot (otherSeq .seq1)) ≠ .opn := by
  decide

/-! ### Chapters 8 to 10 -/

/-- A COMPLETE record. -/
def record (n : Nat) (complete : Bool) : Record :=
  { number := n, complete := complete, kind := .element, firstTime := 0, pickupIdx := 1, operIdx := 2, seq1 := .preferred
    seq2 := .deadBus, mode := .live }

theorem test_wit_TriggersTaken :
    let e : ElemEntry := ⟨.a, 3, .toc, 5000⟩
    let entry := fun (n : Nat) => (⟨n, some 7, .done, some 4990⟩ : BrkEntry)
    let held : Record :=
      { record 4 false with firstTime := 9000000, brks := [entry 13], awaited := [(2, none)], latest := [(.a, 3)], elems := [e] }
    let full : Record := { held with
      elems := (List.range 8).map fun i => ⟨.b, i, .toc, 1⟩, brks := (List.range 8).map entry, bfPart := List.replicate 4 ⟨13, [.prot], some 7, [], 1⟩ }
    let s := fun (l : List Record) => base.modRecords fun r => { r with queue := l, nextNumber := 65535 }
    let bf : Trigger := .bf ⟨13, [.prot], some 7, [2], 5000⟩
    (s [held]).records.queue.length ≤ 16 ∧ (s (List.replicate 16 held)).records.queue.length = 16 ∧ held.complete = false ∧
      (s []).now ≤ held.firstTime + 1000000 ∧ ¬(s []).now ≤ { held with firstTime := 8999999 }.firstTime + 1000000 ∧
      (∃ b ∈ held.brks, b.slot = 13) ∧ bf = .bf ⟨13, [.prot], some 7, [2], 5000⟩ ∧
      ((takeTrigger bf (s [{ held with firstTime := 0 }, record 5 true])).records.queue.map fun r => r.bfPart.length) = [1, 0] ∧
      (takeTrigger (.overrun ⟨.seq1, 2, 5⟩) (s (List.replicate 16 (record 4 true)))).records.nextNumber = 1 ∧
      (∃ x ∈ held.elems, x.group = e.group ∧ x.row = e.row) ∧ (¬∃ x ∈ full.elems, x.group = e.group ∧ x.row = e.row) ∧
      full.elems.length = 8 ∧ full.bfPart.length = 4 ∧ held.overrun = none ∧ full.brks.length = 8 ∧
      (¬((∃ x ∈ held.awaited, x.1 = 5) ∨ ∃ b ∈ held.brks, b.slot = 5)) ∧
      (((withSlot 5 { order := some opening }).slot 5).order = some opening ∧ opening.type = .opn ∧ closing.type = .close) ∧
      (base.slot 5).order = none ∧ base.pos 5 = .opn ∧ (withSlot 5 { position := .closed }).pos 5 ≠ .opn ∧
      ((withSlot 5 { position := .closed, lastResult := some ⟨.opn, 7, [.prot], .fail⟩ }).slot 5).lastResult =
        some ⟨.opn, 7, [.prot], .fail⟩ ∧
      (s [held]).records.queue[0]? = some held ∧ (∃ x ∈ held.awaited, x.1 = 2 ∧ (x.2 = none ∨ x.2 = some 9)) ∧
      readyToComplete (s [held]) held = false ∧ readyToComplete (s []) { held with awaited := [] } = true ∧
      (completeRecord held).clearance = some 4990 ∧ held.brks ≠ [] ∧ held.truncated = false ∧
      (∀ b ∈ held.brks, (b.outcome = .done ∨ b.outcome = .noChange) ∧ b.completion ≠ none) ∧
      (completeRecord { held with brks := [] }).clearance = none ∧ base.records.bfView.length = 25 ∧
      (Group.a, 3) ∈ held.latest := by decide

theorem test_wit_SnapshotContents :
    let s := (base.modProt fun p =>
      { p with targetsA := modAt p.targetsA 63 fun _ => some ⟨5, 5⟩, targetsB := modAt p.targetsB 63 fun _ => some ⟨6, 6⟩
               operated := modAt p.operated 0 fun _ => some .b }).modSlot 24 fun a => { a with bf := .timing, bfTimer := 3 }
    s.Safe ∧ s.prot.targetsA.length = 64 ∧ s.prot.targetsB.length = 64 ∧ s.prot.operated.length = 64 ∧
      snapshot s .protection = .protection .a none [(0, .b)] [(.a, 63, 5), (.b, 63, 6)] ∧
      snapshot s .breakerFailure = .breakerFailure [(24, .timing, 3)] ∧
      snapshot (base.modSeqs fun x => { x with inhibit := some 10000001 }) .sequencer =
        .sequencer (.service false) .live [⟨.seq1, .deadBus, false, none, false⟩, ⟨.seq2, .deadBus, false, none, false⟩] none 1 := by
  refine ⟨safe_of ?_, ?_⟩ <;> decide

theorem test_wit_NoticesAndRecords :
    let s := fun t => base.modRecords fun r => { r with pendingNotices := [.record, .sequencer], lastSend := t }
    let q := fun k a l => (ask k a).modRecords fun r => { r with queue := l }
    let d := q .discardRecord (.recordNo 4) [record 4 false, record 4 true, record 4 true]
    let c := q .clear (.clear true true false true) [record 4 true]
    let gens := fun (d : Bool) (y : Gen) =>
      ((ask .clear (.clear false false true true)).modGen 1 fun _ => y).modPar fun p => { p with demand := d }
    (s none).siteInForce = true ∧ .sequencer ∈ (s none).records.pendingNotices ∧
      (∀ x ∈ (s none).records.pendingNotices, noticeCode .sequencer ≤ noticeCode x) ∧ (s none).records.lastSend = none ∧
      9990000 + 10000 ≤ (s (some 9990000)).now ∧ (s (some 9990001)).now < 9990001 + 10000 ∧
      Taken .discardRecord (req .discardRecord (.recordNo 4)) [] d ∧ (oldestComplete d).map (fun x => x.number) = some 4 ∧
      Taken .discardRecord (req .discardRecord (.recordNo 3)) []
        (q .discardRecord (.recordNo 3) [record 3 false, record 4 true]) ∧
      c.Safe ∧ Taken .clear (req .clear (.clear true true false true)) [] c ∧
      (c.prot.operated.getD 63 none).isNone = true ∧ (ask .clear (.clear false false true false)).Safe ∧
      Taken .clear (req .clear (.clear false false true false)) [] (ask .clear (.clear false false true false)) ∧
      (∀ y ∈ ([{}, { fault := true }, { lost := true }, { running := true, ready := true }] : List Gen),
        let f := fun d => gens d { y with state := .failed, cause := some .opn }
        ∀ d ∈ [true, false], safeB (f d) = true ∧ takenB .clear (req .clear (.clear false false true true)) [] (f d) = true ∧
          ((f d).genRow 1).present = true ∧ ((f d).gen 1).state = .failed ∧ (f d).par.demand = d) := by
  refine ⟨?_, ?_, ?_, ?_, ?_, ?_, taken_of ?_, ?_, taken_of ?_, safe_of ?_, taken_of ?_, ?_, safe_of ?_, taken_of ?_, ?_⟩ <;>
    decide

theorem test_wit_ReadsAnswered :
    (∀ x ∈ [(Kind.readStatus, Args.absent), (.readPoint, .point (.cur 24)), (.readPoint, .point (.volt 12)),
        (.readBreaker, .slot 24), (.readElement, .element (some .b) 63), (.readGenerator, .generator 0),
        (.readGenerator, .generator 8), (.readRow, .row 10 8), (.readRecord, .absent)],
      Taken x.1 (req x.1 x.2) [] (ask x.1 x.2)) ∧ tableRow 10 8 = some .generators := by
  refine ⟨fun x m => taken_of ?_, by decide⟩
  revert x
  decide

theorem test_wit_RequestTests :
    let s := fun n a p => (ask .operate a).modMgmt fun m => { m with part := p, requests := [⟨n, 7, 13, a⟩] }
    let busy := (s 500 .absent (.service false)).modMgmt fun m => { m with restart := some (500, 6) }
    let open' : Args := .operate 13 (some .opn)
    let front := fun n k => base.modMgmt fun m => { m with requests := [⟨n, 7, k, .absent⟩] }
    (∀ k ∈ [0, 24], Inward .manage .p1 (ordered 210 500 k) ⟨.manage, 210, 500, 3⟩ base ∧
      managePayload ⟨.manage, 210, 500, 3⟩ (ordered 210 500 k) = some ⟨500, 7, k, .absent⟩) ∧ base.Safe ∧
    requestRow (kindCodeOf .operate) = [.operate] ∧ unitFree busy = false ∧ kindCodeOf .operate = 13 ∧
      kindCodeOf .park ≠ 13 ∧ requestRow (kindCodeOf .park) = [.park] ∧
      unitFree (s 502 open' (.service false)) = true ∧ managerRights (s 502 open' (.service false)) 502 = none ∧
      managerRights (s 501 open' (.service false)) 501 = some .view ∧ includesRight .view (rightOf .operate) = false ∧
      argsShape .operate open' = true ∧ argsShape .operate (.operate 13 none) = false ∧
      managerRights (s 500 open' (.config true)) 500 = some .operate ∧ includesRight .operate (rightOf .operate) = true ∧
      takenNow .operate (.config true) = true ∧ takenNow .operate (.config false) = false ∧
      argsNumbered (.operate 25 (some .opn)) = false ∧ argsShape .operate (.operate 25 (some .opn)) = true ∧
      (∀ k ∈ [0, 24, 255], ∀ n ∈ [500, 502], (front n k).mgmt.requests = [⟨n, 7, k, .absent⟩] ∧ unitFree (front n k) = true) ∧
      managerRights (front 502 24) 502 = none ∧ (managerRights (front 500 24) 500).isSome = true ∧
      base.link.station = some 210 ∧ base.link.dup = [] ∧ base.mgmt.requests = [] ∧ unitFree base = true ∧
      (managerRights base 500).isSome = true := by
  intro s busy open' front
  have heads : ∀ k ∈ [0, 24], inwardB .manage .p1 (ordered 210 500 k) ⟨.manage, 210, 500, 3⟩ base = true ∧
      managePayload ⟨.manage, 210, 500, 3⟩ (ordered 210 500 k) = some ⟨500, 7, k, .absent⟩ := by decide
  exact ⟨fun k m => ⟨inward_of (heads k m).1, (heads k m).2⟩, base_safe, by decide⟩

theorem test_wit_RowWritten :
    let w := fun t i d ok => ask .writeRow (.write t i d ok)
    let r := fun t i d ok => req .writeRow (.write t i d ok)
    let conf := fun (s : State) => s.modMgmt fun m => { m with part := .config true, edit := some tables }
    let site : RowData := .site { tables.site with qDead := 0 }
    let bad : RowData := .site { tables.site with fNom := some 55 }
    let row : RowData := .element { enabled := true, kind := .ioc, pickup := 400, trip := [13] }
    let wrong : RowData := .element { enabled := true, kind := .uf, point := .cur 0, trip := [13] }
    let unset : RowData := .site { tables.site with fNom := none }
    let pend := (w 8 0 row true).modProt fun p => { p with pendingGroup := some .b }
    Taken .writeRow (r 1 0 site true) [] (conf (w 1 0 site true)) ∧ tableRow 1 0 = some .site ∧
      (conf (w 1 0 site true)).inConfig = true ∧ rowStructure (convertRow tables.site.fNom (clampRow site)) = true ∧
      clampRow site ≠ site ∧ Taken .writeRow (r 1 0 unset true) [] (conf (w 1 0 unset true)) ∧
      rowStructure (convertRow tables.site.fNom (clampRow unset)) = true ∧
      (putRow .site 0 (convertRow tables.site.fNom (clampRow unset)) tables).site.fNom = none ∧
      Taken .writeRow (r 1 0 bad true) [] (conf (w 1 0 bad true)) ∧
      rowStructure (convertRow tables.site.fNom (clampRow bad)) = false ∧
      Taken .writeRow (r 1 0 site false) [] (conf (w 1 0 site false)) ∧ Taken .writeRow (r 1 0 site true) [] (w 1 0 site true) ∧
      (w 1 0 site true).inConfig = false ∧ Taken .writeRow (r 7 0 row true) [] (w 7 0 row true) ∧
      tableRow 7 0 = some .elementsA ∧ (w 7 0 row true).prot.active = .a ∧ Taken .writeRow (r 8 0 row true) [] pend ∧
      pend.prot.pendingGroup ≠ none ∧ Taken .writeRow (r 8 0 row true) [] (w 8 0 row true) ∧ tableRow 8 0 = some .elementsB ∧
      (w 8 0 row true).prot.pendingGroup = none ∧ (w 8 0 row true).prot.active ≠ .b ∧
      rowStructure (convertRow (some 50) (clampRow row)) = true ∧
      serviceElementOk tables (convertRow (some 50) (clampRow row)) = true ∧ (w 8 0 row true).mgmt.image.isSome = true ∧
      Taken .writeRow (r 8 0 wrong true) [] (w 8 0 wrong true) ∧
      (rowStructure (convertRow (some 50) (clampRow wrong)) = false ∨
        serviceElementOk tables (convertRow (some 50) (clampRow wrong)) = false) := by
  refine ⟨taken_of ?_, ?_, ?_, ?_, ?_, taken_of ?_, ?_, ?_, taken_of ?_, ?_, taken_of ?_, taken_of ?_, ?_, taken_of ?_, ?_, ?_,
    taken_of ?_, ?_, taken_of ?_, ?_, ?_, ?_, ?_, ?_, ?_, taken_of ?_, ?_⟩ <;> decide

theorem test_wit_TableChecks :
    let bad : ElementRow := { enabled := true, kind := .uf, point := .cur 0, trip := [13] }
    let two : Tables := { tables with
      elemsB := bad :: List.replicate 63 {}, subs := ⟨300, 0, 3, true⟩ :: ⟨300, 0, 3, true⟩ :: List.replicate 46 {} }
    (commitCheck two).map (fun x => x.1) = some .subscriptions ∧ commitPlace .subscriptions < commitPlace .elementsB ∧
      elementOk tables (tables.elemsA.getD 0 {}) = true ∧ elementOk tables bad = false ∧
      serviceElementOk tables (.element bad) = false ∧ serviceElementOk tables (.element { bad with enabled := false }) = true ∧
      rowStructure (.scheme { alternates := [.tie, .tie] }) = false ∧ rowStructure (.scheme {}) = true ∧
      clampRow (.par { slipLimit := 9, gain := 1001 }) = .par { slipLimit := 10, gain := 1000 } ∧
      nearer 10 1000 9 = 10 ∧ nearer 10 1000 1001 = 1000 ∧
      convertRow (some 60) (.breaker { bfTime := 151 }) = .breaker { bfTime := 151, bfUpdates := some 37 } := by decide

theorem test_wit_ConfigEntered :
    let s := ask .enterConfig .absent
    let conf := s.modMgmt fun m => { m with part := .config true, edit := some tables }
    let raw := s.modMgmt fun m => { m with part := .unconfigured, image := none }
    let r := req .enterConfig .absent
    s.Safe ∧ Taken .enterConfig r [] s ∧ s.inService = true ∧ conf.Safe ∧ Taken .enterConfig r [] conf ∧
      conf.inConfig = true ∧ raw.Safe ∧ Taken .enterConfig r [] raw ∧ raw.mgmt.part = .unconfigured := by
  refine ⟨safe_of ?_, taken_of ?_, ?_, safe_of ?_, taken_of ?_, ?_, safe_of ?_, taken_of ?_, ?_⟩ <;> decide

theorem test_wit_ImageBroughtIntoForce :
    let s := fun k e => (ask k .absent).modMgmt fun m => { m with part := .config true, edit := some e }
    let w := (s .discard tables).modMgmt fun m => { m with write := some ⟨true, 3, ⟨tables, .a⟩, [], false, []⟩ }
    let d := fun (x : State) => x.modMgmt fun m => { m with discard := some (500, 7) }
    Taken .commit (req .commit .absent) [] (s .commit Tables.fresh) ∧ commitCheck Tables.fresh = some (.site, 0) ∧
      Taken .commit (req .commit .absent) [] (s .commit tables) ∧ commitCheck tables = none ∧
      Taken .discard (req .discard .absent) [] (s .discard tables) ∧ (s .discard tables).mgmt.write = none ∧
      Taken .discard (req .discard .absent) [] w ∧ w.mgmt.write ≠ none ∧
      (d (s .discard tables)).mgmt.discard = some (500, 7) ∧ (d w).mgmt.discard = some (500, 7) ∧ (d w).mgmt.write ≠ none := by
  refine ⟨taken_of ?_, ?_, taken_of ?_, ?_, taken_of ?_, ?_, taken_of ?_, ?_⟩ <;> decide

theorem test_wit_GroupSelected :
    let s := fun g p => (ask .selectGroup (.group (some g))).modProt fun x => { x with pendingGroup := p }
    let r := fun g => req .selectGroup (.group (some g))
    let w := (s .b none).modMgmt fun m => { m with write := some ⟨true, 3, ⟨tables, .a⟩, [], false, []⟩ }
    let c := (s .b none).modMgmt fun m => { m with part := .config true }
    (r .b).args = .group (some .b) ∧ Taken .selectGroup (r .a) [] (s .a none) ∧ (s .a none).prot.active = .a ∧
      Taken .selectGroup (r .a) [] (s .a (some .b)) ∧ (s .a (some .b)).prot.pendingGroup ≠ none ∧
      (s .a (some .b)).mgmt.write = none ∧ Taken .selectGroup (r .b) [] (s .b none) ∧ (s .b none).prot.active ≠ .b ∧
      (s .b none).prot.pendingGroup ≠ some .b ∧ Taken .selectGroup (r .b) [] w ∧ w.mgmt.write ≠ none ∧
      Taken .selectGroup (r .b) [] (s .b (some .b)) ∧ (s .b (some .b)).prot.pendingGroup = some .b ∧
      c.mgmt.requests = [r .b] ∧ (r .b).kind = 11 ∧ unitFree c = true ∧ c.inService = false ∧
      managerRights c 500 = some .operate ∧ includesRight .operate .setting = true := by
  refine ⟨?_, taken_of ?_, ?_, taken_of ?_, ?_, ?_, taken_of ?_, ?_, ?_, taken_of ?_, ?_, taken_of ?_, ?_⟩ <;> decide

theorem test_wit_ModesAndEmulatedMoves :
    let s := fun m => ask .setMode (.mode (some m))
    let r := fun m => req .setMode (.mode (some m))
    let order := (s .loop).modSlot 13 fun a => { a with order := some opening }
    let moving := withSeq .seq2 { state := .genWait } (s .blocked)
    let loop := fun t => ((withSlot 13 { position := .closed, order := some opening }).modMgmt fun m =>
      { m with mode := .loop, emu := modAt m.emu 13 fun _ => some ⟨.closed, some (.opn, t)⟩ })
    let left := fun m => (s m).modMgmt fun x => { x with mode := .loop, emu := modAt x.emu 13 fun _ => some { pos := .closed } }
    let blocked := withSeq .seq1 { state := .parked } ((s .live).modMgmt fun x => { x with mode := .blocked })
    (∀ m ∈ [Mode.live, .blocked, .loop], safeB (s m) = true ∧ takenB .setMode (r m) [] (s m) = true ∧
      (allSlots.all fun n => ((s m).slot n).order.isNone) = true ∧ (∀ q ∈ [SeqId.seq1, .seq2], isStable ((s m).seq q).state = true)) ∧
      (s .live).mgmt.mode = .live ∧ order.Safe ∧ Taken .setMode (r .loop) [] order ∧ order.mgmt.mode ≠ .loop ∧
      (order.brk 13).present = true ∧ (order.slot 13).order ≠ none ∧ moving.Safe ∧ Taken .setMode (r .blocked) [] moving ∧
      isStable (moving.seq .seq2).state = false ∧ (loop 10000000).Safe ∧ (loop 10000001).Safe ∧
      (loop 10000000).mgmt.mode = .loop ∧
      (loop 10000000).mgmt.emu[13]? = some (some ⟨.closed, some (.opn, 10000000)⟩) ∧ 10000000 ≤ (loop 0).now ∧
      ((loop 10000000).slot 13).order = some opening ∧ opening.phase = .issued ∧ opening.type = .opn ∧
      (loop 10000001).mgmt.emu[13]? = some (some ⟨.closed, some (.opn, 10000001)⟩) ∧ (loop 0).now < 10000001 ∧
      (∀ m ∈ [Mode.live, .blocked], safeB (left m) = true ∧ takenB .setMode (r m) [] (left m) = true ∧
        (left m).mgmt.mode ≠ m ∧ (left m).mgmt.mode = .loop ∧ (left m).emuOf 13 = some { pos := .closed } ∧
        ((left m).slot 13).position = .opn ∧ ((left m).brk 13).present = true ∧
        (allSlots.all fun n => ((left m).slot n).order.isNone) = true ∧
        (∀ q ∈ [SeqId.seq1, .seq2], isStable ((left m).seq q).state = true)) ∧
      (blocked.seq .seq1).state = .parked ∧ safeB blocked = true ∧ takenB .setMode (r .live) [] blocked = true ∧
      blocked.mgmt.mode = .blocked ∧ ((left .live).seq .seq2).state ≠ .parked := by
  refine ⟨?_, ?_, safe_of ?_, taken_of ?_, ?_, ?_, ?_, safe_of ?_, taken_of ?_, ?_, safe_of ?_, safe_of ?_, ?_⟩ <;> decide

/-- Non-volatile memory that holds one image, in bank 1, and one set of lockouts, in copy 0. -/
def written : NonVol :=
  { bank1 := bankHolding 6 ⟨tables, .b⟩, copy0 := .holds 2 {} (crc32 (Config.lockoutBytes 2 {})) }

theorem taken_image : takenImage written = some (6, ⟨tables, .b⟩, true) := by
  simp [takenImage, written, bankHolding, bankValid]

theorem taken_copy : takenCopy written = some (2, {}, false) := by simp [takenCopy, written, copyValid]

theorem test_wit_RestartAndLoading :
    let s := ask .restart .absent
    let due := { base.modMgmt fun m => { m with restart := some (500, 7) } with nv := written }
    let busy := due.modMgmt fun m => { m with write := some ⟨false, 7, ⟨tables, .a⟩, [], false, []⟩ }
    let load := fun (v : NonVol) => { base.modMgmt fun m => { m with part := .loading } with nv := v }
    s.Safe ∧ Taken .restart (req .restart .absent) [] s ∧ due.Safe ∧ due.mgmt.restart ≠ none ∧ due.mgmt.write = none ∧
      due.mgmt.part ≠ .loading ∧ due.nv.storeWrite = none ∧ takenCopy due.nv = some (2, {}, false) ∧
      ({} : LockoutSet).slots.length = 25 ∧ busy.Safe ∧ busy.mgmt.restart ≠ none ∧ busy.mgmt.write ≠ none ∧
      (load written).Safe ∧ (load {}).Safe ∧ (load {}).link.running = true ∧ (load {}).mgmt.part = .loading ∧
      takenImage (load {}).nv = none ∧ (load written).link.running = true ∧ (load written).mgmt.part = .loading ∧
      takenImage (load written).nv = some (6, ⟨tables, .b⟩, true) := by
  refine ⟨safe_of ?_, taken_of ?_, safe_of ?_, ?_, ?_, ?_, ?_, taken_copy, ?_, safe_of ?_, ?_, ?_, safe_of ?_, safe_of ?_, ?_,
    ?_, ?_, ?_, ?_, taken_image⟩ <;> decide

theorem test_wit_NonVolatileWritesEnd :
    let w := fun b l x => (⟨b, 3, ⟨tables, .a⟩, l, x, [⟨500, 9, 11, false⟩]⟩ : Writing)
    let s := fun x => base.modMgmt fun m => { m with write := some x }
    let v := fun c x => base.modNv fun n => { n with storeWrite := some {}, nextCopy := c, storeWaiting := x }
    let held := (withSlot 13 { lock := ⟨true, [.bf 13]⟩ }).modNv fun n => { n with storeWrite := some {}, restoreWait := true }
    (s (w false [] true)).mgmt.write = some (w false [] true) ∧
      (s (w true [⟨500, 8, 9, true⟩] false)).mgmt.write = some (w true [⟨500, 8, 9, true⟩] false) ∧
      (v false true).nv.storeWrite = some {} ∧ (v false true).nv.nextCopy = false ∧ (v false true).nv.storeWaiting = true ∧
      (s (w true [⟨500, 8, 9, true⟩, ⟨501, 8, 9, false⟩] false)).mgmt.write =
        some (w true [⟨500, 8, 9, true⟩, ⟨501, 8, 9, false⟩] false) ∧
      held.nv.storeWrite = some {} ∧ held.nv.storeWaiting = false ∧ held.nv.restoreWait = true ∧
      held.arb.slots.length = 25 ∧ (held.slot 13).lock.isSet = true ∧ held.siteInForce = true ∧
      noticeEnabled held .lockout = true ∧ (v true false).nv.storeWrite = some {} ∧ (v true false).nv.nextCopy = true ∧ (v true false).nv.storeWaiting = false ∧
      (v true false).nv.restoreWait = false := by decide

/-! ### One step of rules that name one record, the lockout before an outcome, and RMS in a total loss -/

/-- R163: the record created last takes the trigger alone, though an older OPEN record carries its number. -/
theorem test_merge_takes_one_record :
    let old := { record 4 false with firstTime := 9500000 }
    let s := base.modRecords fun r => { r with queue := [old, { old with operIdx := 9 }] }
    let u := takeTrigger (.overrun ⟨.seq1, 24, 5⟩) s
    u.records.queue.map (fun r => r.overrun.isSome) = [false, true] := by decide

/-- R164, R73: the final peaks go to the record of the element's latest trigger; to none once it has left the queue. -/
theorem test_final_peaks :
    let old := { record 4 false with elems := [⟨.a, 0, .ioc, 5⟩] }
    let mine := { old with latest := [(Group.a, 0)] }
    let peaks := fun l => (finalPeaks .a 0 ⟨true, false, false, false⟩ ⟨70, 0, 0, 0⟩ (base.modRecords fun r => { r with queue := l })).records.queue.map
      fun r => r.peaks.a
    peaks [mine, old] = [70, 0] ∧ peaks [old] = [0] ∧ peaks [{ mine with complete := true }] = [0] := by decide

/-- R133: a bus lockout that ends the close a sequencer awaits in RETURN_CLOSING leaves it in LOCKED_OUT, with no start
demand of DEAD_BUS and the close told as BUS_LOCKOUT. -/
theorem test_lockout_before_outcome :
    let own := { closing with requesters := [.seq .seq1] }
    let s := withSeq .seq2 {} <| withSeq .seq1 { state := .returnClosing, awaited := some ⟨0, .close, some 255⟩ } (withSlot 0 { position := .opn, order := some own })
    let u := finish (setBusLockout .bus1 (.bf 13) s)
    (u.seq .seq1).state = .lockedOut ∧ u.par.demand = false ∧
      (u.slot 0).lastResult.map (fun x => x.result) = some .busLockout := by decide

/-- R53: with every buffer empty the values RMS is formed from stand while the held value fills the history. -/
theorem test_total_loss_keeps_rms :
    let stream : StreamRec := { state := .good, last := [90, 0, 0, 0, 0, 0, 0, 0] }
    let s := (sampled.modIntake fun i => { i with streams := modAt i.streams 0 fun _ => stream })
    let u := processOne 65535 s
    totalLoss s = true ∧ (phaseRec u (.cur 0) .a).hist.head? = some 90 ∧
      (phaseRec u (.cur 0) .a).level = (phaseRec s (.cur 0) .a).level := by decide

/-- R56, R82: a SITE row written with f_nom unset leaves the values in updates of the edit set unset. -/
theorem test_unset_f_nom_unsets_updates :
    let x := editRow .site 0 (.site { tables.site with fNom := none }) tables
    (x.breakers.all fun r => r.bfUpdates.isNone) = true ∧ (tables.breakers.any fun r => r.bfUpdates.isSome) = true := by decide

end Sys2Proof.Tests
end

section
/-!
Every step keeps the safe states (O5). `Keeps s t` says that `t` is safe where `s` is. It is reflexive and transitive and
holds of every internal act (`Internal`), so that only the acts that reach outside the blocks' own dealings are gone through
here, in the order of the model's files.
-/

namespace Sys2Proof.Machine

/-- `t` is safe where `s` is. -/
def Keeps (s t : State) : Prop := s.Safe → t.Safe

theorem Internal.keeps {s t : State} (h : Internal s t) : Keeps s t := fun hs => hs.internal h

theorem Keeps.refl (s : State) : Keeps s s := id

theorem Keeps.trans {s t u : State} (h : Keeps s t) (k : Keeps t u) : Keeps s u := fun hs => k (h hs)

theorem Keeps.ite {s t u : State} {c : Prop} [Decidable c] (ht : Keeps s t) (hu : Keeps s u) :
    Keeps s (if c then t else u) := by
  split
  · exact ht
  · exact hu

/-- A step that is taken or not. -/
theorem Keeps.when {s t : State} {c : Prop} [Decidable c] (ht : Keeps s t) : Keeps s (if c then t else s) :=
  .ite ht (.refl s)

theorem Keeps.foldl {α : Type} {f : State → α → State} (hf : ∀ s x, Keeps s (f s x)) (l : List α) (s : State) :
    Keeps s (l.foldl f s) := by
  induction l generalizing s with
  | nil => exact .refl s
  | cons x xs ih => exact (hf s x).trans (ih _)

/-! ## The primitive updates -/

theorem Keeps.modLink (s : State) (f : Link → Link) (h1 : portOk s.link.p1 → portOk (f s.link).p1)
    (h2 : portOk s.link.p2 → portOk (f s.link).p2) (hd : s.link.dup.length ≤ 8 → (f s.link).dup.length ≤ 8) :
    Keeps s (s.modLink f) :=
  fun h => { h with port1 := h1 h.port1, port2 := h2 h.port2, dup := hd h.dup }

/-- An update of the Intake Unit that keeps the number of streams. -/
theorem Keeps.modIntake (s : State) (f : Intake → Intake)
    (hf : s.intake.streams.length = 48 → (f s.intake).streams.length = 48 := by simp) : Keeps s (s.modIntake f) :=
  fun h => { h with streams := hf h.streams }

theorem Keeps.modMeas (s : State) (f : Meas → Meas) : Keeps s (s.modMeas f) := fun h => { h with }

/-- An update of the Protection Unit that keeps the number of runtime slots. -/
theorem Keeps.modProt (s : State) (f : Prot → Prot)
    (hf : s.prot.slots.length = 64 → (f s.prot).slots.length = 64 := by simp) : Keeps s (s.modProt f) :=
  fun h => { h with elements := hf h.elements }

theorem Keeps.modRt (s : State) (i : Nat) (f : RtSlot → RtSlot) : Keeps s (s.modRt i f) := .modProt s _

/-- An update of the Arbiter that keeps the number of slots and energizes no line. -/
theorem Keeps.modArb (s : State) (f : Arb → Arb) (hl : (f s.arb).slots.length = s.arb.slots.length := by simp)
    (ho : ∀ x ∈ (f s.arb).slots, x.lineOn = none ∨ ∃ y ∈ s.arb.slots, x.lineOn = y.lineOn) : Keeps s (s.modArb f) :=
  fun h =>
    { h with
      slots := hl.trans h.slots
      lines := fun hm x hx => (ho x hx).elim id fun ⟨y, hy, e⟩ => e.trans (h.lines hm y hy) }

theorem Keeps.setBusLock (s : State) (b : Bus) (l : Lockout) : Keeps s (s.setBusLock b l) := by
  have slots : ∀ f : Arb → Arb, (f s.arb).slots = s.arb.slots → Keeps s (s.modArb f) := fun f e =>
    .modArb s f (congrArg List.length e) fun x hx => .inr ⟨x, e ▸ hx, rfl⟩
  cases b
  · exact slots (fun a => { a with bus1 := l }) rfl
  · exact slots (fun a => { a with bus2 := l }) rfl
  · exact slots (fun a => { a with gbus := l }) rfl

theorem Keeps.modSeqs (s : State) (f : Seqs → Seqs) : Keeps s (s.modSeqs f) := fun h => { h with }

/-- An update of the Paralleling Unit that keeps the number of generators and of channels, and their biases in range. -/
theorem Keeps.modPar (s : State) (f : Par → Par) (hb : (∀ g ∈ s.par.gens, biasOk g) → ∀ g ∈ (f s.par).gens, biasOk g)
    (hg : s.par.gens.length = 8 → (f s.par).gens.length = 8 := by simp)
    (hc : s.par.channels.length = 4 → (f s.par).channels.length = 4 := by simp) : Keeps s (s.modPar f) :=
  fun h => { h with biases := hb h.biases, gens := hg h.gens, channels := hc h.channels }

/-- An update of the records that keeps the queue and the BF views within their sizes. -/
theorem Keeps.modRecords (s : State) (f : Rec → Rec)
    (hq : (f s.records).queue.length ≤ s.records.queue.length := by simp)
    (hv : s.records.bfView.length = 25 → (f s.records).bfView.length = 25 := by simp) : Keeps s (s.modRecords f) :=
  fun h => { h with records := Nat.le_trans hq h.records, views := hv h.views }

/-- An update of the Management Unit that keeps the mode and does not lengthen the request queue. -/
theorem Keeps.modMgmt (s : State) (f : Mgmt → Mgmt) (hm : (f s.mgmt).mode = s.mgmt.mode := by rfl)
    (hr : (f s.mgmt).requests.length ≤ s.mgmt.requests.length := by simp) : Keeps s (s.modMgmt f) :=
  fun h => { h with requests := Nat.le_trans hr h.requests, lines := fun hl => h.lines (hm ▸ hl) }

theorem Keeps.modNv (s : State) (f : NonVol → NonVol) : Keeps s (s.modNv f) := fun h => { h with }

/-! ## The Link Unit -/

theorem portOk_empty (up : Bool) : portOk { up := up } := by simp [portOk]

/-- An update of one port that keeps its queues within their capacities. -/
theorem Keeps.modPort (s : State) (p : Port) (f : PortState → PortState) (hf : ∀ x, portOk x → portOk (f x)) :
    Keeps s (s.modLink fun l => Machine.modPort l p f) := by
  cases p
  · exact .modLink s _ (hf _) id id
  · exact .modLink s _ id (hf _) id

theorem Keeps.setStation (n : Nat) (s : State) : Keeps s (setStation n s) := by
  unfold Machine.setStation
  cases hs : s.link.station with
  | none => exact .modLink s _ (by simp [hs]) (by simp [hs]) (by simp [hs])
  | some old =>
    by_cases e : old = n
    · exact .modLink s _ (by simp [hs, e]) (by simp [hs, e]) (by simp [hs, e])
    · exact .modLink s _ (by simp [hs, e]) (by simp [hs, e]) (by simp [hs, e])

theorem purgeDup_length (now : Nat) (l : List DupEntry) : (purgeDup now l).length ≤ l.length := List.length_filter_le _ _

/-- R7: the filter holds at most 8 entries. -/
theorem Keeps.addDup (src tag : Nat) (s : State) : Keeps s (addDup src tag s) := by
  refine .modLink s _ id id fun h => ?_
  have hk := purgeDup_length s.now s.link.dup
  dsimp only
  split
  · simp only [List.length_append, List.length_singleton]; omega
  · simp only [List.length_append, List.length_drop, List.length_singleton]; omega

theorem Internal.forwardVendor (p : Port) (f : EthFrame) (h : Header) (s : State) : Internal s (forwardVendor p f h s) := by
  unfold Machine.forwardVendor
  split
  · exact .enqueue _ _ _ _
  · exact .refl s

theorem Keeps.execForwardedFrame (p : Port) (f : EthFrame) (s : State) :
    ∃ t, execForwardedFrame p f s = .next t ∧ Keeps s t := by
  refine ⟨_, rfl, ?_⟩
  split
  · exact .when (Internal.forwardVendor _ _ _ _).keeps
  · exact .refl s

theorem Keeps.execRetiredNumberExpiry (s : State) : ∃ t, execRetiredNumberExpiry s = .next t ∧ Keeps s t := by
  refine ⟨_, rfl, ?_⟩
  split
  · exact .when (.modLink s _ id id id)
  · exact .refl s

/-! ## Notices, records and the clock -/

theorem Keeps.sendNotice (s : State) : Keeps s (sendNotice s) := by
  unfold Machine.sendNotice
  split
  · exact (Keeps.modRecords s _).trans (Internal.originate _ _ _).keeps
  · exact .refl s

theorem Keeps.closeRecords (oc : EntryOutcome) (s : State) : Keeps s (closeRecords oc s) := by
  unfold Machine.closeRecords
  dsimp only
  split
  · exact (Keeps.modRecords s _).trans (Internal.recordEvent _ _ _).keeps
  · exact .modRecords s _

theorem Keeps.discardRecord (n : Nat) (s : State) : Keeps s (discardRecord n s) :=
  (Keeps.modRecords s _ (List.length_eraseP_le)).trans (Internal.recordEvent _ _ _).keeps

theorem Keeps.clearRecords (s : State) : Keeps s (clearRecords s) := by
  unfold Machine.clearRecords
  split
  · exact (Keeps.modRecords s _ (List.length_filter_le _ _)).trans (Internal.recordEvent _ _ _).keeps
  · exact .refl s

/-- A tick changes the clock, the waiting commands and the counter of free values only. -/
theorem tick_eq (s : State) : tick s = { s with now := s.now + 1, pending := (tick s).pending, free := (tick s).free } := by
  unfold tick
  dsimp only
  split <;> rfl

theorem Keeps.tick (s : State) : Keeps s (tick s) := by
  rw [tick_eq]
  exact fun h => { h with }

/-! ## The Order Arbiter: the lockouts and their store -/

theorem Keeps.writeLockouts (s : State) : Keeps s (writeLockouts s) := .modNv s _

theorem Keeps.lockoutChanged (s : State) : Keeps s (lockoutChanged s) :=
  (Keeps.writeLockouts s).trans (Internal.note _ _).keeps

theorem Keeps.applyLockouts (x : LockoutSet) (s : State) : Keeps s (applyLockouts x s) := by
  refine .modArb s _ (by simp) fun y hy => ?_
  obtain ⟨i, hi, rfl⟩ := List.mem_mapIdx.1 hy
  exact .inr ⟨_, List.getElem_mem hi, rfl⟩

theorem Keeps.readStore (s : State) : Keeps s (readStore s) := by
  unfold Machine.readStore
  split
  · exact (Keeps.modNv s _).trans (.applyLockouts _ _)
  · exact (Keeps.modNv s _).trans (.applyLockouts _ _)

theorem Keeps.restoreNow (s : State) : Keeps s (restoreNow s) :=
  .ite (.readStore s) ((Keeps.readStore s).trans (Internal.note _ _).keeps)

theorem Keeps.restoreLockouts (s : State) : Keeps s (restoreLockouts s) := .ite (.modNv s _) (.restoreNow s)

theorem Keeps.endStoreWrite (s : State) : Keeps s (endStoreWrite s) := by
  unfold Machine.endStoreWrite
  split
  · exact .refl s
  · refine (Keeps.modNv s _).trans (.ite (.modNv _ _) ?_)
    exact (Keeps.modNv _ _).trans (.when (.restoreNow _))

theorem Keeps.setSlotLockout (n : Nat) (x : Setter) (s : State) : Keeps s (setSlotLockout n x s) := by
  refine Keeps.trans (t := if addSetter x (s.slot n).lock = (s.slot n).lock then s else _) (.ite (.refl s) ?_)
    (Internal.endClose _ _ _).keeps
  exact (Internal.modSlot s n _).keeps.trans (.lockoutChanged _)

theorem Keeps.setBusLockout (b : Bus) (x : Setter) (s : State) : Keeps s (setBusLockout b x s) := by
  unfold Machine.setBusLockout
  dsimp only
  refine Keeps.trans (t := if addSetter x (s.busLock b) = s.busLock b then s else _) (.ite (.refl s) ?_)
    (.trans (.foldl (fun u n => ?_) _ _) (.ite (.refl _) (Internal.post _ _).keeps))
  · exact (Keeps.setBusLock _ _ _).trans (.lockoutChanged _)
  · exact .when (Internal.endClose _ _ _).keeps

theorem Keeps.operateBf (n : Nat) (s : State) : Keeps s (operateBf n s) := by
  unfold Machine.operateBf
  dsimp only
  have opened := ((Internal.modSlot s n fun a => { a with bf := .operated }).trans (.reportBf n .operated _)).keeps
  have locked := opened.trans (.setSlotLockout n (.bf n) _)
  refine ((locked.trans (.foldl (fun u b => .setBusLockout b (.bf n) u) _ _)).trans (.foldl (fun u m => ?_) _ _)).trans
    (Internal.takeTrigger _ _).keeps
  exact (Internal.raiseOpen _ _ _ _).keeps

theorem Keeps.testBf (n : Nat) (s : State) : Keeps s (testBf n s) := by
  refine .ite (.when ?_) ((Internal.modSlot s n _).trans (.reportBf _ _ _)).keeps
  exact (Internal.modSlot s n fun a => { a with bfTimer := a.bfTimer + 1 }).keeps.trans (.when (.operateBf n _))

theorem Keeps.testAllBf (s : State) : Keeps s (testAllBf s) := .foldl (fun u n => .testBf n u) _ _

theorem Keeps.commitArb (s : State) : Keeps s (commitArb s) := by
  have slots : Keeps s (s.modArb fun a => { a with slots := a.slots.map commitSlot }) := by
    refine .modArb s _ (by simp) fun x hx => .inl ?_
    obtain ⟨y, _, rfl⟩ := List.mem_map.1 hx
    rfl
  exact ((slots.trans (.when (Internal.note _ _).keeps)).trans (.when (Internal.note _ _).keeps)).trans (.restoreLockouts _)

theorem Keeps.moveIfDue (n : Nat) (s : State) : Keeps s (moveIfDue n s) := by
  unfold Machine.moveIfDue
  split
  · exact ((Internal.takeMove _ _ _).trans (.finish _)).keeps
  · exact .refl s

/-! ## The Intake and Measurement Units -/

theorem Keeps.modStream (r : Nat) (f : StreamRec → StreamRec) (s : State) : Keeps s (modStream r f s) := .modIntake s _

theorem Keeps.setStreamState (r : Nat) (st : StreamState) (s : State) : Keeps s (setStreamState r st s) :=
  (Keeps.modStream _ _ _).trans (Internal.note _ _).keeps

theorem Keeps.setIndex (r k : Nat) (s : State) : Keeps s (setIndex r k s) :=
  ((Keeps.modStream _ _ _).trans (.modIntake _ _)).trans (Internal.note _ _).keeps

theorem Keeps.arrive (r : Nat) (x : SampleSet) (s : State) : Keeps s (arrive r x s) := by
  unfold Machine.arrive
  have woken : Keeps s (if (s.stream r).state = .idle then
      note .stream (Machine.modStream r (fun y => { y with state := .acquiring }) s) else s) :=
    .when ((Keeps.modStream _ _ _).trans (Internal.note _ _).keeps)
  dsimp only
  generalize (if (s.stream r).state = .idle then
    note .stream (Machine.modStream r (fun y => { y with state := .acquiring }) s) else s) = u at woken
  refine woken.trans ?_
  split
  · exact .modStream _ _ _
  · refine (Keeps.modStream r (storeEarly x) u).trans ?_
    split
    · exact .when (.setIndex _ _ _)
    · exact .refl _

theorem Keeps.processOne (k : Nat) (s : State) : Keeps s (processOne k s) := by
  unfold Machine.processOne
  dsimp only
  have noted : Keeps s (if ((s.intake.streams.zip (s.intake.streams.map (stepStream k))).any fun x =>
      decide (x.1.state ≠ x.2.stream.state)) = true then note .stream s else s) := .when (Internal.note _ _).keeps
  exact fun h => { noted h with streams := by simpa using h.streams }

theorem Keeps.refreshQuality (s : State) : Keeps s (refreshQuality s) := by
  unfold Machine.refreshQuality
  exact .modIntake s _

theorem Keeps.modPhaseRec (pt : PointId) (ph : Phase) (f : PhaseRec → PhaseRec) (s : State) :
    Keeps s (modPhaseRec pt ph f s) := by
  unfold Machine.modPhaseRec
  split
  · exact .modIntake s _ fun h => h
  · exact .modIntake s _ fun h => h

theorem Keeps.modCur (n : Nat) (f : CurMeas → CurMeas) (s : State) : Keeps s (modCur n f s) := .modMeas s _

theorem Keeps.modVolt (v : Nat) (f : VoltMeas → VoltMeas) (s : State) : Keeps s (modVolt v f s) := .modMeas s _

theorem Keeps.handPairs (s : State) : Keeps s (handPairs s) := by
  unfold Machine.handPairs
  exact .modPar s _ id

theorem Keeps.measure (s : State) : Keeps s (measure s) := by
  unfold Machine.measure
  exact (Keeps.modMeas s _).trans (.handPairs _)

/-! ## The Protection Unit -/

theorem Keeps.latchTarget (g : Group) (i : Nat) (s : State) : Keeps s (latchTarget g i s) := by
  refine Keeps.trans (.modProt s _ ?_) (Internal.note _ _).keeps
  cases g <;> exact id

theorem Keeps.handLockout (g : Group) (i : Nat) (row : ElementRow) (s : State) : Keeps s (handLockout g i row s) := by
  unfold Machine.handLockout
  split
  · exact .refl s
  · exact .foldl (fun u n => .setSlotLockout _ _ _) _ _
  · exact .setBusLockout _ _ _

theorem Keeps.operateElement (g : Group) (i : Nat) (row : ElementRow) (s : State) :
    Keeps s (operateElement g i row s) := by
  unfold Machine.operateElement
  dsimp only
  refine ((((Keeps.modRt s _ _).trans (.handLockout _ _ _ _)).trans (.foldl (fun u n => ?_) _ _)).trans
    (.latchTarget _ _ _)).trans (Internal.takeTrigger _ _).keeps
  exact (Internal.raiseOpen _ _ _ _).keeps

theorem Keeps.evalRow (i : Nat) (s : State) : Keeps s (evalRow i s) :=
  .ite (.modRt s _ _) (.ite ((Keeps.modRt s _ _).trans (.operateElement _ _ _ _))
    (.ite ((Keeps.modRt s _ _).trans (Internal.finalPeaks _ _ _ _ _).keeps) (.modRt s _ _)))

theorem Keeps.publishOutputs (s : State) : Keeps s (publishOutputs s) := by
  unfold Machine.publishOutputs
  exact .modProt s _ id

theorem Internal.handCleared (g : Group) (c : Nat → Bool) (s : State) : Internal s (handCleared g c s) :=
  .foldl (fun u _ => .ite (.finalPeaks _ _ _ _ _) (.refl u)) _ _

theorem Keeps.switchGroup (s : State) : Keeps s (switchGroup s) := by
  unfold Machine.switchGroup
  split
  · exact .refl s
  · exact ((Internal.handCleared _ _ s).keeps.trans (.modProt _ _)).trans (Internal.note _ _).keeps

theorem Keeps.evaluateAll (s : State) : Keeps s (evaluateAll s) :=
  ((Keeps.switchGroup s).trans (.foldl (fun _ i => .evalRow i _) _ _)).trans (.publishOutputs _)

theorem Keeps.clearTargets (s : State) : Keeps s (clearTargets s) :=
  .ite (.refl s) ((Keeps.modProt s _).trans (Internal.note _ _).keeps)

theorem Keeps.protConfig (s : State) : Keeps s (protConfig s) := by
  unfold Machine.protConfig
  dsimp only
  refine ((Internal.handCleared _ _ s).keeps.trans (.modProt _ _ ?_)).trans (.when (Internal.note _ _).keeps)
  simp [clearSlots]

theorem Keeps.commitProt (g : Group) (s : State) : Keeps s (commitProt g s) := by
  have cleared : Keeps s (protCommit g s) := by
    refine .modProt s _ ?_
    simp [clearSlots]
  exact .ite cleared (cleared.trans (Internal.note _ _).keeps)

theorem Keeps.enterOperated (i : Nat) (s : State) : Keeps s (enterOperated i s) :=
  ((Keeps.modRt s _ _).trans (.operateElement _ _ _ _)).trans (.publishOutputs _)

/-! ## The processing of an index -/

theorem Keeps.finish {s t : State} (h : Keeps s t) : Keeps s (finish t) := h.trans (Internal.finish t).keeps

theorem Internal.updateSeqs (s : State) : Internal s (updateSeqs s) :=
  (((Internal.updateState _ s).trans (.finish _)).trans (.updateState _ _)).trans (.finish _)

theorem Internal.updateClosing (s : State) : Internal s (updateClosing s) :=
  ((((Internal.stopGenerators s).trans (.releaseOnLive _)).trans (.grantDead _)).trans (.closeLive _)).trans (.finish _)

theorem Internal.updateChannels (s : State) : Internal s (updateChannels s) :=
  have one : ∀ i u, Internal u (Machine.finish (Machine.testChannel i u)) := fun i u =>
    (Internal.testChannel i u).trans (.finish _)
  (((one 0 s).trans (one 1 _)).trans (one 2 _)).trans (one 3 _)

theorem Internal.updateSharing (s : State) : Internal s (updateSharing s) := .ite (.sharingUpdate s) (.refl s)

theorem Keeps.inServiceOnly {f : State → State} (hf : ∀ s, Keeps s (f s)) (s : State) : Keeps s (inServiceOnly f s) :=
  .when (hf s)

theorem Keeps.measurementUpdate (s : State) : Keeps s (measurementUpdate s) := by
  unfold Machine.measurementUpdate
  have formed := ((Keeps.refreshQuality s).trans (.measure _)).trans (Keeps.finish (.testAllBf _))
  have protected_ := formed.trans (.inServiceOnly (fun u => .finish (.evaluateAll u)) _)
  have loads := protected_.trans (((Internal.formCapacity _).trans (.takeLoad .seq1 _)).trans (.takeLoad .seq2 _)).keeps
  have sequenced := loads.trans (.inServiceOnly (fun u => (Internal.updateSeqs u).keeps) _)
  exact sequenced.trans (((Internal.updateClosing _).trans (.updateChannels _)).trans (.updateSharing _)).keeps

theorem Keeps.processIndex (s : State) : Keeps s (processIndex s) := by
  unfold Machine.processIndex
  split
  · exact .refl s
  · exact (Keeps.processOne _ s).trans (.when (.measurementUpdate _))

theorem Keeps.processWhile (n : Nat) (s : State) : Keeps s (processWhile n s) := by
  induction n generalizing s with
  | zero => exact .refl s
  | succ n ih => exact .when ((Keeps.processIndex s).trans (ih _))

theorem Keeps.processAll (s : State) : Keeps s (processAll s) := .processWhile 64 s

theorem Keeps.execSyncFire (i : Nat) (s : State) : ∃ t, execSyncFire i s = .next t ∧ Keeps s t := by
  refine ⟨_, rfl, ?_⟩
  split
  · exact .when ((Internal.fireChannel _ _ _).trans (.finish _)).keeps
  · exact .refl s

/-! ## The Management Unit -/

theorem Internal.answer (src tag kind : Nat) (st : Status) (p : AnswerPayload) (s : State) :
    Internal s (answer src tag kind st p s) := .originate _ _ _

theorem Internal.answerDone (r : Request) (s : State) : Internal s (answerDone r s) := .answer _ _ _ _ _ _

theorem Internal.refuse (r : Request) (why : Reason) (s : State) : Internal s (refuse r why s) := .answer _ _ _ _ _ _

theorem Internal.answerReply (r : Request) (x : Reply) (s : State) : Internal s (answerReply r x s) := by
  cases x
  · exact .refuse _ _ _
  · exact .answerDone _ _
  · exact .answerDone _ _

/-- The request queue takes a shorter one. -/
theorem Keeps.setRequests (l : List Request) (s : State) (hl : l.length ≤ 4) : Keeps s (setRequests l s) :=
  fun h => { h with requests := hl }

theorem Keeps.settleHeads (n : Nat) (s : State) : Keeps s (settleHeads n s) := by
  induction n generalizing s with
  | zero => exact .refl s
  | succ n ih =>
    unfold Machine.settleHeads
    split
    · exact .refl s
    · rename_i r rest e
      have taken : Keeps s (Machine.setRequests rest s) := .modMgmt s _ rfl (by simp [e])
      refine .ite (.refl s) ?_
      split
      · exact taken.trans (ih _)
      · exact .ite (.refl s) ((taken.trans (Internal.refuse _ _ _).keeps).trans (ih _))

theorem Keeps.settleQueue (s : State) : Keeps s (settleQueue s) := .settleHeads 5 s

theorem Keeps.testRequest (k : Kind) {act : Request → State → State} (ha : ∀ r s, Keeps s (act r s)) (r : Request)
    (s : State) : Keeps s (testRequest k act r s) := by
  unfold Machine.testRequest
  split
  · exact .refl s
  · exact .ite (Internal.refuse _ _ _).keeps (.ite (Internal.refuse _ _ _).keeps (.ite (Internal.refuse _ _ _).keeps
      (.ite (Internal.refuse _ _ _).keeps (ha r s))))

/-- R174: taking a request of a kind keeps what its act keeps. -/
theorem Keeps.takeKind (k : Kind) {act : Request → State → State} (ha : ∀ r s, Keeps s (act r s)) (s : State) :
    Keeps s (takeKind k act s) := by
  unfold Machine.takeKind
  split
  · exact .refl s
  · rename_i r rest e
    have taken : Keeps s (Machine.setRequests rest s) := .modMgmt s _ rfl (by simp [e])
    exact .when ((taken.trans (.testRequest k ha r _)).trans (.settleQueue _))

theorem Keeps.readRequest (k : Kind) (view : State → Args → AnswerPayload) (s : State) :
    Keeps s (readRequest k view s) := .takeKind k (fun _ _ => (Internal.answer _ _ _ _ _ _).keeps) s

theorem Keeps.beginWrite (l : List HeldAnswer) (s : State) : Keeps s (beginWrite l s) := .modMgmt s _

theorem Keeps.requestWrite (a : HeldAnswer) (s : State) : Keeps s (requestWrite a s) := by
  unfold Machine.requestWrite
  split
  · exact .beginWrite _ _
  · exact .modMgmt s _

theorem Keeps.endWrite (ok : Bool) (s : State) : Keeps s (endWrite ok s) := by
  unfold Machine.endWrite
  split
  · exact .refl s
  · refine (((Keeps.modNv s _).trans (.modMgmt _ _)).trans (.foldl (fun u a => ?_) _ _)).trans (.when (.beginWrite _ _))
    exact (Internal.answer _ _ _ _ _ _).keeps

/-! ## Frames copied inward -/

theorem Keeps.handSample (f : EthFrame) (h : Header) (s : State) : Keeps s (handSample f h s) := by
  unfold Machine.handSample
  split
  · exact .refl s
  · split
    · exact .refl s
    · exact .when ((Keeps.arrive _ _ _).trans (.processAll _))

theorem Keeps.handPosition (f : EthFrame) (h : Header) (s : State) : Keeps s (handPosition f h s) := by
  unfold Machine.handPosition
  split
  · exact .when ((Internal.takePosition _ _).trans (.finish _)).keeps
  · exact .refl s

theorem Keeps.handGenstat (f : EthFrame) (h : Header) (s : State) : Keeps s (handGenstat f h s) := by
  unfold Machine.handGenstat
  split
  · exact .when ((Internal.takeGenstat _ _).trans (.finish _)).keeps
  · exact .refl s

/-- R173: the queue holds at most four requests. -/
theorem Keeps.joinRequests (r : Request) (s : State) : Keeps s (joinRequests r s) := by
  unfold Machine.joinRequests
  split
  · rename_i c
    refine (Keeps.setRequests _ s ?_).trans (.settleQueue _)
    simp only [List.length_append, List.length_singleton]
    omega
  · exact .refl s

theorem Keeps.handManage (f : EthFrame) (h : Header) (s : State) : Keeps s (handManage f h s) := by
  unfold Machine.handManage
  split
  · exact .refl s
  · exact .when (.ite (.refl s) ((Keeps.addDup _ _ _).trans (.joinRequests _ _)))

theorem Keeps.takeFrame (k : FrameKind) (p : Port) (f : EthFrame) {hand : Header → State → State}
    (hh : ∀ h s, Keeps s (hand h s)) (s : State) : Keeps s (takeFrame k p f hand s) := by
  unfold Machine.takeFrame
  split
  · have sent := (Internal.forwardVendor p f ‹_› s).keeps
    exact .when (.ite (sent.trans (hh _ _)) sent)
  · exact .refl s

/-! ## Tables, groups and part states -/

theorem Keeps.actWriteRow (r : Request) (s : State) : Keeps s (actWriteRow r s) := by
  unfold Machine.actWriteRow
  split
  · split
    · refine .ite (.ite ((Keeps.modMgmt s _).trans (Internal.answer _ _ _ _ _ _).keeps) (Internal.refuse _ _ _).keeps) ?_
      unfold writeService
      split
      · exact (Internal.refuse _ _ _).keeps
      · exact .ite (Internal.refuse _ _ _).keeps
          (.ite ((Keeps.modMgmt s _).trans (.requestWrite _ _)) (Internal.refuse _ _ _).keeps)
    · exact .refl s
  · exact .refl s

theorem Keeps.setPart (p : PartState) (s : State) : Keeps s (setPart p s) :=
  (Keeps.modMgmt s _).trans (Internal.note _ _).keeps

theorem Internal.parkBoth (s : State) : Internal s (parkBoth s) := (Internal.configPark _ s).trans (.configPark _ _)

theorem Keeps.enterConfig (s : State) : Keeps s (enterConfig s) := by
  unfold Machine.enterConfig
  split
  · have config := ((Keeps.modMgmt s fun m => { m with edit := some s.tbl }).trans (.setPart (.config true) _)).trans
      (.protConfig _)
    exact config.trans
      ((((Internal.parkBoth _).trans (.withdrawAllCloses _)).trans (.releaseGrant _)).trans
        ((Internal.endUnload _).trans (.finish _))).keeps
  · exact ((Keeps.modMgmt s _).trans (.setPart _ _)).trans ((Internal.parkBoth _).trans (.finish _)).keeps
  · exact .refl s
  · exact .refl s

/-- R160: the biases of a reset. -/
theorem reset_biases : ∀ g ∈ ({} : Par).gens, biasOk g := fun g h => by
  rw [List.eq_of_mem_replicate h]
  exact ⟨by decide, by decide⟩

theorem Keeps.resetIntake (s : State) : Keeps s (resetIntake s) := by
  have cleared : Keeps s ((s.modMeas fun m => { thr := m.thr }).modIntake fun _ => {}) :=
    (Keeps.modMeas s _).trans (.modIntake _ _ fun _ => List.length_replicate)
  exact .ite (cleared.trans (Internal.note _ _).keeps) cleared

theorem Keeps.refreshThresholds (s : State) : Keeps s (refreshThresholds s) := .modMeas s _

theorem Keeps.commitPar (s : State) : Keeps s (commitPar s) := by
  have reset : Keeps s (s.modPar fun _ => parAtCommit s) := by
    refine .modPar s _ (fun _ => reset_biases) (fun _ => ?_) fun _ => ?_
    · exact List.length_replicate
    · exact List.length_replicate
  exact .ite reset (reset.trans (Internal.note _ _).keeps)

theorem Keeps.seqsAtService (x : Option Nat) (s : State) : Keeps s (seqsAtService x s) := .modSeqs s _

theorem Keeps.commitRecords (s : State) : Keeps s (commitRecords s) := by
  unfold Machine.commitRecords keepEnabledNotices
  exact (Keeps.closeRecords _ s).trans (.modRecords _ _)

theorem Keeps.enterService (s : State) : Keeps s (enterService s) := (Keeps.modMgmt s _).trans (.setPart _ _)

/-- R187: in LIVE any line may be energized. -/
theorem Keeps.goLive (s : State) (f : Mgmt → Mgmt) (hm : (f s.mgmt).mode = .live)
    (hr : (f s.mgmt).requests.length ≤ s.mgmt.requests.length) : Keeps s (s.modMgmt f) :=
  fun h => { h with requests := Nat.le_trans hr h.requests, lines := fun hl => absurd hm hl }

theorem Keeps.bringIntoForce (im : Image) (clear : Bool) (s : State) : Keeps s (bringIntoForce im clear s) := by
  unfold Machine.bringIntoForce
  dsimp only
  have imaged : Keeps s (s.modMgmt fun m =>
      { m with image := some im, edit := none, mode := .live, emu := List.replicate 25 none }) :=
    .goLive s _ rfl (Nat.le_refl _)
  have cleared : ∀ u, Keeps u (if clear = true then Machine.resetIntake u else u) := fun u => .when (.resetIntake u)
  refine .finish (.trans (.trans (.trans (.trans (.trans (.trans (.trans ?_ (.refreshThresholds _)) (.commitProt _ _))
    (.commitArb _)) (.seqsAtService _ _)) (.commitPar _)) (.commitRecords _)) (.enterService _))
  exact (imaged.trans (.setStation _ _)).trans (cleared _)

theorem Keeps.actCommit (r : Request) (s : State) : Keeps s (actCommit r s) := by
  unfold Machine.actCommit
  split
  · exact (Internal.answer _ _ _ _ _ _).keeps
  · exact (Keeps.bringIntoForce _ _ s).trans (.requestWrite _ _)

theorem Keeps.discardRead (src tag : Nat) (s : State) : Keeps s (discardRead src tag s) :=
  ((Keeps.modMgmt s _).trans (.bringIntoForce _ _ _)).trans (Internal.answer _ _ _ _ _ _).keeps

theorem Keeps.actDiscard (r : Request) (s : State) : Keeps s (actDiscard r s) := .ite (.modMgmt s _) (.discardRead _ _ s)

theorem Keeps.actSelectGroup (r : Request) (s : State) : Keeps s (actSelectGroup r s) := by
  have chosen : ∀ x a, Keeps s (Machine.requestWrite a (setPending x s)) := fun _ a => (Keeps.modProt s _ id).trans (.requestWrite a _)
  unfold Machine.actSelectGroup
  split
  · refine .ite (.ite (chosen _ _) (Internal.answerDone _ _).keeps) (.ite ?_ (chosen _ _))
    unfold joinSelection
    dsimp only
    split
    · exact (Internal.answerDone _ _).keeps
    · exact .ite (.modMgmt s _) (.ite (.modMgmt s _) (Internal.answerDone _ _).keeps)
  · exact .refl s

/-! ## Modes: a line that is energized when LIVE is left goes out before the command ends -/

/-- `s` in mode LIVE, in which R188 and R189 ask nothing of the lines. -/
def asLive (s : State) : State := s.modMgmt fun m => { m with mode := .live }

theorem State.Safe.asLive {s : State} (h : s.Safe) : (asLive s).Safe := { h with lines := fun hl => absurd rfl hl }

/-- A state that is safe but for its lines stays so through internal acts. -/
theorem Internal.asLive {s t : State} (k : Internal s t) (h : (asLive s).Safe) : (asLive t).Safe where
  port1 := k.port1 h.port1
  port2 := k.port2 h.port2
  dup := k.outside.dup ▸ h.dup
  requests := by
    have e : t.mgmt.requests = s.mgmt.requests := by rw [k.outside.mgmt]
    exact e ▸ h.requests
  records := k.records h.records
  biases := k.biases h.biases
  lines := fun hl => absurd rfl hl
  slots := k.slots.trans h.slots
  gens := k.gens.trans h.gens
  channels := k.channels.trans h.channels
  views := k.views.trans h.views
  streams := k.outside.intake ▸ h.streams
  elements := k.outside.prot ▸ h.elements

theorem safe_of_asLive {s : State} (h : (asLive s).Safe) (hl : linesOk s.mgmt.mode s.arb) : s.Safe := { h with lines := hl }

/-- R188, R189: with every line out, a state is safe in any mode. -/
theorem dropLines_safe {s : State} (h : (asLive s).Safe) : (dropLines s).Safe := by
  refine { h with slots := (List.length_map _).trans h.slots, lines := fun _ x hx => ?_ }
  obtain ⟨y, _, rfl⟩ := List.mem_map.1 hx
  rfl

theorem Internal.leaveLoop (s : State) : Internal s (leaveLoop s) := by
  unfold Machine.leaveLoop
  have positions : ∀ u n, Internal u (publishReal s u n) := by
    intro u n
    unfold publishReal
    split
    · exact .ite ((Internal.note _ _).trans (.post _ _)) (.refl u)
    · exact .refl u
  exact ((((((Internal.modEmuList s fun _ => List.replicate 25 none).trans (.foldl positions _ _)).trans (.finish _)).trans
    (.deriveUnparked .seq1 _)).trans (.finish _)).trans (.deriveUnparked .seq2 _)).trans (.finish _)

theorem Keeps.changeMode (m : Mode) (s : State) : Keeps s (changeMode m s) := by
  intro h
  unfold Machine.changeMode
  dsimp only
  have left : Internal (s.modMgmt fun x => { x with mode := m })
      (if s.mgmt.mode = .loop then Machine.leaveLoop (setModeField m s) else setModeField m s) :=
    (Internal.note _ _).trans (.ite (.leaveLoop _) (.refl _))
  have safe := left.asLive h.asLive
  have mode := left.outside.mode
  generalize (if s.mgmt.mode = .loop then Machine.leaveLoop (setModeField m s) else setModeField m s) = u at safe mode
  cases m with
  | live => exact safe_of_asLive safe fun hl => absurd mode hl
  | blocked =>
    exact (dropLines_safe (((Internal.enterParked _ u).trans (.enterParked _ _)).asLive safe)).internal (.finish _)
  | loop => exact dropLines_safe ((Internal.modEmuList u fun _ => _).asLive safe)

theorem Keeps.actSetMode (r : Request) (s : State) : Keeps s (actSetMode r s) := by
  unfold Machine.actSetMode
  split
  · exact .ite (Internal.answerDone _ _).keeps
      (.ite (Internal.refuse _ _ _).keeps ((Keeps.changeMode _ s).trans (Internal.answerDone _ _).keeps))
  · exact .refl s

/-! ## Restart, LOADING and supply -/

theorem dropOwn_ok {p : PortState} (h : portOk p) : portOk (dropOwn p) :=
  ⟨Nat.le_trans (List.length_filter_le _ _) h.1, Nat.le_trans (List.length_filter_le _ _) h.2.1,
    Nat.le_trans (List.length_filter_le _ _) h.2.2⟩

/-- The state of reset is safe whatever its clock, memories and waiting commands. -/
theorem fresh_safe (now free : Nat) (supply : Bool) (nv : NonVol) (pending : List Instr) :
    ({ now := now, free := free, supply := supply, nv := nv, pending := pending } : State).Safe where
  port1 := portOk_empty false
  port2 := portOk_empty false
  dup := Nat.zero_le _
  requests := Nat.zero_le _
  records := Nat.zero_le _
  biases := reset_biases
  lines := fun hl => absurd rfl hl
  slots := List.length_replicate
  gens := List.length_replicate
  channels := List.length_replicate
  views := List.length_replicate
  streams := List.length_replicate
  elements := List.length_replicate

theorem Keeps.warmRestart (s : State) : Keeps s (warmRestart s) := by
  refine Keeps.trans (fun h => ?_) (.restoreLockouts _)
  have closed : (restartRecords s).Safe := ((Keeps.closeRecords .abandoned s).trans (.modRecords _ _)) h
  exact
    { fresh_safe 0 0 true {} [] with
      port1 := dropOwn_ok closed.port1
      port2 := dropOwn_ok closed.port2
      records := closed.records
      views := closed.views
      lines := fun hl => absurd rfl hl
      slots := (List.length_map _).trans closed.slots }

theorem Keeps.endLoading (s : State) : Keeps s (endLoading s) := by
  have image : ∀ im one u, Keeps u (loadImage im one u) := by
    intro im one u
    unfold loadImage
    refine .finish (.trans (.trans (.trans (.trans (.trans (.trans (.modMgmt u _) (.setStation _ _)) (.modProt _ _ id))
      (.refreshThresholds _)) (.seqsAtService _ _)) (.modPar _ _ id id id)) (.enterService _))
  have none : ∀ u, Keeps u (loadNothing u) := by
    intro u
    unfold loadNothing
    exact ((Keeps.modMgmt u _).trans (.modProt _ _ id)).trans (.setStation _ _)
  have answered : ∀ u, Keeps u (answerRestart u) := by
    intro u
    unfold answerRestart
    split
    · exact .refl u
    · exact (Keeps.modMgmt u _).trans (Internal.answer _ _ _ _ _ _).keeps
  unfold Machine.endLoading
  refine ((Keeps.restoreLockouts s).trans ?_).trans (answered _)
  split
  · exact image _ _ _
  · exact none _

theorem Keeps.linkReady (s : State) : Keeps s (linkReady s) :=
  .modLink s _ (fun _ => portOk_empty false) (fun _ => portOk_empty false) fun _ => Nat.zero_le _

/-! ## Requests of the other blocks -/

theorem Keeps.actOperate (r : Request) (s : State) : Keeps s (actOperate r s) := by
  unfold Machine.actOperate
  split
  · rename_i n t _
    have raised : ∀ x : State × Reply, Internal s x.1 → Internal s (Machine.answerReply r x.2 (Machine.finish x.1)) :=
      fun x h => (h.trans (.finish _)).trans (.answerReply _ _ _)
    unfold operate
    cases t
    · exact (raised _ (.raiseOpen _ _ _ _)).keeps
    · exact (raised _ (.raiseClose _ _ _ _)).keeps
  · exact .refl s

theorem Keeps.actResetLockout (r : Request) (s : State) : Keeps s (actResetLockout r s) := by
  have done : ∀ u, Keeps u (Machine.answerDone r u) := fun u => (Internal.answerDone r u).keeps
  have busy : Keeps s (Machine.refuse r .busy s) := (Internal.refuse r .busy s).keeps
  unfold Machine.actResetLockout
  split
  · exact .ite (done s) (.ite busy (((Internal.modSlot s _ _).keeps.trans (.lockoutChanged _)).trans (done _)))
  · exact .ite (done s) (.ite busy ((Keeps.finish
      (((Keeps.setBusLock s _ _).trans (.lockoutChanged _)).trans (Internal.post _ _).keeps)).trans (done _)))
  · exact .refl s

theorem Internal.clearGenerators (s : State) : Internal s (clearGenerators s) :=
  (Internal.foldl (fun u k => .clearFailed k u) _ _).trans (.finish _)

theorem Keeps.clearSubsets (t d g x : Bool) (s : State) : Keeps s (clearSubsets t d g x s) :=
  (((Keeps.when (.clearTargets s)).trans (.when (.modIntake _ _))).trans (.when (Internal.clearGenerators _).keeps)).trans
    (.when (.clearRecords _))

theorem Keeps.actClear (r : Request) (s : State) : Keeps s (actClear r s) := by
  unfold Machine.actClear
  split
  · exact (Keeps.clearSubsets _ _ _ _ s).trans (Internal.answerDone _ _).keeps
  · exact .refl s

theorem Keeps.endInhibit (s : State) : Keeps s (endInhibit s) :=
  (Keeps.modSeqs s _).trans
    (((Internal.note _ _).trans (.inhibitEnded .seq1 _)).trans (.inhibitEnded .seq2 _)).keeps

theorem Keeps.actInhibit (r : Request) (s : State) : Keeps s (actInhibit r s) := by
  have set : ∀ n, Keeps s (setInhibit n s) := fun n =>
    .ite (.endInhibit s) ((Keeps.modSeqs s _).trans (Internal.note _ _).keeps)
  unfold Machine.actInhibit
  split
  · exact (Keeps.finish (set _)).trans (Internal.answer _ _ _ _ _ _).keeps
  · exact .refl s

theorem Internal.seqRequest {act : SeqId → Request → State → State} (ha : ∀ q r s, Internal s (act q r s)) (r : Request)
    (s : State) : Internal s (seqRequest act r s) := .ite (.refuse _ _ _) (ha _ r s)

theorem Internal.actPark (q : SeqId) (r : Request) (s : State) : Internal s (actPark q r s) :=
  (Internal.ite (.refl s) ((Internal.parkSeq q s).trans (.finish _))).trans (.answerDone _ _)

/-- An act that a sequencer takes or refuses is internal where it is internal when taken. -/
theorem Internal.tryRequest {x : Option State} {s : State} (hx : Internal s (x.getD s)) (r : Request) :
    Internal s (tryRequest x r s) := by
  cases x with
  | none => exact .refuse _ _ _
  | some t => exact (hx.trans (.finish _)).trans (.answerDone _ _)

theorem Internal.actRetransfer (q : SeqId) (r : Request) (s : State) : Internal s (actRetransfer q r s) :=
  .ite (.ite (.refuse _ _ _) (((Internal.beginReturn q s).trans (.finish _)).trans (.answerDone _ _))) (.refuse _ _ _)

theorem Keeps.actDiscardRecord (r : Request) (s : State) : Keeps s (actDiscardRecord r s) := by
  unfold Machine.actDiscardRecord
  split
  · unfold removeRecord
    split
    · exact .ite ((Keeps.discardRecord _ s).trans (Internal.answerDone _ _).keeps) (Internal.refuse _ _ _).keeps
    · exact (Internal.refuse _ _ _).keeps
  · exact .refl s

theorem Keeps.whenDue {act : State → State} (ha : ∀ s, Keeps s (act s)) (due : Bool) (s : State) :
    Keeps s (whenDue due act s) := .when (.finish (ha s))

/-- An internal act that is carried out when it is due. -/
theorem Internal.whenDue {act : State → State} (ha : ∀ s, Internal s (act s)) (due : Bool) (s : State) :
    Internal s (whenDue due act s) := .ite ((ha s).trans (.finish _)) (.refl s)

/-! ## Every command -/

/-- Every command answers a next state, which is safe where the state was. -/
theorem exec_keeps (c : Instr) (s : State) : ∃ t, exec c s = .next t ∧ Keeps s t := by
  cases c with
  | powerOn => exact ⟨_, rfl, .ite (.refl s) fun _ => fresh_safe _ _ _ _ _⟩
  | linkInitEnd => exact ⟨_, rfl, .when (.linkReady s)⟩
  | supplyLoss => exact ⟨_, rfl, .when fun _ => fresh_safe _ _ _ _ _⟩
  | portLinkUp p => exact ⟨_, rfl, .when (.modPort s p _ fun _ _ => portOk_empty true)⟩
  | portLinkDown p => exact ⟨_, rfl, .modPort s p _ fun _ _ => portOk_empty false⟩
  | badFrame p f => exact ⟨_, rfl, .refl s⟩
  | foreignFrame p f => exact ⟨_, rfl, .when (Internal.enqueue _ _ _ _).keeps⟩
  | forwardedFrame p f => exact Keeps.execForwardedFrame p f s
  | sample p f => exact ⟨_, rfl, .takeFrame _ p f (.handSample f) s⟩
  | position p f => exact ⟨_, rfl, .takeFrame _ p f (.handPosition f) s⟩
  | genstat p f => exact ⟨_, rfl, .takeFrame _ p f (.handGenstat f) s⟩
  | manage p f => exact ⟨_, rfl, .takeFrame _ p f (.handManage f) s⟩
  | frameTransmitEnd p => exact ⟨_, rfl, .modPort s p _ fun x h => takeNext_ok (ps := { x with tx := none }) h⟩
  | retiredNumberExpiry => exact Keeps.execRetiredNumberExpiry s
  | duplicateFilterExpiry => exact ⟨_, rfl, .modLink s _ id id fun h => (purgeDup_length _ _).trans h⟩
  | fallback => exact ⟨_, rfl, .when (.processAll s)⟩
  | streamGood r => exact ⟨_, rfl, .when (.setStreamState _ _ s)⟩
  | streamLost r => exact ⟨_, rfl, .when (.setStreamState _ _ s)⟩
  | holdExpiry pt ph k => exact ⟨_, rfl, .modPhaseRec _ _ _ s⟩
  | divergentSet pt ph => exact ⟨_, rfl, .modPhaseRec _ _ _ s⟩
  | divergentClear pt ph => exact ⟨_, rfl, .modPhaseRec _ _ _ s⟩
  | directionMemoryExpiry n ph => exact ⟨_, rfl, .when (.modCur n _ s)⟩
  | trackerEmpty v => exact ⟨_, rfl, .when (.modVolt v _ s)⟩
  | qualifierDeclare v => exact ⟨_, rfl, .when (.modVolt v _ s)⟩
  | tocOperate i => exact ⟨_, rfl, .when (.finish (.enterOperated i s))⟩
  | definiteTimeOperate i => exact ⟨_, rfl, .when (.finish (.enterOperated i s))⟩
  | tocResetEnd i => exact ⟨_, rfl, .when (.modRt s _ _)⟩
  | orderRepeat n => exact ⟨_, rfl, .when (Internal.repeatOrder n s).keeps⟩
  | openLimitExpiry n => exact ⟨_, rfl, (Internal.whenDue (.failOpen n) _ s).keeps⟩
  | closeLimitExpiry n => exact ⟨_, rfl, (Internal.whenDue (.failClose n) _ s).keeps⟩
  | withdrawResend n => exact ⟨_, rfl, .when (Internal.resendWithdraw n s).keeps⟩
  | travelTimeout n => exact ⟨_, rfl, (Internal.whenDue (.setRealPos n .faulty) _ s).keeps⟩
  | positionSilence n => exact ⟨_, rfl, (Internal.whenDue (.silencePosition n) _ s).keeps⟩
  | operatorWindowExpiry n => exact ⟨_, rfl, .when (Internal.modSlot s n _).keeps⟩
  | bfOperate n => exact ⟨_, rfl, .whenDue (.operateBf n) _ s⟩
  | lockoutStoreWriteEnd => exact ⟨_, rfl, .endStoreWrite s⟩
  | directTripRelease n => exact ⟨_, rfl, (Internal.releaseLine n s).keeps⟩
  | startupTimerExpiry q => exact ⟨_, rfl, (Internal.whenDue (.derive q) _ s).keeps⟩
  | lossTimerExpiry q => exact ⟨_, rfl, (Internal.whenDue (.lossExpired q) _ s).keeps⟩
  | deadTimerExpiry q => exact ⟨_, rfl, (Internal.whenDue (.deadExpired q) _ s).keeps⟩
  | retransferTimerExpiry q => exact ⟨_, rfl, (Internal.whenDue (.retransferExpired q) _ s).keeps⟩
  | parallelTimerExpiry q => exact ⟨_, rfl, (Internal.whenDue (.raiseOverrun q) _ s).keeps⟩
  | softLimitExpiry q => exact ⟨_, rfl, (Internal.whenDue (.endSoft q) _ s).keeps⟩
  | restoreTimerExpiry q => exact ⟨_, rfl, (Internal.whenDue (.restoreExpired q) _ s).keeps⟩
  | inhibitEnd => exact ⟨_, rfl, .whenDue .endInhibit _ s⟩
  | stopTimerExpiry => exact ⟨_, rfl, (Internal.whenDue .stopExpired _ s).keeps⟩
  | statusLoss k => exact ⟨_, rfl, (Internal.whenDue (.loseStatus k) _ s).keeps⟩
  | syncFire i => exact Keeps.execSyncFire i s
  | syncWaitLimit n => exact ⟨_, rfl, (Internal.whenDue (.expireSyncWait n) _ s).keeps⟩
  | noticeSend => exact ⟨_, rfl, .when (.sendNotice s)⟩
  | readStatus => exact ⟨_, rfl, .readRequest _ _ s⟩
  | readPoint => exact ⟨_, rfl, .readRequest _ _ s⟩
  | readBreaker => exact ⟨_, rfl, .readRequest _ _ s⟩
  | readElement => exact ⟨_, rfl, .readRequest _ _ s⟩
  | readGenerator => exact ⟨_, rfl, .readRequest _ _ s⟩
  | readRow => exact ⟨_, rfl, .readRequest _ _ s⟩
  | writeRow => exact ⟨_, rfl, .takeKind _ .actWriteRow s⟩
  | enterConfig =>
    exact ⟨_, rfl, .takeKind _ (fun _ u => (Keeps.enterConfig u).trans (Internal.answerDone _ _).keeps) s⟩
  | commit => exact ⟨_, rfl, .takeKind _ .actCommit s⟩
  | discard => exact ⟨_, rfl, .takeKind _ .actDiscard s⟩
  | discardRead =>
    refine ⟨_, rfl, ?_⟩
    split
    · exact (Keeps.discardRead _ _ s).trans (.settleQueue _)
    · exact .refl s
  | selectGroup => exact ⟨_, rfl, .takeKind _ .actSelectGroup s⟩
  | setMode => exact ⟨_, rfl, .takeKind _ .actSetMode s⟩
  | operate => exact ⟨_, rfl, .takeKind _ .actOperate s⟩
  | resetLockout => exact ⟨_, rfl, .takeKind _ .actResetLockout s⟩
  | clear => exact ⟨_, rfl, .takeKind _ .actClear s⟩
  | inhibitTransfer => exact ⟨_, rfl, .takeKind _ .actInhibit s⟩
  | park => exact ⟨_, rfl, .takeKind _ (fun r u => (Internal.seqRequest .actPark r u).keeps) s⟩
  | resume =>
    exact ⟨_, rfl, .takeKind _ (fun r u => (Internal.seqRequest (fun q r u => .tryRequest (.resumeSeq q u) r) r u).keeps) s⟩
  | abort =>
    exact ⟨_, rfl, .takeKind _ (fun r u => (Internal.seqRequest (fun q r u => .tryRequest (.abortSeq q u) r) r u).keeps) s⟩
  | retransferNow => exact ⟨_, rfl, .takeKind _ (fun r u => (Internal.seqRequest .actRetransfer r u).keeps) s⟩
  | readRecord => exact ⟨_, rfl, .readRequest _ _ s⟩
  | discardRecord => exact ⟨_, rfl, .takeKind _ .actDiscardRecord s⟩
  | restart => exact ⟨_, rfl, .takeKind _ (fun _ u => .modMgmt u _) s⟩
  | warmRestart => exact ⟨_, rfl, .when (.warmRestart s)⟩
  | settingsWriteEnd ok => exact ⟨_, rfl, .endWrite ok s⟩
  | loadingEnd => exact ⟨_, rfl, .when (.endLoading s)⟩
  | emulatedMoveDue n => exact ⟨_, rfl, .moveIfDue n s⟩

/-- Settles O5: a step is a tick or a command on the rest of the queue, and both keep the safe states. -/
theorem stepKeepsSafe : Obligations.StepKeepsSafe := by
  intro s t hs ht
  unfold step at ht
  split at ht
  · cases ht
    exact Keeps.tick s hs
  · rename_i c rest _
    obtain ⟨u, hu, keeps⟩ := exec_keeps c { s with pending := rest }
    cases hu.symm.trans ht
    exact keeps { hs with }

/-- Settles O4. -/
theorem resetSafe : Obligations.ResetSafe := fresh_safe _ _ _ _ _

/-- Settles O3: every clause reads a field of the state of reset; the lists of slots, points and rows hold copies of one
record each. -/
theorem resetLeaves : Obligations.ResetLeaves := by
  unfold Obligations.ResetLeaves
  simp [State.reset]

end Sys2Proof.Machine
end

section
/-!
Chapter 1: the ports, the forwarding decision of R5, the duplicate filter, and the frames the part originates (O7 to O10).
-/

namespace Sys2Proof.Machine

/-! ## Ports and queues -/

@[simp] theorem portOf_modPort_same (l : Link) (p : Port) (f : PortState → PortState) :
    portOf (modPort l p f) p = f (portOf l p) := by
  cases p <;> rfl

/-- An update of a port changes that port only. -/
theorem modPort_onlyPort (p : Port) (f : PortState → PortState) (s : State) :
    onlyPort p s (s.modLink fun l => modPort l p f) := by
  cases p <;> exact ⟨rfl, rfl⟩

/-- R9: what an UP port that does not send takes, queue by queue. -/
theorem takeNext_of_urgent {ps : PortState} {f : QFrame} {l : List QFrame} (hup : ps.up = true) (htx : ps.tx = none)
    (hu : ps.urgent = f :: l) : takeNext ps = { ps with urgent := l, tx := some f } := by
  simp [takeNext, hup, htx, hu]

theorem takeNext_of_stream {ps : PortState} {f : QFrame} {l : List QFrame} (hup : ps.up = true) (htx : ps.tx = none)
    (hu : ps.urgent = []) (hs : ps.stream = f :: l) : takeNext ps = { ps with stream := l, tx := some f } := by
  simp [takeNext, hup, htx, hu, hs]

theorem takeNext_of_bulk {ps : PortState} {f : QFrame} {l : List QFrame} (hup : ps.up = true) (htx : ps.tx = none)
    (hu : ps.urgent = []) (hs : ps.stream = []) (hb : ps.bulk = f :: l) :
    takeNext ps = { ps with bulk := l, tx := some f } := by
  simp [takeNext, hup, htx, hu, hs, hb]

theorem takeNext_of_empty {ps : PortState} (hu : ps.urgent = []) (hs : ps.stream = []) (hb : ps.bulk = []) :
    takeNext ps = ps := by
  unfold takeNext
  simp only [hu, hs, hb]
  split <;> rfl

@[simp] theorem takeNext_up (ps : PortState) : (takeNext ps).up = ps.up := by
  unfold takeNext
  split
  · split <;> simp_all
  · rfl

/-- Settles O7, port by port and, at the end of a transmission, queue by queue. -/
theorem portsAndTransmission : Obligations.PortsAndTransmission := by
  refine ⟨fun p s => ⟨?_, fun hrun hdown => ?_⟩, fun p s hup => ?_⟩
  · exact ⟨_, rfl, modPort_onlyPort p _ s, by simp⟩
  · exact ⟨_, congrArg Host.Outcome.next (if_pos ⟨hrun, hdown⟩), modPort_onlyPort p _ s, by simp⟩
  · refine ⟨_, rfl, modPort_onlyPort p _ s, by simpa using hup, ?_⟩
    simp only [State.modLink_link, portOf_modPort_same]
    refine ⟨fun f l hu => ?_, fun f l hu hs => ?_, fun f l hu hs hb => ?_, fun hu hs hb => ?_⟩
    · rw [takeNext_of_urgent (ps := { portOf s.link p with tx := none }) hup rfl hu]
      simp
    · rw [takeNext_of_stream (ps := { portOf s.link p with tx := none }) hup rfl hu hs]
      simp [hu]
    · rw [takeNext_of_bulk (ps := { portOf s.link p with tx := none }) hup rfl hu hs hb]
      simp [hu, hs]
    · rw [takeNext_of_empty (ps := { portOf s.link p with tx := none }) hu hs hb]
      simp [hu, hs, hb]

/-- R1, R8: in RUNNING a frame is directed to the queue of the port. -/
theorem enqueue_directed (p : Port) (q : Egress) (f : QFrame) {s : State} (hrun : s.link.running = true) :
    directed p q f s (enqueue p q f s) := by
  unfold enqueue
  rw [if_pos hrun]
  refine ⟨modPort_onlyPort p _ s, ?_⟩
  simp only [State.modLink_link, portOf_modPort_same, joinQueue]
  split <;> rfl

/-- Settles O10: the second copy is directed from the state the first one leaves. -/
theorem ownFrameOnBothPorts : Obligations.OwnFrameOnBothPorts := by
  intro dest n x s hrun hstation q
  have hq : q = ownQueue x := by cases x <;> rfl
  have hrun' : (enqueue .p1 q (.own ⟨dest, n, x⟩) s).link.running = true :=
    ((Internal.enqueue _ _ _ s).outside.running).trans hrun
  have both : originate dest x s = enqueue .p2 q (.own ⟨dest, n, x⟩) (enqueue .p1 q (.own ⟨dest, n, x⟩) s) := by
    simp only [originate, hstation, hq]
  exact ⟨_, enqueue_directed .p1 q _ hrun, both ▸ enqueue_directed .p2 q _ hrun'⟩

/-! ## The forwarding decision (R5) -/

/-- R4: the retired number, while it is younger than 1,000 ms. -/
theorem retiredNumber_eq_some {s : State} {n : Nat} :
    retiredNumber s = some n ↔ ∃ since, s.link.retired = some (n, since) ∧ s.now < since + 1000000 := by
  unfold retiredNumber
  split
  · rename_i m t e
    rw [e]
    constructor
    · intro h
      split at h
      · cases h; exact ⟨t, rfl, ‹_›⟩
      · cases h
    · rintro ⟨_, e', hlt⟩
      cases e'
      exact if_pos hlt
  · rename_i e
    simp [e]

/-- R5: a frame of the part's own number, or of the number it retired, is neither forwarded nor offered. -/
theorem forwarding_own {s : State} {h : Header} {own : Nat} (hs : s.link.station = some own)
    (hsrc : h.src = own ∨ retiredNumber s = some h.src) : forwarding s h = ⟨false, false⟩ := by
  simp only [forwarding, hs]
  rw [if_pos hsrc]

/-- R5: what becomes of any other frame, by its destination. -/
theorem forwarding_other {s : State} {h : Header} {own : Nat} (hs : s.link.station = some own)
    (hsrc : ¬(h.src = own ∨ retiredNumber s = some h.src)) :
    forwarding s h = ⟨decide (h.dest ≠ own), decide (h.dest = own ∨ h.dest = 65535)⟩ := by
  simp only [forwarding, hs]
  rw [if_neg hsrc]
  by_cases h1 : h.dest = own
  · simp [h1]
  · by_cases h2 : h.dest = 65535
    · rw [if_neg h1, if_pos h2, decide_eq_true h1, decide_eq_true (Or.inr h2)]
    · rw [if_neg h1, if_neg h2]; simp [h1, h2]

theorem receiving_running {s : State} {p : Port} (hr : receiving s p = true) : s.link.running = true := by
  simp only [receiving, Bool.and_eq_true] at hr
  exact hr.1

/-- R5: a frame that the decision forwards is directed to its queue of the opposite port. -/
theorem forwardVendor_directed {s : State} {p : Port} (f : EthFrame) {h : Header} (hr : receiving s p = true)
    (hf : (forwarding s h).forwarded = true) :
    directed (oppositePort p) (forwardQueue h.kind) (.fwd f) s (forwardVendor p f h s) := by
  unfold forwardVendor
  rw [if_pos hf]
  exact enqueue_directed _ _ _ (receiving_running hr)

theorem forwardVendor_not_forwarded {s : State} (p : Port) (f : EthFrame) {h : Header}
    (hf : (forwarding s h).forwarded = false) : forwardVendor p f h s = s := by
  unfold forwardVendor
  rw [if_neg (by simp [hf])]

/-- R5: forwarding follows the table, row by row. -/
theorem forwardVendor_forwarded {s : State} {p : Port} (f : EthFrame) (h : Header) (hr : receiving s p = true) :
    Forwarded p f h (forwardQueue h.kind) s (forwardVendor p f h s) := by
  refine ⟨fun hn => forwardVendor_directed f hr ?_, fun own hown => ?_⟩
  · simp [forwarding, hn]
  · rw [← retiredNumber_eq_some (s := s) (n := h.src), ← or_assoc]
    by_cases hsrc : h.src = own ∨ retiredNumber s = some h.src
    · exact ⟨fun _ => forwardVendor_not_forwarded p f (by rw [forwarding_own hown hsrc]), fun hgone => absurd (.inl hsrc) hgone⟩
    · have decision := forwarding_other hown hsrc
      refine ⟨fun hgone => forwardVendor_not_forwarded p f ?_, fun hgone => forwardVendor_directed f hr ?_⟩
      · simp [decision, hgone.resolve_left hsrc]
      · simpa [decision] using fun e => hgone (.inr e)

/-- R5, R6: which frames are offered for inward copy. -/
theorem offeredInward_iff (h : Header) (s : State) : offeredInward s h = true ↔
    s.mgmt.part ≠ .loading ∧ ∃ own, s.link.station = some own ∧ h.src ≠ own ∧
      (∀ since, s.link.retired = some (h.src, since) → since + 1000000 ≤ s.now) ∧ (h.dest = own ∨ h.dest = 65535) := by
  have young : (∀ since, s.link.retired = some (h.src, since) → since + 1000000 ≤ s.now) ↔
      retiredNumber s ≠ some h.src := by
    rw [Ne, retiredNumber_eq_some]
    push Not
    rfl
  simp only [young, offeredInward, Bool.and_eq_true, Bool.not_eq_true', decide_eq_false_iff_not]
  rw [and_comm]
  refine and_congr_right fun _ => ?_
  cases hs : s.link.station with
  | none => simp [forwarding, hs]
  | some own =>
    simp only [Option.some.injEq, exists_eq_left']
    by_cases hsrc : h.src = own ∨ retiredNumber s = some h.src
    · rw [forwarding_own hs hsrc]
      simp only [Bool.false_eq_true, false_iff]
      exact fun ⟨h1, h2, _⟩ => hsrc.elim h1 h2
    · rw [forwarding_other hs hsrc]
      simp only [not_or] at hsrc
      simp [hsrc]

theorem frameClass_bad {f : EthFrame} (hf : frameSound f = false) : frameClass f = .bad := by simp [frameClass, hf]

/-- R2: the check sequence is right and the length from 64 to 1,518 bytes. -/
theorem frameSound_iff {f : EthFrame} :
    frameSound f = true ↔ f.fcsOk = true ∧ 64 ≤ f.body.length + 18 ∧ f.body.length + 18 ≤ 1518 := by
  simp only [frameSound, Bool.and_eq_true, decide_eq_true_eq, and_assoc]
  rfl

theorem frameSound_eq_false {f : EthFrame} (h : f.fcsOk = false ∨ f.body.length + 18 < 64 ∨ 1518 < f.body.length + 18) :
    frameSound f = false := by
  rw [Bool.eq_false_iff, Ne, frameSound_iff]
  rintro ⟨h1, h2, h3⟩
  rcases h with h | h
  · rw [h] at h1; cases h1
  · omega

theorem frameClass_foreign {f : EthFrame} (hs : frameSound f = true)
    (hf : f.etherType ≠ 0x9A31 ∨ headerCheck f.body = none) : frameClass f = .foreign := by
  unfold frameClass vendorType
  rw [if_pos hs]
  rcases hf with hf | hf
  · rw [if_neg hf]
  · simp [hf]

/-- Settles O8. -/
theorem framesForwardedOrRemoved : Obligations.FramesForwardedOrRemoved := by
  refine ⟨fun p f s => ⟨fun hbad => ⟨rfl, ?_⟩, fun hr hs hf => ?_⟩, fun p f h s hr hc hk => ?_, offeredInward_iff⟩
  · have hclass := frameClass_bad (frameSound_eq_false hbad)
    simp [exec, execForeignFrame, hclass]
  · exact ⟨_, congrArg Host.Outcome.next (if_pos ⟨hr, frameClass_foreign hs hf⟩),
      enqueue_directed _ _ _ (receiving_running hr)⟩
  · have bulk : forwardQueue h.kind = .bulk := by rcases hk with hk | hk | hk | hk <;> rw [hk] <;> rfl
    refine ⟨forwardVendor p f h s, ?_, bulk ▸ forwardVendor_forwarded f h hr⟩
    simp only [exec, execForwardedFrame, hr, hc]
    rw [if_pos hk]

/-! ## The station number and the duplicate filter -/

/-- R7: an entry stays until it is 500 ms old. -/
theorem mem_purgeDup {now : Nat} {l : List DupEntry} {e : DupEntry} :
    e ∈ purgeDup now l ↔ e ∈ l ∧ now < e.arrival + 500000 := by
  rw [purgeDup, List.mem_filter, decide_eq_true_iff]
  rfl

/-- Settles O9. -/
theorem linkExpiries : Obligations.LinkExpiries := by
  refine fun s => ⟨fun n since hr hold => ?_, fun n since hr hyoung => ?_, ?_⟩
  · refine ⟨s.modLink fun l => { l with retired := none }, ?_, rfl⟩
    simp only [exec, execRetiredNumberExpiry, hr]
    rw [if_pos (by simp only [ms]; omega)]
  · simp only [exec, execRetiredNumberExpiry, hr]
    rw [if_neg (by simp only [ms]; omega)]
  · refine ⟨_, rfl, rfl, List.filter_sublist, fun e he => ?_⟩
    simp only [State.modLink_link, mem_purgeDup, he, true_and]

/-- R7: a frame is a second copy when an entry of its source and tag is younger than 500 ms. -/
theorem isDuplicate_iff {s : State} {src tag : Nat} :
    isDuplicate s src tag = true ↔ ∃ e ∈ s.link.dup, e.src = src ∧ e.tag = tag ∧ s.now < e.arrival + 500000 := by
  simp only [isDuplicate, List.any_eq_true, mem_purgeDup, decide_eq_true_eq]
  constructor
  · rintro ⟨e, ⟨he, hy⟩, hs, ht⟩; exact ⟨e, he, hs, ht, hy⟩
  · rintro ⟨e, he, hs, ht, hy⟩; exact ⟨e, ⟨he, hy⟩, hs, ht⟩

end Sys2Proof.Machine
end

section
/-!
The frames the part builds pass its own header check and read back (O12).
-/

namespace Sys2Proof.Machine

/-- The two bytes of a field read back as the number, when it has at most 16 bits. -/
theorem word16_bytes {n : Nat} (hn : n < 65536) :
    (BitVec.ofNat 8 (n / 256)).toNat * 256 + (BitVec.ofNat 8 n).toNat = n := by
  simp only [BitVec.toNat_ofNat]
  omega

theorem byte_of {n : Nat} (hn : n < 256) : (BitVec.ofNat 8 n).toNat = n := by
  simp only [BitVec.toNat_ofNat]
  omega

/-- Chapter 1.8: the eight bytes of the common header, then the payload and its padding. -/
theorem ownBody_eq (f : OwnFrame) :
    ownBody f = 1 :: BitVec.ofNat 8 (kindCode (ownKind f.payload)) :: BitVec.ofNat 8 (f.dest / 256) ::
      BitVec.ofNat 8 f.dest :: BitVec.ofNat 8 (f.src / 256) :: BitVec.ofNat 8 f.src ::
      BitVec.ofNat 8 ((ownPayloadBytes f.payload).length / 256) :: BitVec.ofNat 8 (ownPayloadBytes f.payload).length ::
      (ownPayloadBytes f.payload ++ List.replicate (38 - (ownPayloadBytes f.payload).length) 0) := by
  have pad : 46 - ((ownPayloadBytes f.payload).length + 8) = 38 - (ownPayloadBytes f.payload).length := by omega
  simp [ownBody, word16Bytes, pad]

theorem ownBody_length (f : OwnFrame) : (ownBody f).length = max 46 (8 + (ownPayloadBytes f.payload).length) := by
  simp only [ownBody_eq, List.length_cons, List.length_append, List.length_replicate]
  omega

theorem word16At_cons {l : List Byte} {i n : Nat} (h1 : l.getD i 0 = BitVec.ofNat 8 (n / 256))
    (h2 : l.getD (i + 1) 0 = BitVec.ofNat 8 n) (hn : n < 65536) : word16At l i = n := by
  simp only [word16At, byteAt, h1, h2, word16_bytes hn]

theorem ownBody_version (f : OwnFrame) : byteAt (ownBody f) 0 = 1 := by rw [ownBody_eq]; rfl

theorem ownBody_kind (f : OwnFrame) : byteAt (ownBody f) 1 = kindCode (ownKind f.payload) := by
  rw [ownBody_eq]
  exact byte_of (by cases ownKind f.payload <;> decide)

theorem ownBody_dest {f : OwnFrame} (h : f.dest ≤ 65535) : word16At (ownBody f) 2 = f.dest := by
  rw [ownBody_eq]
  exact word16At_cons rfl rfl (by omega)

theorem ownBody_src {f : OwnFrame} (h : f.src ≤ 65534) : word16At (ownBody f) 4 = f.src := by
  rw [ownBody_eq]
  exact word16At_cons rfl rfl (by omega)

theorem ownBody_payloadLen {f : OwnFrame} (h : (ownPayloadBytes f.payload).length ≤ 1492) :
    word16At (ownBody f) 6 = (ownPayloadBytes f.payload).length := by
  rw [ownBody_eq]
  exact word16At_cons rfl rfl (by omega)

/-- The payload stands behind the header. -/
theorem ownBody_payload (f : OwnFrame) (i : Nat) (hi : i < (ownPayloadBytes f.payload).length) :
    (ownBody f).getD (8 + i) 0 = (ownPayloadBytes f.payload).getD i 0 := by
  have e : 8 + i = i + 8 := Nat.add_comm 8 i
  rw [ownBody_eq, e]
  simp only [List.getD_cons_succ]
  exact List.getD_append _ _ _ _ hi

theorem kindOfCode_kindCode (k : FrameKind) : kindOfCode (kindCode k) = some k := by cases k <;> rfl

/-- R3: a frame the part builds passes the header check with its own fields. -/
theorem headerCheck_ownBody {f : OwnFrame} (hdest : f.dest ≤ 65535) (hsrc : 1 ≤ f.src) (hsrc' : f.src ≤ 65534)
    (hlen : (ownPayloadBytes f.payload).length ≤ 1492) :
    headerCheck (ownBody f) = some ⟨ownKind f.payload, f.dest, f.src, (ownPayloadBytes f.payload).length⟩ := by
  have len := ownBody_length f
  unfold headerCheck
  simp only [ownBody_kind, kindOfCode_kindCode, ownBody_version, ownBody_dest hdest, ownBody_src hsrc',
    ownBody_payloadLen hlen]
  rw [if_pos ⟨trivial, by omega, hsrc, hsrc', hlen, by omega⟩]

theorem signed16_of_bias {x : Int} (h1 : -1000 ≤ x) (h2 : x ≤ 1000) : signed16 (x % 65536).toNat = x := by
  unfold signed16
  split <;> omega

theorem orderCode_lt (c : OrderCode) : orderCode c < 256 := by cases c <;> decide

theorem rank_lt (x : Source) : rank x < 256 := by cases x <;> decide

theorem statusReason_lt (st : Status) : statusReason st < 256 := by
  cases st with
  | refused r => cases r <;> decide
  | _ => decide

theorem statusCode_lt (st : Status) : statusCode st < 256 := by
  cases st <;> simp [statusCode]

theorem noticeCode_lt (c : NoticeClass) : noticeCode c < 256 := by cases c <;> decide

/-- Settles O12: the header check on the header's bytes, and each payload byte by byte. -/
theorem ownFramesReadBack : Obligations.OwnFramesReadBack := by
  refine ⟨fun f dst own a _ hdest hsrc hsrc' hlen => ?_, fun f => ⟨?_, ?_, ?_, ?_⟩⟩
  · have len := ownBody_length f
    have sound : frameSound ⟨dst, own, true, 0x9A31, ownBody f, a⟩ = true :=
      frameSound_iff.2 ⟨rfl, by dsimp only; omega, by dsimp only; omega⟩
    simp only [frameClass, sound, vendorType, headerCheck_ownBody hdest hsrc hsrc' hlen, ↓reduceIte]
  · intro n code tag cause hf hn htag
    have at_ := ownBody_payload f
    simp only [hf, ownPayloadBytes, List.length_cons, List.length_nil] at at_
    refine ⟨?_, ?_, ?_, ?_⟩
    · exact (congrArg BitVec.toNat (at_ 0 (by omega))).trans (byte_of (by omega))
    · exact (congrArg BitVec.toNat (at_ 1 (by omega))).trans (byte_of (orderCode_lt code))
    · exact (congrArg BitVec.toNat (at_ 2 (by omega))).trans (byte_of htag)
    · exact (congrArg BitVec.toNat (at_ 3 (by omega))).trans (byte_of (rank_lt cause))
  · intro k start bias hf hk h1 h2
    have at_ := ownBody_payload f
    simp only [hf, ownPayloadBytes, word16Bytes, List.cons_append, List.nil_append, List.length_cons, List.length_nil] at at_
    refine ⟨?_, ?_, ?_⟩
    · exact (congrArg BitVec.toNat (at_ 0 (by omega))).trans (byte_of (by omega))
    · refine (congrArg BitVec.toNat (at_ 1 (by omega))).trans ?_
      cases start <;> rfl
    · rw [word16At_cons (at_ 2 (by omega)) (at_ 3 (by omega)) (by omega), signed16_of_bias h1 h2]
  · intro tag kind st x hf htag hkind
    have at_ := ownBody_payload f
    simp only [hf, ownPayloadBytes, word16Bytes, List.cons_append, List.nil_append, List.length_cons] at at_
    refine ⟨?_, ?_, ?_, ?_⟩
    · exact word16At_cons (at_ 0 (by omega)) (at_ 1 (by omega)) htag
    · exact (congrArg BitVec.toNat (at_ 2 (by omega))).trans (byte_of hkind)
    · exact (congrArg BitVec.toNat (at_ 3 (by omega))).trans (byte_of (statusCode_lt st))
    · exact (congrArg BitVec.toNat (at_ 4 (by omega))).trans (byte_of (statusReason_lt st))
  · intro c x hf
    have at_ := ownBody_payload f 0
    simp only [hf, ownPayloadBytes, List.length_cons] at at_
    exact (congrArg BitVec.toNat (at_ (by omega))).trans (byte_of (noticeCode_lt c))

end Sys2Proof.Machine
end

section
/-!
Frames copied inward (R6): a frame that reaches its block, one that does not, the MANAGE frame (O11) and the SAMPLE frame
(O13, O15).
-/

namespace Sys2Proof.Machine

/-! ## Reaching a block -/

/-- Forwarding changes the Link Unit only. -/
theorem forwardVendor_eq (p : Port) (f : EthFrame) (h : Header) (s : State) :
    ∃ l, forwardVendor p f h s = { s with link := l } := by
  unfold forwardVendor enqueue
  split
  · split
    · exact ⟨_, rfl⟩
    · exact ⟨_, rfl⟩
  · exact ⟨_, rfl⟩

/-- A notice changes the records only. -/
theorem note_eq (c : NoticeClass) (s : State) : ∃ r, note c s = { s with records := r } := by
  unfold note
  split
  · exact ⟨_, rfl⟩
  · exact ⟨_, rfl⟩

/-- R5, R6: a frame that reaches its block is forwarded and then handed over. -/
theorem takeFrame_inward {k : FrameKind} {p : Port} {f : EthFrame} {h : Header} {s : State} (hin : Inward k p f h s)
    (hand : Header → State → State) : takeFrame k p f hand s = hand h (forwardVendor p f h s) := by
  simp only [takeFrame, hin.received, hin.frame, hin.kind, hin.offered, ↓reduceIte]

/-- R5, R6: a frame that is not offered is forwarded and no more. -/
theorem takeFrame_not_offered {k : FrameKind} {p : Port} {f : EthFrame} {h : Header} {s : State} (hr : receiving s p = true)
    (hc : frameClass f = .vendor h) (hk : h.kind = k) (ho : offeredInward s h = false) (hand : Header → State → State) :
    takeFrame k p f hand s = forwardVendor p f h s := by
  simp only [takeFrame, hr, hc, hk, ho, ↓reduceIte, Bool.false_eq_true]

/-- R5, R6: a frame that its block does not take, or that is not offered, is forwarded and no more. -/
theorem takeFrame_not_taken {k : FrameKind} {p : Port} {f : EthFrame} {h : Header} {s : State} (hr : receiving s p = true)
    (hc : frameClass f = .vendor h) (hk : h.kind = k) {hand : Header → State → State}
    (hn : offeredInward s h = false ∨ hand h (forwardVendor p f h s) = forwardVendor p f h s) :
    takeFrame k p f hand s = forwardVendor p f h s := by
  cases ho : offeredInward s h with
  | false => exact takeFrame_not_offered hr hc hk ho hand
  | true =>
    rw [takeFrame_inward ⟨hr, hc, hk, ho⟩]
    exact hn.resolve_left (by simp [ho])

/-! ## MANAGE -/

/-- R174: a queue whose head waits for a request row is left as it is. -/
theorem settleQueue_of_headWaits {s : State} (h : headWaits s) : settleQueue s = s := by
  unfold settleQueue settleHeads
  split
  · rfl
  · rename_i r rest e
    rcases h with hf | hw
    · rw [if_pos hf]
    · obtain ⟨hm, hk⟩ := hw r (by simp [e])
      split
      · rfl
      · split
        · rename_i hn; rw [hn] at hm; cases hm
        · rfl

theorem mem_addDup (src tag : Nat) (s : State) : ⟨src, tag, s.now⟩ ∈ (addDup src tag s).link.dup := by
  simp [addDup]

/-- R173: a request of no manager, or a fifth one, is discarded. -/
theorem joinRequests_discarded {r : Request} {s : State} (h : managerRights s r.src = none ∨ s.mgmt.requests.length = 4) :
    joinRequests r s = s := by
  unfold joinRequests
  refine if_neg fun ⟨hm, hl⟩ => ?_
  rcases h with h | h
  · rw [h] at hm; cases hm
  · omega

/-- R173: any other request joins the tail. -/
theorem joinRequests_joined {r : Request} {s : State} (hm : (managerRights s r.src).isSome = true)
    (hl : s.mgmt.requests.length < 4) (hw : headWaits (setRequests (s.mgmt.requests ++ [r]) s)) :
    joinRequests r s = setRequests (s.mgmt.requests ++ [r]) s := by
  unfold joinRequests
  rw [if_pos ⟨hm, hl⟩, settleQueue_of_headWaits hw]

/-- R5: a frame for the part itself is offered and not forwarded. -/
theorem forwardVendor_for_self {p : Port} {f : EthFrame} {h : Header} {s : State} (ho : offeredInward s h = true)
    (hs : s.link.station = some h.dest) : forwardVendor p f h s = s := by
  refine forwardVendor_not_forwarded p f ?_
  obtain ⟨_, own, hown, hsrc, hret, _⟩ := (offeredInward_iff h s).1 ho
  rw [hs] at hown
  cases hown
  have foreign : ¬(h.src = h.dest ∨ retiredNumber s = some h.src) := by
    rintro (e | e)
    · exact hsrc e
    · obtain ⟨since, hr, hlt⟩ := retiredNumber_eq_some.1 e
      have := hret since hr
      omega
  simp [forwarding_other hs foreign]

/-- R5: a frame offered that is not for the part itself is for all stations, and is forwarded too. -/
theorem forwarded_to_all {h : Header} {s : State} (ho : offeredInward s h = true) (hs : s.link.station ≠ some h.dest) :
    (forwarding s h).forwarded = true := by
  simp only [offeredInward, Bool.and_eq_true] at ho
  have offered := ho.1
  cases hown : s.link.station with
  | none => simp [forwarding, hown]
  | some own =>
    have hne : h.dest ≠ own := fun e => hs (e ▸ hown)
    by_cases hsrc : h.src = own ∨ retiredNumber s = some h.src
    · rw [forwarding_own hown hsrc] at offered; cases offered
    · simp [forwarding_other hown hsrc, hne]

/-- Settles O11: the duplicate filter, then the test for the manager, then the queue. -/
theorem manageJoinsQueue : Obligations.ManageJoinsQueue := by
  intro p f h r s _ hin hr entry
  have handed : exec (.manage p f) s = .next (handManage f h (forwardVendor p f h s)) :=
    congrArg Host.Outcome.next (takeFrame_inward hin _)
  refine ⟨fun hother => ?_, fun hself => ?_⟩
  · have sent := forwardVendor_directed f hin.received (forwarded_to_all hin.offered hother)
    rw [hin.kind] at sent
    have station : (forwardVendor p f h s).link.station = s.link.station := (Internal.forwardVendor p f h s).outside.station
    refine ⟨_, handed.trans ?_, sent⟩
    simp only [handManage, hr, station, hother, ↓reduceIte]
  · rw [forwardVendor_for_self hin.offered hself] at handed
    simp only [handManage, hr, hself, ↓reduceIte] at handed
    refine ⟨fun hdup => ?_, fun hnew => ?_⟩
    · rw [handed, if_pos (isDuplicate_iff.2 hdup)]
    · have first : isDuplicate s r.src r.tag ≠ true := fun hd => by
        obtain ⟨e, he, hs, ht, hy⟩ := isDuplicate_iff.1 hd
        have := hnew e he hs ht
        omega
      rw [if_neg first] at handed
      refine ⟨fun hdrop => ?_, fun hm hl hw => ?_⟩
      · exact ⟨_, handed.trans (congrArg _ (joinRequests_discarded (s := addDup r.src r.tag s) hdrop)), rfl,
          mem_addDup _ _ _⟩
      · exact ⟨_, handed.trans (congrArg _ (joinRequests_joined (s := addDup r.src r.tag s) hm hl hw)), rfl, rfl, rfl,
          mem_addDup _ _ _⟩

/-! ## SAMPLE -/

/-- R6, R17, R34: the frames that the Intake Unit does not take. -/
theorem handSample_not_taken {f : EthFrame} {h : Header} {s : State}
    (hn : samplePayload h f.body = none ∨ ∃ x, samplePayload h f.body = some x ∧ (subscriptionOf s h.src x.stream = none ∨
      ∃ r, subscriptionOf s h.src x.stream = some r ∧ x.values.length ≠ (s.sub r).count)) : handSample f h s = s := by
  rcases hn with hn | ⟨x, hx, hn | ⟨r, hr, hn⟩⟩
  · simp only [handSample, hn]
  · simp only [handSample, hx, hn]
  · simp only [handSample, hx, hr, hn, ↓reduceIte]

/-- Settles O15. -/
theorem sampleNotTaken : Obligations.SampleNotTaken := by
  intro p f h s hr hc hk hn
  have sent := forwardVendor_forwarded f h hr
  rw [hk] at sent
  refine ⟨_, congrArg Host.Outcome.next (takeFrame_not_taken hr hc hk ?_), sent⟩
  refine hn.imp_right fun hn => ?_
  obtain ⟨l, e⟩ := forwardVendor_eq p f h s
  rw [e]
  exact handSample_not_taken hn

theorem buffered_eq_false {l : List SampleSet} {j : Nat} : buffered l j = false ↔ ∀ y ∈ l, y.index ≠ j := by
  simp [buffered]

theorem State.modStream_stream_same {s : State} {r : Nat} (f : StreamRec → StreamRec) (hr : r < s.intake.streams.length) :
    (modStream r f s).stream r = f (s.stream r) := modAt_getD_same _ _ _ _ hr

theorem State.modStream_stream_other {s : State} {r i : Nat} (f : StreamRec → StreamRec) (hi : i ≠ r) :
    (modStream r f s).stream i = s.stream i := modAt_getD_other _ _ _ _ _ hi

/-- R17: the rows are those of the Subscription Table. -/
theorem subscriptionOf_lt {s : State} {src stream r : Nat} (h : subscriptionOf s src stream = some r) : r < 48 :=
  List.mem_range.1 (List.mem_of_find?_eq_some h)

/-- R20: a set is stored where its index is within 15 of k and not yet buffered. -/
theorem storeSet_buffer (k : Nat) (x : SampleSet) (r : StreamRec) :
    (storeSet k x r).buffer =
      if (x.index + 65536 - k % 65536) % 65536 ≤ 15 ∧ ∀ y ∈ r.buffer, y.index ≠ x.index then r.buffer ++ [x]
      else r.buffer := by
  simp only [← buffered_eq_false]
  unfold storeSet aheadBy
  split <;> rfl

theorem storeSet_state (k : Nat) (x : SampleSet) (r : StreamRec) : (storeSet k x r).state = r.state := by
  unfold storeSet
  split <;> rfl

/-- R17: an IDLE stream becomes ACQUIRING with the arrival of a set. -/
def woken (x : StreamRec) : StreamRec := { x with state := if x.state = .idle then .acquiring else x.state }

/-- What an arrival leaves, once the processing index is set: the streams but `r`, and all but streams and records. -/
structure Arrived (r k : Nat) (x : SampleSet) (s u : State) : Prop where
  frame : u = { s with intake := u.intake, records := u.records }
  intake : u.intake = { s.intake with streams := u.intake.streams }
  others : ∀ i, i ≠ r → u.stream i = s.stream i
  stream : u.stream r = storeSet k x (woken (s.stream r))

/-- R17, R20: an arrival wakes the stream and stores or drops the set. -/
theorem arrive_indexed {r k : Nat} {s : State} (x : SampleSet) (hr : r < s.intake.streams.length)
    (hk : s.intake.k = some k) : Arrived r k x s (arrive r x s) := by
  unfold arrive
  by_cases hidle : (s.stream r).state = .idle
  · obtain ⟨rec, e⟩ := note_eq .stream (modStream r (fun y => { y with state := .acquiring }) s)
    have hk' : (modStream r (fun y => { y with state := .acquiring }) s).intake.k = some k := hk
    simp only [hidle, ↓reduceIte, e, hk']
    refine ⟨rfl, rfl, fun i hi => ?_, ?_⟩
    · exact (State.modStream_stream_other _ hi).trans (State.modStream_stream_other (s := s) _ hi)
    · refine (State.modStream_stream_same _ ?_).trans (congrArg _ ?_)
      · simpa [modStream] using hr
      · refine (State.modStream_stream_same (s := s) _ hr).trans ?_
        simp [woken, hidle]
  · simp only [hidle, ↓reduceIte, hk]
    refine ⟨rfl, rfl, fun i hi => State.modStream_stream_other _ hi, ?_⟩
    rw [State.modStream_stream_same _ hr]
    simp [woken, hidle]

/-- Settles O13. -/
theorem sampleArrivesOnceIndexSet : Obligations.SampleArrivesOnceIndexSet := by
  intro p f h x r k s hs hfor hk
  obtain ⟨l, forwarded⟩ := forwardVendor_eq p f h s
  have hr : r < s.intake.streams.length := hs.streams ▸ subscriptionOf_lt hfor.row
  have arrived := arrive_indexed (s := { s with link := l }) ⟨x.index, x.sync, x.values⟩ hr hk
  rw [forwarded]
  refine ⟨_, congrArg Host.Outcome.next ?_, arrived.frame, arrived.intake, arrived.others, ?_, ?_⟩
  · have row : subscriptionOf { s with link := l } h.src x.stream = some r := hfor.row
    have count : x.values.length = (State.sub { s with link := l } r).count := hfor.count
    rw [takeFrame_inward hfor.inward, forwarded]
    simp only [handSample, hfor.payload, row, count, ↓reduceIte]
  · rw [arrived.stream, storeSet_state]
    rfl
  · rw [arrived.stream, storeSet_buffer]
    rfl

end Sys2Proof.Machine
end

section
/-!
Supply, the warm restart and the end of LOADING (O6, O59).
-/

namespace Sys2Proof.Machine

/-! ## A loss of supply -/

/-- R185: a loss of supply touches the bank being written, and no other part of the memories. -/
theorem lossBanks_nv (s : State) :
    (lossBanks s).nv = { s.nv with bank0 := (lossBanks s).nv.bank0, bank1 := (lossBanks s).nv.bank1 } := by
  unfold lossBanks putBank
  split
  · simp only [State.modNv_nv]
    split <;> rfl
  · rfl

theorem lossBanks_free (s : State) : (lossBanks s).free = s.free := by
  unfold lossBanks
  split <;> rfl

theorem lossBanks_of_no_write {s : State} (h : s.mgmt.write = none) : lossBanks s = s := by
  simp only [lossBanks, h]

/-- R185: with bank 1 being written, bank 0 stands and bank 1 holds no valid image. -/
theorem lossBanks_bank1 {s : State} {w : Writing} (h : s.mgmt.write = some w) (hb : w.bank = true) :
    (lossBanks s).nv.bank0 = s.nv.bank0 ∧ (lossBanks s).nv.bank1 = .damaged w.gen := by
  simp [lossBanks, h, putBank, hb, interruptedBank]

theorem lossBanks_bank0 {s : State} {w : Writing} (h : s.mgmt.write = some w) (hb : w.bank = false) :
    (lossBanks s).nv.bank1 = s.nv.bank1 ∧ (lossBanks s).nv.bank0 = .damaged w.gen := by
  simp [lossBanks, h, putBank, hb, interruptedBank]

/-- R104: an interrupted write of the store touches the copy being written, and no bank. -/
theorem interruptedCopy_keeps (n : Nat) (v : NonVol) (c : LockoutSet) :
    (interruptedCopy n v c).bank0 = v.bank0 ∧ (interruptedCopy n v c).bank1 = v.bank1 ∧
      (v.nextCopy = true → (interruptedCopy n v c).copy0 = v.copy0) ∧
      (v.nextCopy = false → (interruptedCopy n v c).copy1 = v.copy1) := by
  unfold interruptedCopy storeCopy
  split
  · cases v.nextCopy <;> simp
  · split
    · rename_i e; simp [e]
    · rename_i e; simp [e]

theorem lossStore_keeps (s : State) :
    (lossStore s).nv.bank0 = s.nv.bank0 ∧ (lossStore s).nv.bank1 = s.nv.bank1 ∧
      (s.nv.storeWrite = none ∨ s.nv.nextCopy = true → (lossStore s).nv.copy0 = s.nv.copy0) ∧
      (s.nv.storeWrite = none ∨ s.nv.nextCopy = false → (lossStore s).nv.copy1 = s.nv.copy1) := by
  unfold lossStore
  simp only [State.modNv_nv]
  cases h : s.nv.storeWrite with
  | none => exact ⟨rfl, rfl, fun _ => rfl, fun _ => rfl⟩
  | some c =>
    obtain ⟨h0, h1, h2, h3⟩ := interruptedCopy_keeps s.free s.nv c
    exact ⟨h0, h1, fun e => h2 (e.resolve_left (by simp)), fun e => h3 (e.resolve_left (by simp))⟩

/-- The memories after a loss of supply: the banks are those of R185, the copies those of R104. -/
theorem volatileLost_nv (b : Bool) (s : State) :
    (volatileLost b s).nv.bank0 = (lossBanks s).nv.bank0 ∧ (volatileLost b s).nv.bank1 = (lossBanks s).nv.bank1 ∧
      (s.nv.storeWrite = none ∨ s.nv.nextCopy = true → (volatileLost b s).nv.copy0 = s.nv.copy0) ∧
      (s.nv.storeWrite = none ∨ s.nv.nextCopy = false → (volatileLost b s).nv.copy1 = s.nv.copy1) := by
  have keeps := lossStore_keeps (lossBanks s)
  rw [lossBanks_nv s] at keeps
  exact keeps

theorem reset_slot (n : Nat) : State.reset.slot n = {} := by
  by_cases h : n < 25
  · exact List.getD_replicate _ h
  · exact List.getD_eq_default _ _ (by simpa [State.reset] using h)

/-- Settles O6. -/
theorem supplyComesAndGoes : Obligations.SupplyComesAndGoes := by
  refine ⟨⟨fun s hs hw hsw => ?_, fun s hs hrun => ?_⟩, fun s hs => ?_⟩
  · obtain ⟨h0, h1, h2, h3⟩ := volatileLost_nv true s
    rw [lossBanks_of_no_write hw] at h0 h1
    exact ⟨volatileLost true s, congrArg Host.Outcome.next (if_neg (by simp [hs])), rfl, rfl, rfl, rfl, rfl, rfl, rfl, rfl,
      h0, h1, h2 (.inl hsw), h3 (.inl hsw)⟩
  · refine ⟨linkReady s, congrArg Host.Outcome.next (if_pos ⟨hs, hrun⟩), rfl, rfl, rfl, rfl, rfl, fun p => ?_⟩
    cases p <;> exact ⟨rfl, rfl, rfl, rfl, rfl⟩
  · obtain ⟨h0, h1, h2, h3⟩ := volatileLost_nv false s
    refine ⟨volatileLost false s, congrArg Host.Outcome.next (if_pos hs), rfl, rfl, rfl, rfl, rfl, rfl, fun n => ?_,
      fun w hw hb => ?_, fun w hw hb => ?_, fun w hw => ?_, fun hw => ?_, h2, h3⟩
    · exact congrArg ArbSlot.lineOn (reset_slot n)
    · exact h0.trans (lossBanks_bank1 hw hb).1
    · exact h1.trans (lossBanks_bank0 hw hb).1
    · cases hb : w.bank with
      | true => simp only [↓reduceIte, h1, (lossBanks_bank1 hw hb).2, bankValid]
      | false => simp only [Bool.false_eq_true, ↓reduceIte, h0, (lossBanks_bank0 hw hb).2, bankValid]
    · rw [lossBanks_of_no_write hw] at h0 h1
      exact ⟨h0, h1⟩

/-! ## Taking a request that passes -/

/-- R174: a request that may be taken and passes the tests leaves the queue and is carried out. -/
theorem takeKind_taken {k : Kind} {r : Request} {rest : List Request} {s : State} (h : Taken k r rest s)
    (act : Request → State → State) : takeKind k act s = settleQueue (act r (setRequests rest s)) := by
  obtain ⟨rights, hr, hi⟩ := h.rights
  have asked : managerRights (setRequests rest s) r.src = some rights := hr
  have allowed : takenNow k (setRequests rest s).mgmt.part = true := h.state
  simp only [takeKind, h.head, h.free, h.kind, testRequest, asked, h.shape, hi, allowed, h.numbered, and_self, ↓reduceIte,
    Bool.true_eq_false]

/-! ## Restoring the lockouts -/

/-- R171: nothing is reported without a Site Record in force. -/
theorem note_of_no_site {s : State} (c : NoticeClass) (h : s.siteInForce = false) : note c s = s := by
  simp [note, h]

theorem note_queue (c : NoticeClass) (s : State) : (note c s).records.queue = s.records.queue := by
  unfold note
  split <;> rfl

/-- R104: the lockouts put in force are those of the set, when it has one for each slot. -/
theorem lockoutsInForce_apply {x : LockoutSet} {s : State} (h : x.slots.length = s.arb.slots.length) :
    lockoutsInForce (applyLockouts x s) = x := by
  have slots : (s.arb.slots.mapIdx fun i y => { y with lock := x.slots.getD i {} }).map (fun a => a.lock) = x.slots := by
    refine List.ext_getElem (by simp [h]) fun i h1 h2 => ?_
    simp [h2]
  simp only [lockoutsInForce, applyLockouts, State.modArb_arb, slots]

/-- `t` is `s` with its lockouts restored, or the restore noted as waiting: the banks and copies stand, and all but the
Arbiter, the state of the store and the pending notices. -/
structure Restored (s t : State) : Prop where
  frame : t = { s with arb := t.arb, records := t.records, nv := t.nv }
  bank0 : t.nv.bank0 = s.nv.bank0
  bank1 : t.nv.bank1 = s.nv.bank1
  copy0 : t.nv.copy0 = s.nv.copy0
  copy1 : t.nv.copy1 = s.nv.copy1
  noticed : s.siteInForce = false → t.records = s.records
  lockouts : s.nv.storeWrite = none → ∀ g c one, takenCopy s.nv = some (g, c, one) →
    c.slots.length = s.arb.slots.length → lockoutsInForce t = c

theorem readStore_restored (s : State) : Restored s (readStore s) := by
  unfold readStore
  split
  · rename_i g c one e
    refine ⟨rfl, rfl, rfl, rfl, rfl, fun _ => rfl, fun _ g' c' one' e' hc => ?_⟩
    cases e.symm.trans e'
    exact lockoutsInForce_apply hc
  · rename_i e
    exact ⟨rfl, rfl, rfl, rfl, rfl, fun _ => rfl, fun _ g' c' one' e' => by cases e.symm.trans e'⟩

theorem restoreLockouts_restored (s : State) : Restored s (restoreLockouts s) := by
  unfold restoreLockouts
  split
  · rename_i hw
    exact ⟨rfl, rfl, rfl, rfl, rfl, fun _ => rfl, fun h => by simp [h] at hw⟩
  · have read := readStore_restored s
    unfold restoreNow
    split
    · exact read
    · obtain ⟨rec, e⟩ := note_eq .lockout (readStore s)
      have quiet : s.siteInForce = false → (note .lockout (readStore s)).records = s.records := fun h => by
        have h' : (readStore s).siteInForce = false := by rw [read.frame]; exact h
        rw [note_of_no_site _ h', read.noticed h]
      have lockouts := read.lockouts
      rw [e] at quiet ⊢
      refine ⟨?_, read.bank0, read.bank1, read.copy0, read.copy1, quiet, lockouts⟩
      conv_lhs => rw [read.frame]

/-! ## The warm restart -/

theorem closeRecords_queue (oc : EntryOutcome) (s : State) :
    (closeRecords oc s).records.queue = s.records.queue.map (closeRecord oc) := by
  unfold closeRecords
  dsimp only
  split
  · simp only [recordEvent, note_queue, State.modRecords_records]
  · rfl

theorem closeRecord_complete (oc : EntryOutcome) (r : Record) : (closeRecord oc r).complete = true := by
  unfold closeRecord
  split
  · assumption
  · rfl

theorem closeRecords_eq (oc : EntryOutcome) (s : State) : ∃ r, closeRecords oc s = { s with records := r } := by
  unfold closeRecords recordEvent
  dsimp only
  split
  · obtain ⟨r, e⟩ := note_eq .record ((s.modRecords fun x =>
      { x with queue := x.queue.map (closeRecord oc), bfView := List.replicate 25 .idle }).modRecords fun x =>
        { x with lastEvent := some (Record.number ‹_›, .completed) })
    exact ⟨r, e⟩
  · exact ⟨_, rfl⟩

/-- The state in which a warm restart restores the lockouts. -/
def restarted (s : State) : State :=
  { s with
    link := restartLink s.link, intake := {}, meas := {}, prot := {}, seqs := {}, par := {}, mail := []
    arb := { s.arb with slots := s.arb.slots.map fun x => { lock := x.lock } }
    mgmt := restartMgmt s.mgmt }

theorem warmRestart_eq (s : State) : warmRestart s = restoreLockouts (restarted (restartRecords s)) := rfl

theorem restartLink_port (l : Link) (p : Port) : portOf (restartLink l) p = dropOwn (portOf l p) := by cases p <;> rfl

/-- R171: at a warm restart every record is complete and nothing is pending. -/
theorem restartRecords_eq (s : State) : ∃ r, restartRecords s = { s with records := r } ∧ r.pendingNotices = [] ∧
    ∀ x ∈ r.queue, x.complete = true := by
  obtain ⟨r, e⟩ := closeRecords_eq .abandoned s
  have queue := closeRecords_queue .abandoned s
  unfold restartRecords
  rw [e] at queue ⊢
  refine ⟨_, rfl, rfl, fun x hx => ?_⟩
  have hx' : x ∈ r.queue := hx
  rw [show r.queue = _ from queue] at hx'
  obtain ⟨y, _, rfl⟩ := List.mem_map.1 hx'
  exact closeRecord_complete _ y

/-- R14: the queues keep the frames that were forwarded, in their order. -/
theorem dropOwn_eq (a : PortState) :
    dropOwn a =
      let forwarded := fun (l : List QFrame) => l.filter fun x => match x with
        | .fwd _ => true
        | .own _ => false
      { a with urgent := forwarded a.urgent, stream := forwarded a.stream, bulk := forwarded a.bulk } := by
  have same : (fun x => !isOwn x) = fun (x : QFrame) => match x with
      | .fwd _ => true
      | .own _ => false := by
    funext x
    cases x <;> rfl
  simp only [dropOwn, same]

/-! ## The end of LOADING -/

theorem setStation_eq (n : Nat) (s : State) :
    ∃ l, setStation n s = { s with link := l } ∧ l.station = some n ∧ l.running = s.link.running := by
  refine ⟨(setStation n s).link, rfl, ?_, ?_⟩
  · simp only [setStation, State.modLink_link]
    split
    · split
      · rename_i e; rw [← e]; assumption
      · rfl
    · rfl
  · simp only [setStation, State.modLink_link]
    split
    · split <;> rfl
    · rfl

/-- The state in which an image taken comes into force, before the messages are delivered. -/
def loadedImage (im : Image) (one : Bool) (s : State) : State :=
  let s := s.modMgmt fun m =>
    { m with image := some im, goodBank := some one
             lastGen := max m.lastGen (max (bankGen s.nv.bank0) (bankGen s.nv.bank1)) }
  let s := setStation (s.site.station.getD commissioningNumber) s
  let s := refreshThresholds (s.modProt fun p => { p with active := im.group })
  enterService ((seqsAtService none s).modPar fun p => { p with voltWin := voltWindow s })

theorem loadImage_eq (im : Image) (one : Bool) (s : State) : loadImage im one s = finish (loadedImage im one s) := rfl

/-- R180: what stands as an image taken comes into force. -/
structure Loaded (im : Image) (one : Bool) (s t : State) : Prop where
  part : t.mgmt.part = .service true
  image : t.mgmt.image = some im
  group : t.prot.active = im.group
  serviceAt : t.mgmt.serviceAt = some s.now
  goodBank : t.mgmt.goodBank = some one
  station : t.link.station = some (im.tables.site.station.getD 65534)
  restart : t.mgmt.restart = s.mgmt.restart
  lockouts : lockoutsInForce t = lockoutsInForce s

theorem loadedImage_loaded (im : Image) (one : Bool) (s : State) : Loaded im one s (loadedImage im one s) := by
  unfold loadedImage enterService setPart
  obtain ⟨l, e, hl, _⟩ := setStation_eq (im.tables.site.station.getD commissioningNumber) (s.modMgmt fun m =>
    { m with image := some im, goodBank := some one
             lastGen := max m.lastGen (max (bankGen s.nv.bank0) (bankGen s.nv.bank1)) })
  have site : (s.modMgmt fun m =>
      { m with image := some im, goodBank := some one
               lastGen := max m.lastGen (max (bankGen s.nv.bank0) (bankGen s.nv.bank1)) }).site = im.tables.site := rfl
  dsimp only
  rw [site, e]
  generalize hw : State.modMgmt (State.modMgmt _ _) _ = w
  obtain ⟨rec, e'⟩ := note_eq .sequencer w
  rw [e', ← hw]
  exact ⟨rfl, rfl, rfl, rfl, rfl, hl, rfl, rfl⟩

/-- R180: a part in which no bank is valid. -/
theorem loadNothing_unconfigured (s : State) : (loadNothing s).mgmt.part = .unconfigured ∧
    (loadNothing s).mgmt.image = none ∧ (loadNothing s).link.station = some 65534 ∧
    (loadNothing s).mgmt.restart = s.mgmt.restart ∧ lockoutsInForce (loadNothing s) = lockoutsInForce s := by
  unfold loadNothing
  obtain ⟨l, e, hl, _⟩ := setStation_eq commissioningNumber ((s.modMgmt fun m =>
    { m with image := none, goodBank := none, part := .unconfigured
             lastGen := max m.lastGen (max (bankGen s.nv.bank0) (bankGen s.nv.bank1)) }).modProt fun p =>
      { p with active := .a })
  dsimp only
  rw [e]
  exact ⟨rfl, rfl, hl, rfl, rfl⟩

theorem finish_restart (s : State) : (finish s).mgmt.restart = s.mgmt.restart := by rw [(finish_outside s).mgmt]

/-- What a command on a loaded image leaves as the messages are delivered. -/
theorem Loaded.finish {im : Image} {one : Bool} {s t : State} (h : Loaded im one s t) :
    (finish t).inService = true ∧ (finish t).mgmt.image = some im ∧ (finish t).prot.active = im.group ∧
      (finish t).mgmt.serviceAt = some s.now ∧ (finish t).mgmt.goodBank = some one ∧
      (finish t).link.station = some (im.tables.site.station.getD 65534) := by
  have out := finish_outside t
  refine ⟨?_, out.image.trans h.image, (congrArg Prot.active out.prot).trans h.group, ?_, ?_, out.station.trans h.station⟩
  · rcases out.part with e | ⟨_, e⟩
    · simp [State.inService, e, h.part]
    · simp [State.inService, e]
  · rw [out.mgmt]; exact h.serviceAt
  · rw [out.mgmt]; exact h.goodBank

/-- The state at the end of LOADING, before the requester of a restart is answered. -/
def loadingEnded (s : State) : State :=
  match takenImage s.nv with
  | some (_, im, one) => loadImage im one (restoreLockouts s)
  | none => loadNothing (restoreLockouts s)

theorem answerRestart_none {s : State} (h : s.mgmt.restart = none) : answerRestart s = s := by
  simp only [answerRestart, h]

/-- R186: a requester recorded is answered, and cleared. -/
theorem answerRestart_some {s : State} {src tag : Nat} (h : s.mgmt.restart = some (src, tag)) : answerRestart s =
    answer src tag 23 .done .nothing { s with mgmt := { s.mgmt with restart := none } } := by
  simp only [answerRestart, h]
  rfl

theorem takenImage_restored {s t : State} (h : Restored s t) : takenImage t.nv = takenImage s.nv := by
  rw [takenImage, takenImage, h.bank0, h.bank1]

theorem loadingEnded_restart (s : State) : (loadingEnded s).mgmt.restart = s.mgmt.restart := by
  have restored := restoreLockouts_restored s
  have kept : (restoreLockouts s).mgmt = s.mgmt := by rw [restored.frame]
  unfold loadingEnded
  split
  · rw [loadImage_eq, finish_restart, (loadedImage_loaded _ _ _).restart, kept]
  · obtain ⟨_, _, _, hr, _⟩ := loadNothing_unconfigured (restoreLockouts s)
    rw [hr, kept]

theorem endLoading_eq (s : State) : endLoading s = answerRestart (loadingEnded s) := by
  have same := takenImage_restored (restoreLockouts_restored s)
  cases h : takenImage s.nv with
  | none => simp only [endLoading, loadingEnded, same.trans h, h]
  | some x => simp only [endLoading, loadingEnded, same.trans h, h]

/-- Settles O59: a restart is recorded; its lockouts are restored in the state it leaves; at the end of LOADING they are
restored before the image comes into force, and no act of an image changes them until messages are delivered. -/
theorem restartAndLoading : Obligations.RestartAndLoading := by
  intro s hs restored
  have now : (restoreLockouts s).now = s.now := by rw [(restoreLockouts_restored s).frame]
  have lockouts : restored (restoreLockouts s) := fun h g c one e hc =>
    (restoreLockouts_restored s).lockouts h g c one e (hc.trans hs.slots.symm)
  refine ⟨fun r rest h => ?_, fun _ hw => ?_, fun hr hw hp => ?_, fun hrun hp => ?_⟩
  · refine ⟨_, congrArg Host.Outcome.next ((takeKind_taken h _).trans (settleQueue_of_headWaits (.inl ?_))), rfl, rfl⟩
    simp [unitFree]
  · have held : restartDue s = false := by
      simp only [restartDue, Bool.and_eq_false_iff, Option.isNone_eq_false_iff, Option.isSome_iff_ne_none]
      exact .inl (.inr hw)
    exact congrArg Host.Outcome.next (if_neg (by simp [held]))
  · have dueNow : restartDue s = true := by
      simp only [restartDue, Bool.and_eq_true, Option.isSome_iff_ne_none, Option.isNone_iff_eq_none, decide_eq_true_eq]
      exact ⟨⟨hr, hw⟩, hp⟩
    obtain ⟨rec, erec, pending, complete⟩ := restartRecords_eq s
    have back := restoreLockouts_restored (restarted (restartRecords s))
    rw [← warmRestart_eq, erec] at back
    have records : (warmRestart s).records = rec := back.noticed (by simp [State.siteInForce, restarted, restartMgmt])
    have mgmt : (warmRestart s).mgmt = restartMgmt s.mgmt := congrArg State.mgmt back.frame
    have link : (warmRestart s).link = restartLink s.link := congrArg State.link back.frame
    refine ⟨warmRestart s, congrArg Host.Outcome.next (if_pos dueNow), ?_⟩
    rw [mgmt, link, records]
    refine ⟨rfl, rfl, rfl, rfl, rfl, rfl, rfl, rfl, fun p => (restartLink_port _ p).trans (dropOwn_eq _),
      congrArg State.intake back.frame, congrArg State.meas back.frame, congrArg State.prot back.frame,
      congrArg State.par back.frame, complete, pending, back.bank0, back.bank1, back.copy0,
      back.copy1, fun h g c one e hc => back.lockouts h g c one e ?_⟩
    rw [hc, ← hs.slots]
    exact (List.length_map _).symm
  · have ends : loadingHolds s = true := by simp [loadingHolds, hrun, hp]
    refine ⟨loadingEnded s, congrArg Host.Outcome.next ((if_pos ends).trans ?_), fun none => ?_, fun g im one taken => ?_⟩
    · have asked := loadingEnded_restart s
      rw [endLoading_eq]
      cases hr : s.mgmt.restart with
      | none => exact answerRestart_none (asked.trans hr)
      | some x => exact answerRestart_some (asked.trans hr)
    · obtain ⟨hpart, him, hst, _, hl⟩ := loadNothing_unconfigured (restoreLockouts s)
      have e : loadingEnded s = loadNothing (restoreLockouts s) := by simp only [loadingEnded, none]
      rw [e]
      exact ⟨hpart, him, hst, fun h g c one e hc => hl.trans (lockouts h g c one e hc)⟩
    · have e : loadingEnded s = finish (loadedImage im one (restoreLockouts s)) := by
        simp only [loadingEnded, taken, loadImage_eq]
      have loaded := loadedImage_loaded im one (restoreLockouts s)
      obtain ⟨hsv, him, hg, hat, hgood, hst⟩ := loaded.finish
      rw [e]
      exact ⟨hsv, him, hg, hat.trans (congrArg some now), hgood, hst, _, rfl, fun h g c one e hc =>
        loaded.lockouts.trans (lockouts h g c one e hc)⟩

end Sys2Proof.Machine
end

section
/-!
The idle tick (O2): each condition of a due command in the words of its rule, the list of due commands against `DueNow`, and
its order. `DueNow` and the list name the same conditions; that no command is listed twice comes from the list in which
every condition stands.
-/

namespace Sys2Proof.Machine

/-! ## The conditions, each by its own rule -/

theorem retiredDue_iff {s : State} :
    retiredDue s = true ↔ ∃ n since, s.link.retired = some (n, since) ∧ since + 1000000 ≤ s.now := by
  unfold retiredDue
  cases s.link.retired with
  | none => simp
  | some x => simp only [decide_eq_true_eq, Option.some.injEq]; exact ⟨fun h => ⟨_, _, rfl, h⟩, fun ⟨_, _, e, h⟩ => e ▸ h⟩

theorem dupDue_iff {s : State} : dupDue s = true ↔ ∃ e ∈ s.link.dup, e.arrival + 500000 ≤ s.now := by
  simp only [dupDue, List.any_eq_true, decide_eq_true_eq]
  rfl

theorem fallbackDue_iff {s : State} : fallbackDue s = true ↔ s.blocksRun = true ∧ ∃ k last, s.intake.k = some k ∧
    s.intake.lastProc = some last ∧ last + (if s.fNom = 60 then 2083 else 2500) ≤ s.now := by
  unfold fallbackDue
  cases s.intake.k <;> cases s.intake.lastProc <;> simp
  exact fun _ => Iff.rfl

theorem repeatDue_iff {s : State} {n : Nat} : repeatDue s n = true ↔
    ∃ o, (s.slot n).order = some o ∧ o.phase = .issued ∧ o.nextRepeat ≤ s.now := by
  unfold repeatDue
  cases (s.slot n).order <;> simp

/-- R96: the order of a slot, when it is ISSUED and of a type. -/
theorem issuedOf_eq_some {s : State} {n : Nat} {t : OrdType} {o : Order} :
    issuedOf s n t = some o ↔ (s.slot n).order = some o ∧ o.phase = .issued ∧ o.type = t := by
  unfold issuedOf
  cases (s.slot n).order with
  | none => simp
  | some x =>
    dsimp only
    split
    · rename_i h
      simp only [Option.some.injEq]
      exact ⟨fun e => ⟨e, e ▸ h⟩, fun e => e.1⟩
    · rename_i h
      simp only [reduceCtorEq, Option.some.injEq, false_iff]
      rintro ⟨rfl, h'⟩
      exact h h'

theorem limitPassed_iff {s : State} {o : Order} {limit : Nat} :
    limitPassed s o limit = true ↔ ∃ t, o.issueTime = some t ∧ t + limit * 1000 ≤ s.now := by
  unfold limitPassed
  cases o.issueTime with
  | none => simp
  | some t => simp only [decide_eq_true_eq, Option.some.injEq, exists_eq_left']; rfl

/-- R96: what an expiry of either limit finds. -/
theorem pastLimit_iff {s : State} {n limit : Nat} {type : OrdType} (hn : n < 25) :
    (∃ o, issuedOf s n type = some o ∧ limitPassed s o limit = true) ↔ ∃ o t, PastLimit n type limit o t s := by
  simp only [issuedOf_eq_some, limitPassed_iff]
  constructor
  · rintro ⟨o, ⟨ho, hp, ht⟩, t, hi, hd⟩; exact ⟨o, t, hn, ho, ht, hp, hi, hd⟩
  · rintro ⟨o, t, h⟩; exact ⟨o, ⟨h.order, h.phase, h.type⟩, t, h.time, h.due⟩

theorem openLimitDue_iff {s : State} {n : Nat} (hn : n < 25) :
    openLimitDue s n = true ↔ ∃ o t, PastLimit n .opn (s.brk n).openLimit o t s := by
  rw [← pastLimit_iff hn]
  unfold openLimitDue
  cases issuedOf s n .opn <;> simp

theorem closeLimitDue_iff {s : State} {n : Nat} (hn : n < 25) :
    closeLimitDue s n = true ↔ ∃ o t, PastLimit n .close (s.brk n).closeLimit o t s := by
  rw [← pastLimit_iff hn]
  unfold closeLimitDue
  cases issuedOf s n .close <;> simp

theorem withdrawDue_iff {s : State} {n : Nat} :
    withdrawDue s n = true ↔ ∃ w, (s.slot n).withdraw = some w ∧ w.next ≤ s.now := by
  unfold withdrawDue
  cases (s.slot n).withdraw <;> simp

theorem travelDue_iff {s : State} {n : Nat} : travelDue s n = true ↔ (s.slot n).position = .travel ∧
    ∃ t, (s.slot n).travelAt = some t ∧ t + max (s.brk n).openLimit (s.brk n).closeLimit * 1000 ≤ s.now := by
  unfold travelDue
  split
  · rename_i t hp ht
    simp only [decide_eq_true_eq, hp, ht, Option.some.injEq, exists_eq_left', true_and]
    rfl
  · rename_i h
    simp only [Bool.false_eq_true, false_iff]
    rintro ⟨hp, t, ht, _⟩
    exact h t hp ht

theorem silenceDue_iff {s : State} {n : Nat} : silenceDue s n = true ↔ (s.brk n).present = true ∧
    ∃ t, (s.slot n).lastFrame = some t ∧ t + 50000 ≤ s.now := by
  unfold silenceDue
  cases (s.slot n).lastFrame with
  | none => simp
  | some t => simp only [Bool.and_eq_true, decide_eq_true_eq, Option.some.injEq, exists_eq_left']; rfl

theorem windowDue_iff {s : State} {n : Nat} :
    windowDue s n = true ↔ ∃ type t, (s.slot n).window = some (type, t) ∧ t + 500000 ≤ s.now := by
  unfold windowDue
  cases (s.slot n).window with
  | none => simp
  | some x => simp only [decide_eq_true_eq, Option.some.injEq]; exact ⟨fun h => ⟨_, _, rfl, h⟩, fun ⟨_, _, e, h⟩ => e ▸ h⟩

/-- R106: no open with cause PROT or BFT is in service. -/
theorem protectiveOpen_eq_false {a : ArbSlot} : protectiveOpen a = false ↔
    ∀ o, a.order = some o → o.type = .opn → .prot ∉ o.causes ∧ .bft ∉ o.causes := by
  unfold protectiveOpen
  cases a.order with
  | none => simp
  | some o =>
    simp only [Bool.and_eq_false_iff, decide_eq_false_iff_not, List.any_eq_false, Option.some.injEq, forall_eq',
      ← imp_iff_not_or]
    refine imp_congr_right fun _ => ⟨fun h => ⟨fun hm => h _ hm rfl, fun hm => h _ hm rfl⟩, fun h x hx hp => ?_⟩
    cases x <;> simp_all [protective]

theorem lineReleasable_iff {s : State} {n : Nat} : lineReleasable s n = true ↔
    ∃ t, (s.slot n).lineOn = some t ∧ t + 100000 ≤ s.now ∧
      ∀ o, (s.slot n).order = some o → o.type = .opn → .prot ∉ o.causes ∧ .bft ∉ o.causes := by
  rw [← protectiveOpen_eq_false]
  unfold lineReleasable
  cases (s.slot n).lineOn with
  | none => simp
  | some t =>
    simp only [Bool.and_eq_true, decide_eq_true_eq, Bool.not_eq_true', Option.some.injEq, exists_eq_left']
    rfl

theorem syncWaitDue_iff {s : State} {n : Nat} :
    syncWaitDue s n = true ↔ ∃ t, waitingSince s n = some t ∧ t + s.tbl.par.syncWait * 1000000 ≤ s.now := by
  unfold syncWaitDue
  cases waitingSince s n with
  | none => simp
  | some t => simp only [decide_eq_true_eq, Option.some.injEq, exists_eq_left']; rfl

/-- R189: the move that is due, and of which type it is. -/
theorem moveDue_eq_some {s : State} {n : Nat} {t : OrdType} : moveDue s n = some t ↔ s.mgmt.mode = .loop ∧
    ∃ e due, s.emuOf n = some e ∧ e.move = some (t, due) ∧ due ≤ s.now := by
  unfold moveDue
  split
  · rename_i e hm he
    cases hmove : e.move with
    | none => simp [he, hmove]
    | some x =>
      obtain ⟨t', due⟩ := x
      dsimp only
      constructor
      · intro h
        split at h
        · cases h; exact ⟨hm, e, due, he, hmove, ‹_›⟩
        · cases h
      · rintro ⟨_, e', due', he', hmove', hd⟩
        cases he.symm.trans he'
        cases hmove.symm.trans hmove'
        exact if_pos hd
  · rename_i h
    simp only [reduceCtorEq, false_iff]
    rintro ⟨hm, e, _, he, _⟩
    exact h e hm he

theorem statusLossDue_iff {s : State} {k : Nat} : statusLossDue s k = true ↔ ∃ t, s.mgmt.serviceAt = some t ∧
    s.blocksRun = true ∧ (s.genRow k).present = true ∧ (s.gen k).lost = false ∧
      max t ((s.gen k).lastStat.getD t) + 1000000 ≤ s.now := by
  unfold statusLossDue
  cases s.mgmt.serviceAt with
  | none => simp
  | some t =>
    simp only [Bool.and_eq_true, decide_eq_true_eq, Bool.not_eq_true', Option.some.injEq, exists_eq_left', and_assoc]
    rfl

theorem noticeDue_iff {s : State} : noticeDue s = true ↔ (∃ c, c ∈ s.records.pendingNotices) ∧
    ∀ t, s.records.lastSend = some t → t + 10000 ≤ s.now := by
  unfold noticeDue
  rw [Bool.and_eq_true, Bool.not_eq_true', List.isEmpty_eq_false_iff_exists_mem]
  refine and_congr_right fun _ => ?_
  cases s.records.lastSend with
  | none => simp
  | some t => simp only [decide_eq_true_eq, Option.some.injEq, forall_eq']; rfl

theorem unitFree_iff {s : State} :
    unitFree s = true ↔ s.mgmt.restart = none ∧ s.mgmt.discard = none ∧ s.mgmt.part ≠ .loading := by
  simp [unitFree, and_assoc]

theorem mem_dueRequest {s : State} {c : Instr} : c ∈ dueRequest s ↔
    unitFree s = true ∧ ∃ r rest, s.mgmt.requests = r :: rest ∧ c ∈ requestRow r.kind := by
  unfold dueRequest
  split
  · rename_i r rest hf hr
    simp only [hf, hr, true_and, List.cons.injEq]
    exact ⟨fun h => ⟨r, rest, ⟨rfl, rfl⟩, h⟩, fun ⟨_, _, ⟨rfl, rfl⟩, h⟩ => h⟩
  · rename_i h
    simp only [List.not_mem_nil, false_iff]
    rintro ⟨hf, r, rest, hr, _⟩
    exact h r rest hf hr

/-! ## The list of due commands -/

theorem due_of_slot {s : State} {n : Nat} {c : Instr} (hn : n < 25) (h : c ∈ dueAtSlot s n) : DueNow s c := by
  simp only [dueAtSlot, List.mem_append, mem_ifDue] at h
  rcases h with (((((((((⟨h, rfl⟩ | ⟨h, rfl⟩) | ⟨h, rfl⟩) | ⟨h, rfl⟩) | ⟨h, rfl⟩) | ⟨h, rfl⟩) | ⟨h, rfl⟩) | ⟨h, rfl⟩) |
    ⟨h, rfl⟩) | ⟨h, rfl⟩)
  · obtain ⟨o, ho, hp, hr⟩ := repeatDue_iff.1 h
    exact .orderRepeat n o hn ho hp hr
  · obtain ⟨o, t, hl⟩ := (openLimitDue_iff hn).1 h
    exact .openLimit n t o hl
  · obtain ⟨o, t, hl⟩ := (closeLimitDue_iff hn).1 h
    exact .closeLimit n t o hl
  · obtain ⟨w, hw, hd⟩ := withdrawDue_iff.1 h
    exact .withdraw n w hn hw hd
  · obtain ⟨hp, t, ht, hd⟩ := travelDue_iff.1 h
    exact .travel n t hn hp ht hd
  · obtain ⟨hp, t, ht, hd⟩ := silenceDue_iff.1 h
    exact .silence n t hn hp ht hd
  · obtain ⟨type, t, hw, hd⟩ := windowDue_iff.1 h
    exact .window n t type hn hw hd
  · obtain ⟨t, ht, hd, ho⟩ := lineReleasable_iff.1 h
    exact .line n t hn ht hd ho
  · obtain ⟨t, ht, hd⟩ := syncWaitDue_iff.1 h
    exact .syncWait n t hn ht hd
  · obtain ⟨t, ht⟩ := Option.isSome_iff_exists.1 h
    obtain ⟨hm, e, due, he, hmove, hd⟩ := moveDue_eq_some.1 ht
    exact .move n due t e hn hm he hmove hd

theorem due_of_seq {s : State} {q : SeqId} {c : Instr} (h : c ∈ dueAtSeq s q) : DueNow s c := by
  simp only [dueAtSeq, List.mem_append, mem_ifDue, startupDue, lossDue, deadDue, retransferDue, parallelDue, softDue,
    restoreDue, Bool.and_eq_true, Bool.or_eq_true, decide_eq_true_eq, timerDue_iff, Option.isNone_iff_eq_none] at h
  rcases h with ((((((⟨⟨⟨hs, hi⟩, t, ht, hd⟩, rfl⟩ | ⟨⟨hs, t, ht, hd⟩, rfl⟩) | ⟨⟨hs, t, ht, hd⟩, rfl⟩) |
    ⟨⟨hs, t, ht, hd⟩, rfl⟩) | ⟨⟨hs, t, ht, hd⟩, rfl⟩) | ⟨⟨hs, t, ht, hd⟩, rfl⟩) | ⟨⟨hs, t, ht, hd⟩, rfl⟩)
  · exact .startup q t hs hi ht hd
  · exact .loss q t hs ht hd
  · exact .dead q t (by simpa only [or_assoc] using hs) ht hd
  · exact .retransfer q t hs ht hd
  · exact .parallel q t hs ht hd
  · exact .softLimit q t hs ht hd
  · exact .restore q t hs ht hd

/-- Every command listed is due by its own rule. -/
theorem dueNow_of_mem {s : State} {c : Instr} (h : c ∈ due s) : DueNow s c := by
  simp only [due, List.mem_append, List.mem_flatMap, mem_ifDue, mem_allSlots, mem_allGens] at h
  rcases h with ((((((((((((⟨h, rfl⟩ | ⟨h, rfl⟩) | ⟨h, rfl⟩) | ⟨n, hn, h⟩) | h) | h) | ⟨h, rfl⟩) | ⟨h, rfl⟩) |
    ⟨k, ⟨h1, h8⟩, h, rfl⟩) | ⟨h, rfl⟩) | h) | ⟨h, rfl⟩) | ⟨h, rfl⟩)
  · obtain ⟨n, since, hr, hd⟩ := retiredDue_iff.1 h
    exact .retiredNumber n since hr hd
  · obtain ⟨e, he, hd⟩ := dupDue_iff.1 h
    exact .duplicate e he hd
  · obtain ⟨hb, k, last, hk, hl, hd⟩ := fallbackDue_iff.1 h
    exact .fallback k last hb hk hl hd
  · exact due_of_slot hn h
  · exact due_of_seq h
  · exact due_of_seq h
  · obtain ⟨t, ht, hd⟩ := timerDue_iff.1 h
    exact .inhibit t ht hd
  · obtain ⟨t, ht, hd⟩ := timerDue_iff.1 h
    exact .stop t ht hd
  · obtain ⟨t, ht, hb, hp, hl, hd⟩ := statusLossDue_iff.1 h
    exact .status k t h1 h8 ht hb hp hl hd
  · obtain ⟨hs, hn⟩ := Bool.and_eq_true_iff.1 h
    obtain ⟨⟨c, hc⟩, hd⟩ := noticeDue_iff.1 hn
    exact .notice c hs hc hd
  · obtain ⟨hf, r, rest, hr, hc⟩ := mem_dueRequest.1 h
    obtain ⟨h1, h2, h3⟩ := unitFree_iff.1 hf
    exact .request r rest c hr h1 h2 h3 hc
  · simp only [discardDue, Bool.and_eq_true, Option.isSome_iff_exists, Option.isNone_iff_eq_none] at h
    obtain ⟨⟨x, hx⟩, hw⟩ := h
    exact .discardRead x hx hw
  · simp only [restartDue, Bool.and_eq_true, Option.isSome_iff_exists, Option.isNone_iff_eq_none, decide_eq_true_eq] at h
    obtain ⟨⟨⟨x, hx⟩, hw⟩, hp⟩ := h
    exact .restart x hx hw hp

theorem mem_due_of_slot {s : State} {n : Nat} {c : Instr} (hn : n < 25) (h : c ∈ dueAtSlot s n) : c ∈ due s := by
  have : c ∈ allSlots.flatMap (dueAtSlot s) := List.mem_flatMap.2 ⟨n, mem_allSlots.2 hn, h⟩
  simp only [due, List.mem_append, this, true_or, or_true]

theorem mem_due_of_seq {s : State} {q : SeqId} {c : Instr} (h : c ∈ dueAtSeq s q) : c ∈ due s := by
  cases q <;> simp only [due, List.mem_append, h, true_or, or_true]

/-- Every command that is due by its own rule is listed. -/
theorem mem_due {s : State} {c : Instr} (h : DueNow s c) : c ∈ due s := by
  cases h with
  | retiredNumber n since hr hd => simp [due, retiredDue_iff.2 ⟨n, since, hr, hd⟩]
  | duplicate e he hd => simp [due, dupDue_iff.2 ⟨e, he, hd⟩]
  | fallback k last hb hk hl hd => simp [due, fallbackDue_iff.2 ⟨hb, k, last, hk, hl, hd⟩]
  | orderRepeat n o hn ho hp hr => exact mem_due_of_slot hn (by simp [dueAtSlot, repeatDue_iff.2 ⟨o, ho, hp, hr⟩])
  | openLimit n t o hl => exact mem_due_of_slot hl.slot (by simp [dueAtSlot, (openLimitDue_iff hl.slot).2 ⟨o, t, hl⟩])
  | closeLimit n t o hl => exact mem_due_of_slot hl.slot (by simp [dueAtSlot, (closeLimitDue_iff hl.slot).2 ⟨o, t, hl⟩])
  | withdraw n w hn hw hd => exact mem_due_of_slot hn (by simp [dueAtSlot, withdrawDue_iff.2 ⟨w, hw, hd⟩])
  | travel n t hn hp ht hd => exact mem_due_of_slot hn (by simp [dueAtSlot, travelDue_iff.2 ⟨hp, t, ht, hd⟩])
  | silence n t hn hp ht hd => exact mem_due_of_slot hn (by simp [dueAtSlot, silenceDue_iff.2 ⟨hp, t, ht, hd⟩])
  | window n t type hn hw hd => exact mem_due_of_slot hn (by simp [dueAtSlot, windowDue_iff.2 ⟨type, t, hw, hd⟩])
  | line n t hn ht hd ho => exact mem_due_of_slot hn (by simp [dueAtSlot, lineReleasable_iff.2 ⟨t, ht, hd, ho⟩])
  | syncWait n t hn ht hd => exact mem_due_of_slot hn (by simp [dueAtSlot, syncWaitDue_iff.2 ⟨t, ht, hd⟩])
  | move n due t e hn hm he hmove hd =>
    exact mem_due_of_slot hn (by simp [dueAtSlot, moveDue_eq_some.2 ⟨hm, e, due, he, hmove, hd⟩])
  | startup q t hs hi ht hd =>
    exact mem_due_of_seq (q := q) (by simp [dueAtSeq, startupDue, hs, hi, timerDue_iff.2 ⟨t, ht, hd⟩])
  | loss q t hs ht hd => exact mem_due_of_seq (q := q) (by simp [dueAtSeq, lossDue, hs, timerDue_iff.2 ⟨t, ht, hd⟩])
  | dead q t hs ht hd =>
    have : deadDue s q = true := by simpa [deadDue, or_assoc] using ⟨hs, timerDue_iff.2 ⟨t, ht, hd⟩⟩
    exact mem_due_of_seq (q := q) (by simp [dueAtSeq, this])
  | retransfer q t hs ht hd =>
    exact mem_due_of_seq (q := q) (by simp [dueAtSeq, retransferDue, hs, timerDue_iff.2 ⟨t, ht, hd⟩])
  | parallel q t hs ht hd =>
    exact mem_due_of_seq (q := q) (by simp [dueAtSeq, parallelDue, hs, timerDue_iff.2 ⟨t, ht, hd⟩])
  | softLimit q t hs ht hd => exact mem_due_of_seq (q := q) (by simp [dueAtSeq, softDue, hs, timerDue_iff.2 ⟨t, ht, hd⟩])
  | restore q t hs ht hd =>
    have : restoreDue s q = true := by simpa [restoreDue] using ⟨hs, timerDue_iff.2 ⟨t, ht, hd⟩⟩
    exact mem_due_of_seq (q := q) (by simp [dueAtSeq, this])
  | inhibit t ht hd => simp [due, inhibitDue, timerDue_iff.2 ⟨t, ht, hd⟩]
  | stop t ht hd => simp [due, timerDue_iff.2 ⟨t, ht, hd⟩]
  | status k t h1 h8 ht hb hp hl hd =>
    have : Instr.statusLoss k ∈ allGens.flatMap (fun k => ifDue (statusLossDue s k) (.statusLoss k)) :=
      List.mem_flatMap.2 ⟨k, mem_allGens.2 ⟨h1, h8⟩, by simp [statusLossDue_iff.2 ⟨t, ht, hb, hp, hl, hd⟩]⟩
    simp only [due, List.mem_append, this, true_or, or_true]
  | notice c hs hc hd => simp [due, hs, noticeDue_iff.2 ⟨⟨c, hc⟩, hd⟩]
  | request r rest c hr h1 h2 h3 hc =>
    have := mem_dueRequest.2 ⟨unitFree_iff.2 ⟨h1, h2, h3⟩, r, rest, hr, hc⟩
    simp only [due, List.mem_append, this, true_or, or_true]
  | discardRead x hx hw => simp [due, discardDue, hx, hw]
  | restart x hx hw hp => simp [due, restartDue, hx, hw, hp]

theorem mem_due_iff {s : State} {c : Instr} : c ∈ due s ↔ DueNow s c := ⟨dueNow_of_mem, mem_due⟩

/-! ## No command is listed twice -/

/-- The commands of a slot, of a sequencer and of a generator, and the request rows, were every condition to hold. -/
def slotRows (n : Nat) : List Instr :=
  [Instr.orderRepeat n] ++ [Instr.openLimitExpiry n] ++ [Instr.closeLimitExpiry n] ++ [Instr.withdrawResend n] ++
    [Instr.travelTimeout n] ++ [Instr.positionSilence n] ++ [Instr.operatorWindowExpiry n] ++
    [Instr.directTripRelease n] ++ [Instr.syncWaitLimit n] ++ [Instr.emulatedMoveDue n]

def seqRows (q : SeqId) : List Instr :=
  [Instr.startupTimerExpiry q] ++ [Instr.lossTimerExpiry q] ++ [Instr.deadTimerExpiry q] ++
    [Instr.retransferTimerExpiry q] ++ [Instr.parallelTimerExpiry q] ++ [Instr.softLimitExpiry q] ++
    [Instr.restoreTimerExpiry q]

def requestRows : List Instr :=
  [.readStatus, .readPoint, .readBreaker, .readElement, .readGenerator, .readRow, .writeRow, .enterConfig, .commit,
    .discard, .selectGroup, .setMode, .operate, .resetLockout, .clear, .inhibitTransfer, .park, .resume, .abort,
    .retransferNow, .readRecord, .discardRecord, .restart]

def laterRows : List Instr :=
  seqRows .seq1 ++ (seqRows .seq2 ++ ([Instr.inhibitEnd] ++ ([Instr.stopTimerExpiry] ++
    (allGens.flatMap (fun k => [Instr.statusLoss k]) ++ ([Instr.noticeSend] ++ (requestRows ++ ([Instr.discardRead] ++
      [Instr.warmRestart])))))))

def everyRow : List Instr :=
  [Instr.retiredNumberExpiry] ++ ([Instr.duplicateFilterExpiry] ++ ([Instr.fallback] ++ (allSlots.flatMap slotRows ++ laterRows)))

theorem ifDue_sublist (b : Bool) (c : Instr) : (ifDue b c).Sublist [c] := by
  cases b
  · exact List.nil_sublist _
  · exact .refl _

theorem dueRequest_sublist (s : State) : (dueRequest s).Sublist requestRows := by
  unfold dueRequest
  split
  · unfold requestRow
    split <;> simp [requestRows]
  · exact List.nil_sublist _

theorem dueAtSlot_sublist (s : State) (n : Nat) : (dueAtSlot s n).Sublist (slotRows n) := by
  unfold dueAtSlot slotRows
  have one := ifDue_sublist
  exact .append (.append (.append (.append (.append (.append (.append (.append (.append (one _ _) (one _ _)) (one _ _))
    (one _ _)) (one _ _)) (one _ _)) (one _ _)) (one _ _)) (one _ _)) (one _ _)

theorem dueAtSeq_sublist (s : State) (q : SeqId) : (dueAtSeq s q).Sublist (seqRows q) := by
  unfold dueAtSeq seqRows
  have one := ifDue_sublist
  exact .append (.append (.append (.append (.append (.append (one _ _) (one _ _)) (one _ _)) (one _ _)) (one _ _))
    (one _ _)) (one _ _)

theorem flatMap_sublist {α : Type} {f g : α → List Instr} (h : ∀ x, (f x).Sublist (g x)) (l : List α) :
    (l.flatMap f).Sublist (l.flatMap g) := by
  induction l with
  | nil => exact .refl _
  | cons x xs ih => simpa only [List.flatMap_cons] using (h x).append ih

theorem due_sublist (s : State) : (due s).Sublist everyRow := by
  have one := ifDue_sublist
  have gens := flatMap_sublist (fun k => one (statusLossDue s k) (.statusLoss k)) allGens
  have later := (dueAtSeq_sublist s .seq1).append ((dueAtSeq_sublist s .seq2).append ((one (inhibitDue s) .inhibitEnd).append
    ((one (timerDue s s.par.stopTimer) .stopTimerExpiry).append (gens.append ((one (s.siteInForce && noticeDue s)
      .noticeSend).append ((dueRequest_sublist s).append ((one (discardDue s) .discardRead).append
        (one (restartDue s) .warmRestart))))))))
  simp only [due, List.append_assoc]
  exact (one _ _).append ((one _ _).append ((one _ _).append ((flatMap_sublist (dueAtSlot_sublist s) _).append later)))

/-- The commands of the slots are those that name a slot. -/
theorem slotNamed_slotRows {c : Instr} {n : Nat} (h : c ∈ slotRows n) : slotNamed c = some n := by
  simp only [slotRows, List.mem_append, List.mem_singleton] at h
  rcases h with (((((((((rfl | rfl) | rfl) | rfl) | rfl) | rfl) | rfl) | rfl) | rfl) | rfl) <;> rfl

theorem slotNamed_laterRows : ∀ c ∈ laterRows, slotNamed c = none := by decide

theorem slotRows_nodup : (allSlots.flatMap slotRows).Nodup := by
  rw [List.nodup_flatMap]
  refine ⟨fun n _ => by simp [slotRows], List.Pairwise.imp ?_ (List.nodup_range (n := 25))⟩
  intro n m hnm c hn hm
  exact hnm (Option.some.inj ((slotNamed_slotRows hn).symm.trans (slotNamed_slotRows hm)))

theorem everyRow_nodup : everyRow.Nodup := by
  have later : laterRows.Nodup := by decide
  have tail : (allSlots.flatMap slotRows ++ laterRows).Nodup := by
    refine List.nodup_append.2 ⟨slotRows_nodup, later, fun a ha b hb e => ?_⟩
    obtain ⟨n, _, hn⟩ := List.mem_flatMap.1 ha
    exact absurd ((slotNamed_slotRows hn).symm.trans (e ▸ slotNamed_laterRows b hb)) (by simp)
  have head : ∀ c, slotNamed c = none → c ∉ laterRows → c ∉ allSlots.flatMap slotRows ++ laterRows := by
    intro c hc hl hm
    rcases List.mem_append.1 hm with hm | hm
    · obtain ⟨n, _, hn⟩ := List.mem_flatMap.1 hm
      exact absurd (hc.symm.trans (slotNamed_slotRows hn)) (by simp)
    · exact hl hm
  have h1 := head .retiredNumberExpiry rfl (by decide)
  have h2 := head .duplicateFilterExpiry rfl (by decide)
  have h3 := head .fallback rfl (by decide)
  simp [everyRow, h1, h2, h3, tail]

theorem due_nodup (s : State) : (due s).Nodup := everyRow_nodup.sublist (due_sublist s)

/-! ## The tick -/

theorem rotate_perm (n : Nat) (l : List Instr) : (rotate n l).Perm l :=
  List.perm_append_comm.trans (by rw [List.take_append_drop])

/-- Log 2: the commands that wait after a tick are those due, in some order. -/
theorem tick_perm (s : State) : (tick s).pending.Perm (due { s with now := s.now + 1 }) := by
  unfold tick
  dsimp only
  split
  · rename_i h; rw [h]
  · rename_i h; rw [h]
  · exact rotate_perm _ _

/-- Settles O2. -/
theorem idleTickQueuesWhatIsDue : Obligations.IdleTickQueuesWhatIsDue := by
  intro s hs
  have perm := tick_perm s
  refine ⟨tick s, ?_, tick_eq s, perm, perm.nodup_iff.2 (due_nodup _), fun c => perm.mem_iff.trans mem_due_iff⟩
  simp only [step, hs]

end Sys2Proof.Machine
end

section
/-!
The POSITION frame (O27): what a slot holds after each part of R84 to R86, what an order leaves as it completes, and what
none of these acts touch.
-/

namespace Sys2Proof.Machine

/-! ## Acts beside the Arbiter's slots, the Link Unit and the sequencers -/

/-- `t` comes from `s` by acts that leave the Arbiter, the Link Unit and the sequencers as they are and take back no
message. -/
structure BesideArb (s t : State) : Prop where
  arb : t.arb = s.arb
  link : t.link = s.link
  seqs : t.seqs = s.seqs
  mail : ∀ m ∈ s.mail, m ∈ t.mail

theorem BesideArb.refl (s : State) : BesideArb s s := ⟨rfl, rfl, rfl, fun _ h => h⟩

theorem BesideArb.trans {s t u : State} (h : BesideArb s t) (k : BesideArb t u) : BesideArb s u :=
  ⟨k.arb.trans h.arb, k.link.trans h.link, k.seqs.trans h.seqs, fun m hm => k.mail m (h.mail m hm)⟩

theorem BesideArb.ite {s t u : State} {c : Prop} [Decidable c] (ht : BesideArb s t) (hu : BesideArb s u) :
    BesideArb s (if c then t else u) := by
  split
  · exact ht
  · exact hu

theorem BesideArb.foldl {α : Type} {f : State → α → State} (hf : ∀ s x, BesideArb s (f s x)) (l : List α) (s : State) :
    BesideArb s (l.foldl f s) := by
  induction l generalizing s with
  | nil => exact .refl s
  | cons x xs ih => exact (hf s x).trans (ih _)

theorem BesideArb.slot {s t : State} (h : BesideArb s t) (n : Nat) : t.slot n = s.slot n := by
  unfold State.slot
  rw [h.arb]

theorem BesideArb.post (s : State) (m : Msg) : BesideArb s (s.post m) :=
  ⟨rfl, rfl, rfl, fun _ h => List.mem_append_left _ h⟩

theorem BesideArb.modPar (s : State) (f : Par → Par) : BesideArb s (s.modPar f) := ⟨rfl, rfl, rfl, fun _ h => h⟩

theorem BesideArb.modGen (s : State) (k : Nat) (f : Gen → Gen) : BesideArb s (s.modGen k f) := .ite (.refl s) (.modPar s _)

theorem BesideArb.modRecords (s : State) (f : Rec → Rec) : BesideArb s (s.modRecords f) := ⟨rfl, rfl, rfl, fun _ h => h⟩

theorem BesideArb.modMgmt (s : State) (f : Mgmt → Mgmt) : BesideArb s (s.modMgmt f) := ⟨rfl, rfl, rfl, fun _ h => h⟩

theorem BesideArb.note (c : NoticeClass) (s : State) : BesideArb s (note c s) := .ite (.modRecords s _) (.refl s)

theorem BesideArb.testRecords (s : State) : BesideArb s (testRecords s) := by
  unfold Machine.testRecords recordEvent
  dsimp only
  split
  · exact .refl s
  · exact ((BesideArb.modRecords s _).trans (.modRecords _ _)).trans (.note _ _)

theorem BesideArb.reportOpenEnd (n tag : Nat) (t : Told) (s : State) : BesideArb s (reportOpenEnd n tag t s) :=
  (BesideArb.modRecords s _).trans (.testRecords _)

theorem BesideArb.cancelMove (n : Nat) (s : State) : BesideArb s (cancelMove n s) := .ite (.modMgmt s _) (.refl s)

theorem BesideArb.tellAll (n : Nat) (o : Order) (t : Told) (s : State) : BesideArb s (tellAll n o t s) :=
  .foldl (fun u _ => .post u _) _ _

theorem BesideArb.setGenState (k : Nat) (st : GenState) (s : State) : BesideArb s (setGenState k st s) :=
  .ite (.refl s) ((BesideArb.modGen s k _).trans (.note _ _))

theorem BesideArb.readyToClosing (k : Nat) (s : State) : BesideArb s (readyToClosing k s) :=
  .ite (.setGenState _ _ _) (.refl s)

theorem BesideArb.assignChannel (i : Nat) (r : SyncReq) (s : State) : BesideArb s (assignChannel i r s) := by
  have taken : ∀ u, BesideArb u (channelTaken r.slot u) := by
    intro u
    unfold channelTaken
    split
    · exact .readyToClosing _ _
    · exact .refl u
  exact ((BesideArb.modPar s _).trans (taken _)).trans (.note _ _)

theorem BesideArb.dropPlace (n : Nat) (s : State) : BesideArb s (dropPlace n s) := by
  have refill : ∀ i u, BesideArb u (refillChannel i u) := by
    intro i u
    unfold refillChannel
    split
    · exact .refl u
    · exact (BesideArb.modPar u _).trans (.assignChannel _ _ _)
  unfold Machine.dropPlace
  split
  · exact ((BesideArb.modPar s _).trans (.note _ _)).trans (refill _ _)
  · exact .ite (.modPar s _) (.refl s)

theorem BesideArb.closeEnded (n : Nat) (r : Requester) (g : Bool) (t : Told) (s : State) :
    BesideArb s (closeEnded n r g t s) := by
  have release : ∀ u, BesideArb u (releaseGrant u) := fun u =>
    .ite (.refl u) ((BesideArb.modPar u _).trans (.note _ _))
  exact ((BesideArb.dropPlace n s).trans (.ite (release _) (.refl _))).trans (.ite (.post _ _) (.refl _))

/-! ## Acts on one slot -/

/-- `t` comes from `s` by acts on slot `n` and acts beside the Arbiter. -/
structure SlotActs (n : Nat) (s t : State) : Prop where
  slots : onlySlot n s t
  link : t.link = s.link
  seqs : t.seqs = s.seqs

theorem SlotActs.refl (n : Nat) (s : State) : SlotActs n s s := ⟨⟨fun _ _ => rfl, rfl, rfl, rfl⟩, rfl, rfl⟩

theorem SlotActs.trans {n : Nat} {s t u : State} (h : SlotActs n s t) (k : SlotActs n t u) : SlotActs n s u := by
  obtain ⟨hs, h1, h2, h3⟩ := h.slots
  obtain ⟨ks, k1, k2, k3⟩ := k.slots
  exact ⟨⟨fun m hm => (ks m hm).trans (hs m hm), k1.trans h1, k2.trans h2, k3.trans h3⟩, k.link.trans h.link,
    k.seqs.trans h.seqs⟩

theorem SlotActs.ite {n : Nat} {s t u : State} {c : Prop} [Decidable c] (ht : SlotActs n s t) (hu : SlotActs n s u) :
    SlotActs n s (if c then t else u) := by
  split
  · exact ht
  · exact hu

theorem SlotActs.modSlot (n : Nat) (f : ArbSlot → ArbSlot) (s : State) : SlotActs n s (s.modSlot n f) :=
  ⟨⟨fun m hm => State.modSlot_slot_other s n m f hm, rfl, rfl, rfl⟩, rfl, rfl⟩

theorem BesideArb.slotActs {s t : State} (h : BesideArb s t) (n : Nat) : SlotActs n s t :=
  ⟨⟨fun m _ => h.slot m, congrArg Arb.bus1 h.arb, congrArg Arb.bus2 h.arb, congrArg Arb.gbus h.arb⟩, h.link, h.seqs⟩

/-! ## An order leaves service -/

/-- R106: what a slot's line does at a moment with no protective open in service. -/
def lineAfter (now : Nat) (l : Option Nat) : Option Nat :=
  match l with
  | some t => if t + 100000 ≤ now then none else some t
  | none => none

/-- R87, R106: a slot after its order `o` has left service with a result. -/
def withoutOrder (now : Nat) (o : Order) (t : Told) (a : ArbSlot) : ArbSlot :=
  { a with
    order := none, lastResult := some ⟨o.type, o.tag, o.causes, t⟩
    lineOn := match o.type with
      | .opn => lineAfter now a.lineOn
      | .close => a.lineOn }

theorem releaseLine_slot {n : Nat} {s : State} (hn : n < s.arb.slots.length) (ho : (s.slot n).order = none) :
    (releaseLine n s).slot n = { s.slot n with lineOn := lineAfter s.now (s.slot n).lineOn } := by
  have quiet : protectiveOpen (s.slot n) = false := by simp [protectiveOpen, ho]
  unfold releaseLine lineReleasable
  rw [quiet]
  cases hl : (s.slot n).lineOn with
  | none =>
    simp only [Bool.false_eq_true, ↓reduceIte, lineAfter]
    rw [← hl]
  | some t =>
    by_cases hd : t + ms 100 ≤ s.now
    · have hd' : t + 100000 ≤ s.now := hd
      simp only [hd, decide_true, Bool.not_false, Bool.and_self, ↓reduceIte, lineAfter, hd']
      exact State.modSlot_slot_same s n _ hn
    · have hd' : ¬t + 100000 ≤ s.now := hd
      simp only [hd, decide_false, Bool.false_and, Bool.false_eq_true, ↓reduceIte, lineAfter, hd']
      rw [← hl]

theorem releaseLine_now (n : Nat) (s : State) : (releaseLine n s).now = s.now := by
  unfold releaseLine
  split <;> rfl

/-- R87: an order taken from its slot. -/
theorem removeOrder_slot {n : Nat} {s : State} (o : Order) (t : Told) (hn : n < s.arb.slots.length) :
    (removeOrder n o t s).slot n = { s.slot n with order := none, lastResult := some ⟨o.type, o.tag, o.causes, t⟩ } := by
  unfold removeOrder
  rw [(BesideArb.note _ _).slot, (BesideArb.cancelMove _ _).slot, State.modSlot_slot_same _ _ _ hn]

theorem SlotActs.releaseLine (n : Nat) (s : State) : SlotActs n s (releaseLine n s) := .ite (.modSlot n _ s) (.refl n s)

theorem SlotActs.removeOrder (n : Nat) (o : Order) (t : Told) (s : State) : SlotActs n s (removeOrder n o t s) :=
  (SlotActs.modSlot n _ s).trans (((BesideArb.cancelMove n _).trans (.note _ _)).slotActs n)

theorem mem_tellAll {n : Nat} {o : Order} {t : Told} {s : State} {r : Requester} (hr : r ∈ o.requesters) :
    .told r n o.type (some o.tag) t ∈ (tellAll n o t s).mail := by
  unfold tellAll
  generalize o.requesters = l at hr
  induction l generalizing s with
  | nil => cases hr
  | cons x xs ih =>
    rcases List.mem_cons.1 hr with rfl | hr
    · have told := BesideArb.foldl (fun u y => BesideArb.post u (.told y n o.type (some o.tag) t)) xs
        (s.post (.told r n o.type (some o.tag) t))
      exact told.mail _ (by simp)
    · exact ih hr

/-- R87, R95, R96, R106: what stands when the order of a slot has left service. -/
structure LeftService (n : Nat) (o : Order) (t : Told) (s u : State) : Prop where
  acts : SlotActs n s u
  slot : u.slot n = withoutOrder s.now o t (s.slot n)
  told : ∀ r ∈ o.requesters, .told r n o.type (some o.tag) t ∈ u.mail

theorem leaveService_left {n : Nat} {o : Order} {s : State} (t : Told) (hn : n < s.arb.slots.length)
    (ho : (s.slot n).order = some o) : LeftService n o t s (leaveService n t s) := by
  unfold leaveService
  rw [ho]
  dsimp only
  have removed := removeOrder_slot o t hn
  have acts := SlotActs.removeOrder n o t s
  have size : (removeOrder n o t s).arb.slots.length = s.arb.slots.length := (Internal.removeOrder n o t s).slots
  have now : (tellAll n o t (removeOrder n o t s)).now = s.now :=
    ((Internal.removeOrder n o t s).trans (.tellAll n o t _)).outside.now
  have told := BesideArb.tellAll n o t (removeOrder n o t s)
  have mem : ∀ r ∈ o.requesters, Msg.told r n o.type (some o.tag) t ∈ (tellAll n o t (removeOrder n o t s)).mail :=
    fun r hr => mem_tellAll hr
  have slot := (told.slot n).trans removed
  have size' : n < (tellAll n o t (removeOrder n o t s)).arb.slots.length := by rw [told.arb, size]; exact hn
  have acts' := acts.trans (told.slotActs n)
  generalize tellAll n o t (removeOrder n o t s) = w at now mem slot size' acts'
  unfold afterService
  cases htype : o.type with
  | close =>
    have ended := BesideArb.closeEnded n (o.requesters.headD .prot) o.grantHeld t w
    exact ⟨acts'.trans (ended.slotActs n), by rw [ended.slot, slot]; simp only [withoutOrder, htype],
      fun r hr => ended.mail _ (htype ▸ mem r hr)⟩
  | opn =>
    have line : (releaseLine n w).slot n = withoutOrder s.now o t (s.slot n) := by
      rw [releaseLine_slot size' (by rw [slot]), slot, now]
      simp only [withoutOrder, htype]
    have mail : (releaseLine n w).mail = w.mail := by unfold releaseLine; split <;> rfl
    have report := BesideArb.reportOpenEnd n o.tag t (releaseLine n w)
    have acts'' := acts'.trans (.releaseLine n w)
    dsimp only
    split
    · exact ⟨acts''.trans (report.slotActs n), (report.slot n).trans line,
        fun r hr => report.mail _ (mail ▸ htype ▸ mem r hr)⟩
    · exact ⟨acts'', line, fun r hr => mail ▸ htype ▸ mem r hr⟩

/-! ## A valid POSITION frame, part by part -/

/-- R84: a slot with the time and the flags of a frame. -/
def withFlags (now : Nat) (p : PositionPayload) (a : ArbSlot) : ArbSlot :=
  { a with lastFrame := some now, localCtl := p.localCtl, ready := p.ready }

/-- R84: a slot with the tag of a frame taken, and its order acknowledged, in LIVE, where the tags agree. -/
def withTag (live : Prop) [Decidable live] (p : PositionPayload) (a : ArbSlot) : ArbSlot :=
  { a with
    lastTag := a.lastTag.or (some p.tag)
    order := a.order.map fun o => if o.phase = .issued ∧ live ∧ o.tag = p.tag then { o with acked := true } else o }

/-- R85, R86: a slot whose real position becomes `p`. -/
def movedTo (now : Nat) (p : Pos) (a : ArbSlot) : ArbSlot :=
  if a.position = p then a else { a with position := p, travelAt := if p = .travel then some now else none }

theorem movedTo_fields (now : Nat) (p : Pos) (a : ArbSlot) : (movedTo now p a).prevPair = a.prevPair ∧
    (movedTo now p a).acceptedPair = a.acceptedPair ∧ (movedTo now p a).position = p ∧
    (movedTo now p a).travelAt =
      if p = a.position then a.travelAt else if p = .travel then some now else none := by
  unfold movedTo
  by_cases h : a.position = p
  · rw [if_pos h, if_pos h.symm]
    exact ⟨rfl, rfl, h, rfl⟩
  · rw [if_neg h, if_neg (Ne.symm h)]
    exact ⟨rfl, rfl, rfl, rfl⟩

/-- R85: a slot with the contact pair of a frame. -/
def withContacts (now : Nat) (c : Contacts) (a : ArbSlot) : ArbSlot :=
  if a.prevPair = some c then
    if a.acceptedPair = some c then a else movedTo now (posOfContacts c) { a with acceptedPair := some c }
  else { a with prevPair := some c }

theorem takeFlags_slot {p : PositionPayload} {s : State} (hn : p.slot < s.arb.slots.length) :
    (takeFlags p s).slot p.slot = withFlags s.now p (s.slot p.slot) := by
  unfold takeFlags
  dsimp only
  split
  · exact State.modSlot_slot_same _ _ _ hn
  · rw [(BesideArb.note _ _).slot]
    exact State.modSlot_slot_same _ _ _ hn

theorem SlotActs.takeFlags (p : PositionPayload) (s : State) : SlotActs p.slot s (takeFlags p s) :=
  .ite (.modSlot _ _ s) ((SlotActs.modSlot _ _ s).trans ((BesideArb.note _ _).slotActs _))

theorem setRealPos_slot {n : Nat} {p : Pos} {s : State} (hn : n < s.arb.slots.length) :
    (setRealPos n p s).slot n = movedTo s.now p (s.slot n) := by
  unfold setRealPos movedTo
  dsimp only
  by_cases h : (s.slot n).position = p
  · rw [if_pos h, if_pos h]
  · rw [if_neg h, if_neg h]
    refine ((BesideArb.ite (.refl _) (.post _ _)).slot n).trans (((BesideArb.note _ _).slot n).trans ?_)
    exact State.modSlot_slot_same _ _ _ hn

theorem SlotActs.setRealPos (n : Nat) (p : Pos) (s : State) : SlotActs n s (setRealPos n p s) :=
  .ite (.refl n s) (((SlotActs.modSlot n _ s).trans ((BesideArb.note _ _).slotActs n)).trans
    (.ite (.refl n _) ((BesideArb.post _ _).slotActs n)))

theorem takeContacts_slot {n : Nat} {c : Contacts} {s : State} (hn : n < s.arb.slots.length) :
    (takeContacts n c s).slot n = withContacts s.now c (s.slot n) := by
  unfold takeContacts withContacts
  dsimp only
  split
  · split
    · rfl
    · rw [setRealPos_slot (by simpa using hn), State.modSlot_slot_same _ _ _ hn]
      rfl
  · exact State.modSlot_slot_same _ _ _ hn

theorem SlotActs.takeContacts (n : Nat) (c : Contacts) (s : State) : SlotActs n s (takeContacts n c s) :=
  .ite (.ite (.refl n s) ((SlotActs.modSlot n _ s).trans (.setRealPos _ _ _))) (.modSlot n _ s)

/-- The slot of a valid frame before completion is tested. -/
def framed (now : Nat) (live : Prop) [Decidable live] (p : PositionPayload) (a : ArbSlot) : ArbSlot :=
  withContacts now p.contacts (withTag live p (withFlags now p a))

/-- The state in which completion is tested. -/
def contactsTaken (p : PositionPayload) (s : State) : State := takeContacts p.slot p.contacts (takeTag p (takeFlags p s))

theorem contactsTaken_internal (p : PositionPayload) (s : State) : Internal s (contactsTaken p s) :=
  ((Internal.takeFlags p s).trans (.takeTag p _)).trans (.takeContacts _ _ _)

theorem contactsTaken_acts (p : PositionPayload) (s : State) : SlotActs p.slot s (contactsTaken p s) :=
  ((SlotActs.takeFlags p s).trans (.modSlot _ _ _)).trans (.takeContacts _ _ _)

theorem contactsTaken_slot {p : PositionPayload} {s : State} (hn : p.slot < s.arb.slots.length) :
    (contactsTaken p s).slot p.slot = framed s.now (s.mgmt.mode = .live) p (s.slot p.slot) := by
  have flags := Internal.takeFlags p s
  have size : p.slot < (takeFlags p s).arb.slots.length := by rw [flags.slots]; exact hn
  have tag : (takeTag p (takeFlags p s)).slot p.slot =
      withTag (s.mgmt.mode = .live) p ((takeFlags p s).slot p.slot) := by
    unfold takeTag
    rw [State.modSlot_slot_same _ _ _ size]
    unfold withTag
    rw [flags.outside.mode]
    cases ((takeFlags p s).slot p.slot).lastTag <;> rfl
  have now : (takeTag p (takeFlags p s)).now = s.now := flags.outside.now
  unfold contactsTaken
  rw [takeContacts_slot (by simpa [takeTag] using size), tag, takeFlags_slot hn, now]
  rfl

/-! ## The fields of a slot after a frame -/

section
variable (now : Nat) (live : Prop) [Decidable live] (p : PositionPayload) (a : ArbSlot)

/-- The contacts of a frame touch the pairs, the position and the time of TRAVEL only. -/
theorem framed_eq : ∃ prev accepted pos t, framed now live p a =
    { withTag live p (withFlags now p a) with
      prevPair := prev, acceptedPair := accepted, position := pos, travelAt := t } := by
  unfold framed withContacts movedTo
  generalize withTag live p (withFlags now p a) = b
  by_cases h : b.prevPair = some p.contacts
  · rw [if_pos h]
    by_cases h' : b.acceptedPair = some p.contacts
    · rw [if_pos h']
      exact ⟨_, _, _, _, rfl⟩
    · rw [if_neg h']
      split
      · exact ⟨_, _, _, _, rfl⟩
      · exact ⟨_, _, _, _, rfl⟩
  · rw [if_neg h]
    exact ⟨_, _, _, _, rfl⟩

/-- What neither the flags nor the contacts of a frame touch. -/
theorem framed_kept :
    (framed now live p a).lock = a.lock ∧ (framed now live p a).bf = a.bf ∧ (framed now live p a).bfTimer = a.bfTimer ∧
      (framed now live p a).window = a.window ∧ (framed now live p a).withdraw = a.withdraw ∧
      (framed now live p a).lastResult = a.lastResult ∧ (framed now live p a).lineOn = a.lineOn := by
  obtain ⟨_, _, _, _, e⟩ := framed_eq now live p a
  rw [e]
  exact ⟨rfl, rfl, rfl, rfl, rfl, rfl, rfl⟩

/-- R84: what every valid frame sets. -/
theorem framed_taken :
    (framed now live p a).lastFrame = some now ∧ (framed now live p a).localCtl = p.localCtl ∧
      (framed now live p a).ready = p.ready ∧ (framed now live p a).lastTag = (withTag live p a).lastTag ∧
      (framed now live p a).order = (withTag live p a).order := by
  obtain ⟨_, _, _, _, e⟩ := framed_eq now live p a
  rw [e]
  exact ⟨rfl, rfl, rfl, rfl, rfl⟩

/-- R85: a contact pair that differs from the previous one is only noted. -/
theorem framed_first (h : a.prevPair ≠ some p.contacts) : (framed now live p a).prevPair = some p.contacts ∧
    (framed now live p a).acceptedPair = a.acceptedPair ∧ (framed now live p a).position = a.position ∧
    (framed now live p a).travelAt = a.travelAt := by
  unfold framed withContacts
  rw [if_neg (show (withTag live p (withFlags now p a)).prevPair ≠ _ from h)]
  exact ⟨rfl, rfl, rfl, rfl⟩

/-- R85: one that equals the previous and the last accepted pair changes nothing. -/
theorem framed_same (h : a.prevPair = some p.contacts) (h' : a.acceptedPair = some p.contacts) :
    (framed now live p a).prevPair = a.prevPair ∧ (framed now live p a).acceptedPair = some p.contacts ∧
      (framed now live p a).position = a.position ∧ (framed now live p a).travelAt = a.travelAt := by
  unfold framed withContacts
  rw [if_pos (show (withTag live p (withFlags now p a)).prevPair = _ from h),
    if_pos (show (withTag live p (withFlags now p a)).acceptedPair = _ from h')]
  exact ⟨rfl, h', rfl, rfl⟩

/-- R85, R86: one that equals the previous and differs from the last accepted pair is accepted. -/
theorem framed_accepted (h : a.prevPair = some p.contacts) (h' : a.acceptedPair ≠ some p.contacts) :
    (framed now live p a).prevPair = a.prevPair ∧ (framed now live p a).acceptedPair = some p.contacts ∧
      (framed now live p a).position = posOfContacts p.contacts ∧
      (framed now live p a).travelAt =
        if posOfContacts p.contacts = a.position then a.travelAt
        else if posOfContacts p.contacts = .travel then some now else none := by
  unfold framed withContacts
  rw [if_pos (show (withTag live p (withFlags now p a)).prevPair = _ from h),
    if_neg (show (withTag live p (withFlags now p a)).acceptedPair ≠ _ from h')]
  exact movedTo_fields now _ _

/-- R86: the time of TRAVEL follows the position. -/
theorem framed_travelAt : (framed now live p a).travelAt =
    if (framed now live p a).position = a.position then a.travelAt
    else if (framed now live p a).position = .travel then some now else none := by
  by_cases h : a.prevPair = some p.contacts
  · by_cases h' : a.acceptedPair = some p.contacts
    · obtain ⟨_, _, hp, ht⟩ := framed_same now live p a h h'
      rw [ht, if_pos hp]
    · obtain ⟨_, _, hp, ht⟩ := framed_accepted now live p a h h'
      rw [ht, hp]
  · obtain ⟨_, _, hp, ht⟩ := framed_first now live p a h
    rw [ht, if_pos hp]

end

/-! ## The order of a slot after a frame -/

section
variable {now : Nat} {live : Prop} [Decidable live] {p : PositionPayload} {a : ArbSlot}

theorem framed_order_eq : (framed now live p a).order =
    a.order.map fun o => if o.phase = .issued ∧ live ∧ o.tag = p.tag then { o with acked := true } else o :=
  (framed_taken now live p a).2.2.2.2

/-- R84: an order that is not ISSUED, and every order outside LIVE, stands as it is. -/
theorem framed_order_of_quiet {o : Order} (ho : a.order = some o) (hq : ¬live ∨ o.phase = .syncWait) :
    (framed now live p a).order = some o := by
  rw [framed_order_eq, ho, Option.map_some, if_neg]
  rintro ⟨hi, hl, _⟩
  rcases hq with hq | hq
  · exact hq hl
  · simp [hi] at hq

/-- R84: an ISSUED order is acknowledged in LIVE where the tags agree. -/
theorem framed_order_of_issued {o : Order} (ho : a.order = some o) (hl : live) (hi : o.phase = .issued) :
    (framed now live p a).order = some { o with acked := o.acked || decide (o.tag = p.tag) } := by
  rw [framed_order_eq, ho, Option.map_some]
  by_cases ht : o.tag = p.tag
  · simp [hi, hl, ht]
  · simp [ht]

end

/-- R96: an order completes in LIVE, while ISSUED, in the position it asks for. -/
def completes (live : Prop) (a : ArbSlot) : Prop :=
  ∃ o, live ∧ a.order = some o ∧ o.phase = .issued ∧ a.position = orderedPos o.type

theorem not_completes_of_quiet {now : Nat} {live : Prop} [Decidable live] {p : PositionPayload} {a : ArbSlot} {o : Order}
    (ho : a.order = some o) (hq : ¬live ∨ o.phase = .syncWait) : ¬completes live (framed now live p a) := by
  rintro ⟨o', hl, ho', hi, _⟩
  rw [framed_order_of_quiet ho hq] at ho'
  cases ho'
  rcases hq with hq | hq
  · exact hq hl
  · simp [hi] at hq

/-! ## Completion -/

/-- R96: completion of an order by a real position, outside LOOP. -/
theorem testCompletion_done {n : Nat} {o : Order} {s : State} (hn : n < s.arb.slots.length)
    (ho : (s.slot n).order = some o) (hi : o.phase = .issued) (hp : s.pos n = orderedPos o.type) :
    LeftService n o .done s (testCompletion n s) := by
  unfold testCompletion
  rw [ho]
  dsimp only
  rw [if_pos ⟨hi, hp⟩]
  exact leaveService_left .done hn ho

theorem testCompletion_none {n : Nat} {s : State} (h : ∀ o, (s.slot n).order = some o → o.phase = .issued →
    s.pos n ≠ orderedPos o.type) : testCompletion n s = s := by
  unfold testCompletion
  split
  · rename_i o ho
    exact if_neg fun hc => h o ho hc.1 hc.2
  · rfl

theorem pos_of_live {s : State} (h : s.mgmt.mode = .live) (n : Nat) : s.pos n = (s.slot n).position := by
  simp [State.pos, h]

/-- R84, R96: what a frame leaves that makes slot `n` into `b` before completion is tested: the order of the slot has
completed, or it stands. -/
structure PositionTaken (n : Nat) (b : ArbSlot) (s u : State) : Prop where
  acts : SlotActs n s u
  done : ∀ o, s.mgmt.mode = .live → b.order = some o → o.phase = .issued → b.position = orderedPos o.type →
    u.slot n = withoutOrder s.now o .done b ∧ ∀ r ∈ o.requesters, .told r n o.type (some o.tag) .done ∈ u.mail
  stands : ¬completes (s.mgmt.mode = .live) b → u.slot n = b

theorem takePosition_taken {p : PositionPayload} {s : State} (hn : p.slot < s.arb.slots.length) :
    PositionTaken p.slot (framed s.now (s.mgmt.mode = .live) p (s.slot p.slot)) s (takePosition p s) := by
  have acts := contactsTaken_acts p s
  have slot := contactsTaken_slot hn
  have mode : (contactsTaken p s).mgmt.mode = s.mgmt.mode := (contactsTaken_internal p s).outside.mode
  have now : (contactsTaken p s).now = s.now := (contactsTaken_internal p s).outside.now
  have size : p.slot < (contactsTaken p s).arb.slots.length := by rw [(contactsTaken_internal p s).slots]; exact hn
  have e : takePosition p s =
    if (contactsTaken p s).mgmt.mode = .live then testCompletion p.slot (contactsTaken p s) else contactsTaken p s := rfl
  rw [e, mode, ← slot]
  by_cases live : s.mgmt.mode = .live
  · rw [if_pos live]
    have pos := pos_of_live (mode.trans live) p.slot
    by_cases due : completes (s.mgmt.mode = .live) ((contactsTaken p s).slot p.slot)
    · obtain ⟨o, _, ho, hi, hp⟩ := due
      have left := testCompletion_done size ho hi (pos.trans hp)
      refine ⟨acts.trans left.acts, fun o' _ ho' _ _ => ?_, fun h => absurd ⟨o, live, ho, hi, hp⟩ h⟩
      cases ho.symm.trans ho'
      exact ⟨now ▸ left.slot, left.told⟩
    · rw [testCompletion_none fun o ho hi hp => due ⟨o, live, ho, hi, pos ▸ hp⟩]
      exact ⟨acts, fun o hl ho hi hp => absurd ⟨o, hl, ho, hi, hp⟩ due, fun _ => rfl⟩
  · rw [if_neg live]
    exact ⟨acts, fun _ hl => absurd hl live, fun _ => rfl⟩

/-- Completion touches the order, its result and the line only. -/
theorem PositionTaken.slot_eq {n : Nat} {b : ArbSlot} {s u : State} (h : PositionTaken n b s u) :
    ∃ o r l, u.slot n = { b with order := o, lastResult := r, lineOn := l } := by
  by_cases due : completes (s.mgmt.mode = .live) b
  · obtain ⟨o, live, ho, hi, hp⟩ := due
    exact ⟨_, _, _, (h.done o live ho hi hp).1⟩
  · exact ⟨_, _, _, h.stands due⟩

/-! ## The statement -/

theorem positionPayload_eq_none {h : Header} {b : List Byte} :
    positionPayload h b = none ↔ h.payloadLen ≠ 3 ∨ 24 < byteAt b 8 := by
  unfold positionPayload
  split
  · simp only [reduceCtorEq, false_iff]; omega
  · simp only [true_iff]; omega

theorem positionPayload_eq_some {h : Header} {b : List Byte} {x : PositionPayload} (hx : positionPayload h b = some x) :
    x = ⟨byteAt b 8, ⟨byteAt b 9 % 2 = 1, byteAt b 9 / 2 % 2 = 1⟩, byteAt b 9 / 4 % 2 = 1, byteAt b 9 / 8 % 2 = 1,
      byteAt b 10⟩ ∧ byteAt b 8 ≤ 24 := by
  unfold positionPayload at hx
  split at hx
  · rename_i hc
    exact ⟨(Option.some.inj hx).symm, hc.2⟩
  · cases hx

/-- R6, R84: the frames that the Arbiter does not take. -/
theorem handPosition_not_taken {f : EthFrame} {h : Header} {s : State} (hn : s.blocksRun = false ∨
    positionPayload h f.body = none ∨ ∃ x, positionPayload h f.body = some x ∧
      ((s.brk x.slot).present = false ∨ (s.brk x.slot).station ≠ h.src)) : handPosition f h s = s := by
  unfold handPosition
  split
  · rename_i x hx
    refine if_neg fun ⟨hrun, hvalid⟩ => ?_
    simp only [positionValid, Bool.and_eq_true, decide_eq_true_eq] at hvalid
    rcases hn with hn | hn | ⟨y, hy, hn⟩
    · simp [hn] at hrun
    · simp [hn] at hx
    · cases hy.symm.trans hx
      simp [hvalid] at hn
  · rfl

theorem handPosition_taken {f : EthFrame} {h : Header} {s : State} {x : PositionPayload}
    (hx : positionPayload h f.body = some x) (hrun : s.blocksRun = true) (hp : (s.brk x.slot).present = true)
    (hsrc : (s.brk x.slot).station = h.src) : handPosition f h s = finish (takePosition x s) := by
  have valid : positionValid s h.src x = true := by simp [positionValid, hp, hsrc]
  unfold handPosition
  rw [hx]
  exact if_pos ⟨hrun, valid⟩

/-- Settles O27: the frame is forwarded, its parts are taken one after the other, and the order completes or stands. -/
theorem positionFrameTaken : Obligations.PositionFrameTaken := by
  refine ⟨fun p f h s hr hc hk hn => ?_, fun h b => ⟨positionPayload_eq_none, fun x hx => ?_⟩,
    fun p f h x s hs hin hx hrun hp hsrc => ?_⟩
  · have sent := forwardVendor_forwarded f h hr
    rw [hk] at sent
    refine ⟨_, congrArg Host.Outcome.next (takeFrame_not_taken hr hc hk (hn.imp_right fun hn => ?_)), sent⟩
    obtain ⟨l, e⟩ := forwardVendor_eq p f h s
    rw [e]
    exact handPosition_not_taken hn
  · obtain ⟨rfl, _⟩ := positionPayload_eq_some hx
    simp only [Nat.testBit_eq_decide_div_mod_eq]
    norm_num
  · obtain ⟨l, e⟩ := forwardVendor_eq p f h s
    have sent := forwardVendor_forwarded f h hin.received
    rw [hin.kind] at sent
    have size : x.slot < s.arb.slots.length := by
      obtain ⟨rfl, hslot⟩ := positionPayload_eq_some hx
      rw [hs.slots]
      exact Nat.lt_succ_of_le hslot
    have handed : exec (.position p f) s = .next (finish (takePosition x (forwardVendor p f h s))) := by
      refine congrArg Host.Outcome.next ((takeFrame_inward hin _).trans ?_)
      rw [e]
      exact handPosition_taken hx hrun hp hsrc
    have outside := ((Internal.forwardVendor p f h s).trans (.takePosition x _)).outside
    refine ⟨_, _, handed, sent, ?_⟩
    rw [e] at outside ⊢
    have taken := takePosition_taken (p := x) (s := { s with link := l }) size
    change PositionTaken _ (framed s.now (s.mgmt.mode = .live) x (s.slot x.slot)) _ _ at taken
    obtain ⟨_, _, _, fields⟩ := taken.slot_eq
    obtain ⟨⟨slots, link, seqs⟩, done, stands⟩ := taken
    generalize takePosition x { s with link := l } = u at *
    refine ⟨link, slots, outside, seqs, ?_⟩
    have first := framed_first s.now (s.mgmt.mode = .live) x (s.slot x.slot)
    have same := framed_same s.now (s.mgmt.mode = .live) x (s.slot x.slot)
    have accepted := framed_accepted s.now (s.mgmt.mode = .live) x (s.slot x.slot)
    have travel := framed_travelAt s.now (s.mgmt.mode = .live) x (s.slot x.slot)
    obtain ⟨lock, bf, bfTimer, window, withdraw, result, line⟩ :=
      framed_kept s.now (s.mgmt.mode = .live) x (s.slot x.slot)
    obtain ⟨frame, localCtl, ready, tag, _⟩ := framed_taken s.now (s.mgmt.mode = .live) x (s.slot x.slot)
    refine ⟨?_, ?_, ?_, ?_, ?_, ?_, ?_, ?_, ?_, ?_, ?_, ?_, ?_, ?_, ?_, ?_, ?_⟩
    · rw [fields]; exact frame
    · rw [fields]; exact localCtl
    · rw [fields]; exact ready
    · rw [fields]; exact tag.trans (by cases h : (s.slot x.slot).lastTag <;> simp [withTag, h])
    · rw [fields]; exact fun h => ⟨(first h).1, (first h).2.1, (first h).2.2.1⟩
    · rw [fields]
      intro h
      by_cases h' : (s.slot x.slot).acceptedPair = some x.contacts
      · exact ⟨(same h h').1, (same h h').2.1⟩
      · exact ⟨(accepted h h').1, (accepted h h').2.1⟩
    · rw [fields]; exact fun h h' => (same h h').2.2.1
    · rw [fields]; exact fun h h' => (accepted h h').2.2.1.trans (by unfold posOfContacts; rfl)
    · rw [fields]; exact travel
    · rw [fields]; exact lock
    · rw [fields]; exact bf
    · rw [fields]; exact bfTimer
    · rw [fields]; exact window
    · rw [fields]; exact withdraw
    · intro ho
      have none : (framed s.now (s.mgmt.mode = .live) x (s.slot x.slot)).order = none := by
        rw [framed_order_eq, ho, Option.map_none]
      have kept := stands fun ⟨o, _, ho', _⟩ => by rw [none] at ho'; cases ho'
      rw [kept]
      exact ⟨none, result, line⟩
    · intro o ho hq
      rw [stands (not_completes_of_quiet ho hq)]
      exact ⟨framed_order_of_quiet ho hq, result, line⟩
    · intro o ho live hi
      have held := framed_order_of_issued (now := s.now) (p := x) ho live hi
      have pos : (u.slot x.slot).position = (framed s.now (s.mgmt.mode = .live) x (s.slot x.slot)).position := by
        rw [fields]
      have asked : orderedPos o.type = (match o.type with
        | .opn => .opn
        | .close => .closed) := by
        cases o.type <;> rfl
      refine ⟨fun hp => ?_, fun hp => ?_⟩
      · obtain ⟨left, told⟩ := done _ live held hi (pos.symm.trans (hp.trans (asked.symm.trans rfl)))
        rw [left]
        refine ⟨rfl, rfl, ?_, told⟩
        simp only [withoutOrder, line, lineAfter]
        cases o.type <;> cases (s.slot x.slot).lineOn <;> rfl
      · have kept := stands fun ⟨o', _, ho', _, hp'⟩ => by
          rw [held] at ho'
          cases ho'
          exact hp (pos.trans (hp'.trans (asked.trans rfl)))
        rw [kept]
        exact ⟨held, result, line⟩

end Sys2Proof.Machine
end

section
/-!
The GENSTAT frame and a lost status (O43): what the acts under R143 and R145 leave alone, and the rows of R143 one by one.
-/

namespace Sys2Proof.Machine

/-! ## Beside the generators -/

/-- `t` comes from `s` by acts that leave the sequencers, every STREAM and BULK queue, and every position as they are. -/
structure Calm (s t : State) : Prop where
  seqs : t.seqs = s.seqs
  stream : ∀ p, (portOf t.link p).stream = (portOf s.link p).stream
  bulk : ∀ p, (portOf t.link p).bulk = (portOf s.link p).bulk
  pos : ∀ n, t.pos n = s.pos n

/-- `t` comes from `s` by calm acts that leave every generator as it is that is not READY. -/
structure Quiet (s t : State) : Prop extends Calm s t where
  gens : ∀ k, 1 ≤ k → (s.gen k).state ≠ .ready → t.gen k = s.gen k

theorem Calm.trans {s t u : State} (h : Calm s t) (k : Calm t u) : Calm s u :=
  ⟨k.seqs.trans h.seqs, fun p => (k.stream p).trans (h.stream p), fun p => (k.bulk p).trans (h.bulk p),
    fun n => (k.pos n).trans (h.pos n)⟩

theorem Quiet.refl (s : State) : Quiet s s := ⟨⟨rfl, fun _ => rfl, fun _ => rfl, fun _ => rfl⟩, fun _ _ _ => rfl⟩

theorem Calm.refl (s : State) : Calm s s := (Quiet.refl s).toCalm

theorem Quiet.trans {s t u : State} (h : Quiet s t) (k : Quiet t u) : Quiet s u where
  toCalm := h.toCalm.trans k.toCalm
  gens j hj hr := (k.gens j hj (by rwa [h.gens j hj hr])).trans (h.gens j hj hr)

theorem Quiet.ite {s t u : State} {c : Prop} [Decidable c] (ht : Quiet s t) (hu : Quiet s u) :
    Quiet s (if c then t else u) := by
  split
  · exact ht
  · exact hu

theorem Quiet.foldl {α : Type} {f : State → α → State} (hf : ∀ s x, Quiet s (f s x)) (l : List α) (s : State) :
    Quiet s (l.foldl f s) := by
  induction l generalizing s with
  | nil => exact .refl s
  | cons x xs ih => exact (hf s x).trans (ih _)

/-! ## Updates of one block -/

/-- Each entry of a list updated by a function that keeps a reading of it reads as before. -/
theorem modAt_getD_reading {α β : Type} (r : α → β) {f : α → α} (hf : ∀ a, r (f a) = r a) (l : List α) (i j : Nat)
    (d : α) : r ((modAt l i f).getD j d) = r (l.getD j d) := by
  induction l generalizing i j with
  | nil => rfl
  | cons x xs ih =>
    cases i with
    | zero =>
      cases j with
      | zero => exact hf x
      | succ j => rfl
    | succ i =>
      cases j with
      | zero => rfl
      | succ j => exact ih i j

theorem Quiet.post (s : State) (m : Msg) : Quiet s (s.post m) :=
  ⟨⟨rfl, fun _ => rfl, fun _ => rfl, fun _ => rfl⟩, fun _ _ _ => rfl⟩

theorem Quiet.modRecords (s : State) (f : Rec → Rec) : Quiet s (s.modRecords f) :=
  ⟨⟨rfl, fun _ => rfl, fun _ => rfl, fun _ => rfl⟩, fun _ _ _ => rfl⟩

theorem Calm.modPar (s : State) (f : Par → Par) : Calm s (s.modPar f) :=
  ⟨rfl, fun _ => rfl, fun _ => rfl, fun _ => rfl⟩

theorem Quiet.modPar (s : State) {f : Par → Par} (hf : (f s.par).gens = s.par.gens) : Quiet s (s.modPar f) :=
  ⟨.modPar s f, fun k _ _ => by simp only [State.gen, State.modPar_par, hf]⟩

theorem Calm.modGen (s : State) (k : Nat) (f : Gen → Gen) : Calm s (s.modGen k f) := by
  unfold State.modGen
  split
  · exact .refl s
  · exact .modPar s _

theorem Quiet.modSlot (s : State) (n : Nat) {f : ArbSlot → ArbSlot}
    (hf : ∀ a, (f a).position = a.position := by intro _; rfl) :
    Quiet s (s.modSlot n f) := by
  refine ⟨⟨rfl, fun _ => rfl, fun _ => rfl, fun m => ?_⟩, fun _ _ _ => rfl⟩
  have kept : ((s.modSlot n f).slot m).position = (s.slot m).position := modAt_getD_reading ArbSlot.position hf _ n m {}
  unfold State.pos
  rw [kept]
  rfl

theorem Quiet.modEmu (s : State) (n : Nat) {f : Emu → Emu} (hf : ∀ e, (f e).pos = e.pos := by intro _; rfl) :
    Quiet s (Machine.modEmu n f s) := by
  refine ⟨⟨rfl, fun _ => rfl, fun _ => rfl, fun m => ?_⟩, fun _ _ _ => rfl⟩
  have kept : ((Machine.modEmu n f s).emuOf m).map Emu.pos = (s.emuOf m).map Emu.pos :=
    modAt_getD_reading (Option.map Emu.pos) (fun e => by cases e <;> simp [hf]) _ n m none
  have mode : (Machine.modEmu n f s).mgmt.mode = s.mgmt.mode := rfl
  have slot : (Machine.modEmu n f s).slot m = s.slot m := rfl
  unfold State.pos
  rw [mode, slot]
  cases s.mgmt.mode with
  | loop =>
    cases ht : (Machine.modEmu n f s).emuOf m <;> cases hs : s.emuOf m <;> simp_all
  | live => rfl
  | blocked => rfl

/-! ## Frames -/

/-- The frames of URGENT leave the other queues of a port as they are, for one of them goes out first. -/
theorem takeNext_urgent_others {ps : PortState} (hu : ps.urgent ≠ []) :
    (takeNext ps).stream = ps.stream ∧ (takeNext ps).bulk = ps.bulk := by
  obtain ⟨f, l, e⟩ := List.exists_cons_of_ne_nil hu
  by_cases idle : ps.up = true ∧ ps.tx = none
  · rw [takeNext_of_urgent idle.1 idle.2 e]
    exact ⟨rfl, rfl⟩
  · have stays : takeNext ps = ps := by
      unfold takeNext
      split
      · rename_i hup htx
        exact absurd ⟨hup, htx⟩ idle
      · rfl
    rw [stays]
    exact ⟨rfl, rfl⟩

theorem joinQueue_urgent_others (f : QFrame) (ps : PortState) :
    (joinQueue .urgent f ps).stream = ps.stream ∧ (joinQueue .urgent f ps).bulk = ps.bulk := by
  unfold joinQueue
  split
  · exact takeNext_urgent_others (ps := setQueue ps .urgent (ps.urgent ++ [f])) (by simp [setQueue])
  · exact ⟨rfl, rfl⟩

theorem Quiet.enqueue_urgent (p : Port) (f : QFrame) (s : State) : Quiet s (enqueue p .urgent f s) := by
  unfold enqueue
  split
  · have others := joinQueue_urgent_others f
    refine ⟨⟨rfl, fun q => ?_, fun q => ?_, fun _ => rfl⟩, fun _ _ _ => rfl⟩
    · cases p <;> cases q
      · exact (others _).1
      · rfl
      · rfl
      · exact (others _).1
    · cases p <;> cases q
      · exact (others _).2
      · rfl
      · rfl
      · exact (others _).2
  · exact .refl s

theorem Quiet.sendFrame (n : Nat) (c : OrderCode) (tag : Nat) (x : Source) (s : State) : Quiet s (sendFrame n c tag x s) := by
  unfold Machine.sendFrame originate
  split
  · split
    · exact .refl s
    · exact (Quiet.enqueue_urgent _ _ _).trans (.enqueue_urgent _ _ _)
  · exact .refl s

/-! ## Records, channels and the grant -/

theorem Quiet.note (c : NoticeClass) (s : State) : Quiet s (note c s) := .ite (.modRecords s _) (.refl s)

theorem Quiet.testRecords (s : State) : Quiet s (testRecords s) := by
  unfold Machine.testRecords recordEvent
  dsimp only
  split
  · exact .refl s
  · exact ((Quiet.modRecords s _).trans (.modRecords _ _)).trans (.note _ _)

theorem Quiet.reportOpenEnd (n tag : Nat) (t : Told) (s : State) : Quiet s (reportOpenEnd n tag t s) :=
  (Quiet.modRecords s _).trans (.testRecords _)

theorem Quiet.reportBf (n : Nat) (b : BFState) (s : State) : Quiet s (reportBf n b s) :=
  ((Quiet.modRecords s _).trans (.note _ _)).trans (.testRecords _)

/-- R151: a channel moves a generator that is READY and no other. -/
theorem Quiet.readyToClosing (k : Nat) (s : State) : Quiet s (readyToClosing k s) := by
  unfold Machine.readyToClosing setGenState
  split
  · rename_i hr
    split
    · exact .refl s
    · refine Quiet.trans ⟨.modGen s k _, fun j hj hne => ?_⟩ (.note _ _)
      exact State.modGen_gen_other s k j _ hj fun e => hne (e ▸ hr)
  · exact .refl s

theorem Quiet.assignChannel (i : Nat) (r : SyncReq) (s : State) : Quiet s (assignChannel i r s) := by
  have taken : ∀ u, Quiet u (channelTaken r.slot u) := by
    intro u
    unfold channelTaken
    split
    · exact .readyToClosing _ _
    · exact .refl u
  exact ((Quiet.modPar s rfl).trans (taken _)).trans (.note _ _)

theorem Quiet.refillChannel (i : Nat) (s : State) : Quiet s (refillChannel i s) := by
  unfold Machine.refillChannel
  split
  · exact .refl s
  · exact (Quiet.modPar s rfl).trans (.assignChannel _ _ _)

theorem Quiet.dropPlace (n : Nat) (s : State) : Quiet s (dropPlace n s) := by
  unfold Machine.dropPlace
  split
  · exact ((Quiet.modPar s rfl).trans (.note _ _)).trans (.refillChannel _ _)
  · exact .ite (.modPar s rfl) (.refl s)

theorem Quiet.releaseGrant (s : State) : Quiet s (releaseGrant s) :=
  .ite (.refl s) ((Quiet.modPar s rfl).trans (.note _ _))

theorem Quiet.closeEnded (n : Nat) (r : Requester) (g : Bool) (t : Told) (s : State) : Quiet s (closeEnded n r g t s) :=
  ((Quiet.dropPlace n s).trans (.ite (.releaseGrant _) (.refl _))).trans (.ite (.post _ _) (.refl _))

/-! ## Orders -/

theorem Quiet.cancelMove (n : Nat) (s : State) : Quiet s (cancelMove n s) :=
  .ite (.modEmu s n) (.refl s)

theorem Quiet.setMove (n : Nat) (t : OrdType) (s : State) : Quiet s (setMove n t s) :=
  .ite (.modEmu s n) (.refl s)

theorem Quiet.sendOrder (n : Nat) (s : State) : Quiet s (sendOrder n s) := by
  unfold Machine.sendOrder
  split
  · exact .sendFrame _ _ _ _ _
  · exact .refl s

theorem Quiet.removeOrder (n : Nat) (o : Order) (t : Told) (s : State) : Quiet s (removeOrder n o t s) :=
  ((Quiet.modSlot s n).trans (.cancelMove n _)).trans (.note _ _)

theorem Quiet.tellAll (n : Nat) (o : Order) (t : Told) (s : State) : Quiet s (tellAll n o t s) :=
  .foldl (fun u _ => .post u _) _ _

theorem Quiet.releaseLine (n : Nat) (s : State) : Quiet s (releaseLine n s) :=
  .ite (.modSlot s n) (.refl s)

theorem Quiet.afterService (n : Nat) (o : Order) (t : Told) (s : State) : Quiet s (afterService n o t s) := by
  unfold Machine.afterService
  split
  · exact .closeEnded _ _ _ _ _
  · exact .ite ((Quiet.releaseLine n s).trans (.reportOpenEnd _ _ _ _)) (.releaseLine n s)

theorem Quiet.leaveService (n : Nat) (t : Told) (s : State) : Quiet s (leaveService n t s) := by
  unfold Machine.leaveService
  split
  · exact .refl s
  · exact ((Quiet.removeOrder _ _ _ _).trans (.tellAll _ _ _ _)).trans (.afterService _ _ _ _)

theorem Quiet.startWithdraw (n tag : Nat) (c : Source) (s : State) : Quiet s (startWithdraw n tag c s) :=
  (Quiet.modSlot s n).trans (.sendFrame _ _ _ _ _)

theorem Quiet.endClose (n : Nat) (t : Told) (s : State) : Quiet s (endClose n t s) := by
  unfold Machine.endClose
  split
  · split
    · exact .refl s
    · refine (Quiet.leaveService n t s).trans ?_
      split
      · exact .startWithdraw _ _ _ _
      · exact .refl _
  · exact .refl s

theorem Quiet.withdrawOwn (n : Nat) (r : Requester) (s : State) : Quiet s (withdrawOwn n r s) := by
  unfold Machine.withdrawOwn
  split
  · exact .ite (.endClose _ _ _) (.refl s)
  · exact .refl s

theorem Quiet.startProtective (n : Nat) (x : Source) (s : State) : Quiet s (startProtective n x s) := by
  have bf : Quiet s (startBf n s) := .ite ((Quiet.modSlot s n).trans (.reportBf _ _ _)) (.refl s)
  have line : ∀ u, Quiet u (energizeLine n u) := fun u => .ite (.modSlot u n) (.refl u)
  exact .ite (bf.trans (line _)) (.refl s)

theorem Quiet.putOpen (n : Nat) (x : Source) (r : Requester) (s : State) : Quiet s (putOpen n x r s) := by
  have issued : ∀ u, Quiet u (issue n u) := by
    intro u
    unfold issue
    split
    · exact .refl u
    · exact ((Quiet.modSlot u n).trans (.setMove _ _ _)).trans (.sendOrder _ _)
  exact (((Quiet.modSlot s n).trans (.note _ _)).trans (issued _)).trans (.startProtective _ _ _)

theorem Quiet.raiseOpen (x : Source) (r : Requester) (n : Nat) (s : State) : Quiet s (raiseOpen x r n s).1 := by
  have conflict : Quiet s (endConflictingClose n s) := by
    unfold endConflictingClose
    split
    · exact .ite (.endClose _ _ _) (.refl s)
    · exact .refl s
  have window : Quiet s (setWindow n x s) := by
    unfold setWindow
    split
    · exact .modSlot s n
    · exact .modSlot s n
    · exact .refl s
  unfold Machine.raiseOpen
  split
  · exact .refl s
  split
  · exact .refl s
  split
  · exact conflict
  refine window.trans ?_
  dsimp only
  split
  · split
    · exact .ite (.modSlot _ n) ((Quiet.modSlot _ n).trans (.startProtective _ _ _))
    · exact (Quiet.endClose _ _ _).trans (.putOpen _ _ _ _)
  · split
    · exact .refl _
    · exact .putOpen _ _ _ _

/-! ## Acts on one generator -/

theorem Calm.setGenState (k : Nat) (st : GenState) (s : State) : Calm s (setGenState k st s) := by
  unfold Machine.setGenState
  split
  · exact .refl s
  · exact (Calm.modGen s k _).trans (Quiet.note _ _).toCalm

theorem Calm.zeroBias (k : Nat) (s : State) : Calm s (zeroBias k s) := .modGen s k _

theorem Calm.clearAwaited (k : Nat) (s : State) : Calm s (clearAwaited k s) := .modGen s k _

theorem Calm.startIfDemanded (k : Nat) (s : State) : Calm s (startIfDemanded k s) := by
  unfold Machine.startIfDemanded
  dsimp only
  split
  · refine (Calm.setGenState k .starting s).trans ?_
    split
    · exact .setGenState _ _ _
    · exact .refl _
  · exact .refl s

theorem Calm.raiseGenOpen (k : Nat) (s : State) : Calm s (raiseGenOpen k s) := by
  have raised := (Quiet.raiseOpen .schO .par (genSlot k) s).toCalm
  have ended : ∀ u told, Calm u (parAtOnce k .opn told u) := fun u told =>
    (Calm.modGen u k _).trans (Quiet.post _ _).toCalm
  unfold Machine.raiseGenOpen
  split
  · rename_i e; rw [e] at raised; exact raised.trans (.modGen _ _ _)
  · rename_i e; rw [e] at raised; exact raised.trans (ended _ _)
  · rename_i e; rw [e] at raised; exact raised.trans (ended _ _)

/-- R143: the generator has entered FAILED and its close is withdrawn; no open is raised yet. -/
def closeDropped (k : Nat) (c : FailCause) (s : State) : State :=
  clearAwaited k <| endClose (genSlot k) .withdrawn <| zeroBias k <| setGenState k .failed <|
    s.modGen k fun g => { g with cause := some c }

theorem enterFailed_eq {k : Nat} {c : FailCause} {s : State} (hs : (s.gen k).state ≠ .failed) : enterFailed k c s =
    if genPos (closeDropped k c s) k = .opn then closeDropped k c s else raiseGenOpen k (closeDropped k c s) := if_neg hs

theorem Calm.closeDropped (k : Nat) (c : FailCause) (s : State) : Calm s (closeDropped k c s) :=
  ((((Calm.modGen s k _).trans (.setGenState _ _ _)).trans (.zeroBias k _)).trans
    (Quiet.endClose _ _ _).toCalm).trans (.clearAwaited k _)

theorem Calm.enterFailed (k : Nat) (c : FailCause) (s : State) : Calm s (enterFailed k c s) := by
  by_cases hs : (s.gen k).state = .failed
  · rw [show Machine.enterFailed k c s = s from if_pos hs]
    exact .refl s
  · rw [enterFailed_eq hs]
    split
    · exact .closeDropped _ _ _
    · exact (Calm.closeDropped _ _ _).trans (.raiseGenOpen _ _)

theorem Calm.enterManual (k : Nat) (s : State) : Calm s (enterManual k s) := by
  unfold Machine.enterManual
  dsimp only
  refine ((Calm.setGenState k .manual s).trans (.zeroBias k _)).trans
    ((Quiet.endClose (genSlot k) .withdrawn _).toCalm.trans ?_)
  split
  · split
    · exact .clearAwaited _ _
    · exact .refl _
  · exact .refl _

theorem Calm.statusRow (k : Nat) (s : State) : Calm s ((statusRow k s).getD s) := by
  unfold Machine.statusRow
  dsimp only
  split
  · exact .enterManual _ _
  split
  · simp only [Option.getD_some]
    split
    · exact .setGenState _ _ _
    · exact ((Calm.setGenState _ _ _).trans (.zeroBias _ _)).trans (.startIfDemanded _ _)
  split
  · exact .enterFailed _ _ _
  split
  · exact .setGenState _ _ _
  split
  · exact .setGenState _ _ _
  split
  · exact ((Quiet.withdrawOwn _ _ _).toCalm.trans (.clearAwaited _ _)).trans (.setGenState _ _ _)
  · exact .refl s

theorem Calm.settleStatus (k : Nat) (s : State) : Calm s (settleStatus k s) := by
  have two : ∀ x : State, Calm x (let y := (Machine.statusRow k x).getD x; (Machine.statusRow k y).getD y) := fun x =>
    (Calm.statusRow k x).trans (.statusRow k _)
  exact (two s).trans ((two _).trans ((two _).trans (two _)))

/-! ## What a generator holds after each act -/

theorem closeDropped_internal (k : Nat) (c : FailCause) (s : State) : Internal s (closeDropped k c s) :=
  ((((Internal.modGen s k _).trans (.setGenState k .failed _)).trans (.zeroBias k _)).trans
    (.endClose (genSlot k) .withdrawn _)).trans (.clearAwaited k _)

theorem modGen_demand (s : State) (k : Nat) (f : Gen → Gen) : (s.modGen k f).par.demand = s.par.demand := by
  unfold State.modGen
  split <;> rfl

theorem modGen_unload (s : State) (k : Nat) (f : Gen → Gen) : (s.modGen k f).par.unload = s.par.unload := by
  unfold State.modGen
  split <;> rfl

theorem modGen_size (s : State) (k : Nat) (f : Gen → Gen) : (s.modGen k f).par.gens.length = s.par.gens.length := by
  unfold State.modGen
  split
  · rfl
  · exact modAt_length _ _ _

theorem setGenState_demand (k : Nat) (st : GenState) (s : State) : (setGenState k st s).par.demand = s.par.demand := by
  unfold setGenState
  split
  · rfl
  · obtain ⟨r, e⟩ := note_eq .generator (s.modGen k fun g => { g with state := st })
    rw [e]
    exact modGen_demand s k _

section
variable {k : Nat} {s : State} (h1 : 1 ≤ k) (hk : k ≤ s.par.gens.length)
include h1 hk

theorem setGenState_gen (st : GenState) : (setGenState k st s).gen k = { s.gen k with state := st } := by
  unfold setGenState
  split
  · rename_i e
    rw [← e]
  · rename_i hne
    obtain ⟨r, e⟩ := note_eq .generator (s.modGen k fun g => { g with state := st })
    rw [e]
    exact State.modGen_gen_same s k _ h1 hk

theorem zeroBias_gen : (zeroBias k s).gen k = { s.gen k with filter := 0, bias := 0 } :=
  State.modGen_gen_same s k _ h1 hk

theorem clearAwaited_gen : (clearAwaited k s).gen k = { s.gen k with awaited := none } :=
  State.modGen_gen_same s k _ h1 hk

/-- R145: an open raised on a generator that is not READY touches what it awaits only. -/
theorem raiseGenOpen_gen (hr : (s.gen k).state ≠ .ready) :
    ∃ w, (raiseGenOpen k s).gen k = { s.gen k with awaited := w } := by
  have raised := Quiet.raiseOpen .schO .par (genSlot k) s
  have size := (Internal.raiseOpen .schO .par (genSlot k) s).gens
  have kept := raised.gens k h1 hr
  have awaits : ∀ (u : State) (w : Option Awaited), u.gen k = s.gen k → u.par.gens.length = s.par.gens.length →
      (u.modGen k fun g => { g with awaited := w }).gen k = { s.gen k with awaited := w } := by
    intro u w hu hl
    rw [State.modGen_gen_same u k _ h1 (hl ▸ hk), hu]
  unfold raiseGenOpen
  split
  · rename_i e; rw [e] at kept size; exact ⟨_, awaits _ _ kept size⟩
  · rename_i e; rw [e] at kept size; exact ⟨_, awaits _ _ kept size⟩
  · rename_i e; rw [e] at kept size; exact ⟨_, awaits _ _ kept size⟩

theorem closeDropped_gen (c : FailCause) : (closeDropped k c s).gen k =
    { s.gen k with state := .failed, filter := 0, bias := 0, cause := some c, awaited := none } := by
  have noted := State.modGen_gen_same s k (fun g => { g with cause := some c }) h1 hk
  have size0 := (Internal.modGen s k fun g => { g with cause := some c }).gens
  have size1 := (Internal.setGenState k .failed (s.modGen k fun g => { g with cause := some c })).gens.trans size0
  have size2 := (Internal.zeroBias k (setGenState k .failed (s.modGen k fun g => { g with cause := some c }))).gens.trans size1
  have failed : (zeroBias k (setGenState k .failed (s.modGen k fun g => { g with cause := some c }))).gen k =
      { s.gen k with state := .failed, filter := 0, bias := 0, cause := some c } := by
    rw [zeroBias_gen h1 (size1 ▸ hk), setGenState_gen h1 (size0 ▸ hk), noted]
  unfold closeDropped
  generalize zeroBias k (setGenState k .failed (s.modGen k fun g => { g with cause := some c })) = u at failed size2
  rw [clearAwaited_gen h1 (((Internal.endClose (genSlot k) .withdrawn u).gens.trans size2) ▸ hk),
    (Quiet.endClose (genSlot k) .withdrawn u).gens k h1 (by rw [failed]; exact nofun), failed]

/-- R143, R145: a generator that enters FAILED, and what it awaits when its breaker is OPEN. -/
theorem enterFailed_gen (c : FailCause) (hs : (s.gen k).state ≠ .failed) :
    ∃ w, (enterFailed k c s).gen k =
        { s.gen k with state := .failed, filter := 0, bias := 0, cause := some c, awaited := w } ∧
      (s.pos (genSlot k) = .opn → w = none) := by
  have dropped := closeDropped_gen h1 hk c
  have size := (closeDropped_internal k c s).gens
  have pos : genPos (closeDropped k c s) k = s.pos (genSlot k) := (Calm.closeDropped k c s).pos _
  rw [enterFailed_eq hs, pos]
  split
  · exact ⟨none, dropped, fun _ => rfl⟩
  · rename_i hp
    obtain ⟨w, e⟩ := raiseGenOpen_gen h1 (size ▸ hk) (by rw [dropped]; exact nofun)
    exact ⟨w, by rw [e, dropped], fun h => absurd h hp⟩

/-- R143: a generator that enters MANUAL. -/
theorem enterManual_gen :
    ∃ w, (enterManual k s).gen k = { s.gen k with state := .manual, filter := 0, bias := 0, awaited := w } := by
  have size := ((Internal.setGenState k .manual s).trans (.zeroBias k _)).gens
  have manual : (zeroBias k (setGenState k .manual s)).gen k =
      { s.gen k with state := .manual, filter := 0, bias := 0 } := by
    rw [zeroBias_gen h1 ((Internal.setGenState k .manual s).gens ▸ hk), setGenState_gen h1 hk]
  unfold enterManual
  generalize zeroBias k (setGenState k .manual s) = u at manual size
  have ended := (Quiet.endClose (genSlot k) .withdrawn u).gens k h1 (by rw [manual]; exact nofun)
  have size' := (Internal.endClose (genSlot k) .withdrawn u).gens.trans size
  rw [manual] at ended
  have cleared := clearAwaited_gen h1 (size' ▸ hk)
  rw [ended] at cleared
  dsimp only
  split
  · split
    · exact ⟨none, cleared⟩
    · exact ⟨_, ended⟩
  · exact ⟨_, ended⟩

/-- R144: without a start demand OFF stays OFF. -/
theorem enterOff_gen (hd : s.par.demand = false) :
    (enterOff k s).gen k = { s.gen k with state := .off, filter := 0, bias := 0 } := by
  have demand : (zeroBias k (setGenState k .off s)).par.demand = s.par.demand := by
    rw [zeroBias, modGen_demand, setGenState_demand]
  have stays : enterOff k s = zeroBias k (setGenState k .off s) := by
    unfold enterOff startIfDemanded
    exact if_neg fun h => by rw [demand, hd] at h; exact Bool.noConfusion h.1
  rw [stays, zeroBias_gen h1 ((Internal.setGenState k .off s).gens ▸ hk), setGenState_gen h1 hk]

/-- R145: a close of a generator in CLOSING that this unit withdraws. -/
theorem withdrawGenClose_gen (hr : (s.gen k).state ≠ .ready) :
    (withdrawGenClose k s).gen k = { s.gen k with awaited := none } := by
  unfold withdrawGenClose
  rw [clearAwaited_gen h1 ((Internal.withdrawOwn (genSlot k) .par s).gens ▸ hk),
    (Quiet.withdrawOwn (genSlot k) .par s).gens k h1 hr]

end

/-! ## What the rows of R143 never touch -/

/-- What a generator holds of its last status (R141). -/
def reportOf (g : Gen) : Bool × Bool × Bool × Bool × Option Nat × Bool :=
  (g.running, g.ready, g.fault, g.manualMode, g.lastStat, g.lost)

theorem setGenState_report {k : Nat} {s : State} (h1 : 1 ≤ k) (hk : k ≤ s.par.gens.length) (st : GenState) :
    reportOf ((setGenState k st s).gen k) = reportOf (s.gen k) := by
  rw [setGenState_gen h1 hk]
  rfl

theorem startIfDemanded_report {k : Nat} {s : State} (h1 : 1 ≤ k) (hk : k ≤ s.par.gens.length) :
    reportOf ((startIfDemanded k s).gen k) = reportOf (s.gen k) := by
  have starting := setGenState_report h1 hk .starting
  have size := (Internal.setGenState k .starting s).gens
  unfold startIfDemanded
  dsimp only
  split
  · split
    · exact (setGenState_report h1 (size ▸ hk) .ready).trans starting
    · exact starting
  · rfl

theorem statusRow_report {k : Nat} {s : State} (h1 : 1 ≤ k) (hk : k ≤ s.par.gens.length) :
    reportOf (((statusRow k s).getD s).gen k) = reportOf (s.gen k) := by
  unfold statusRow
  dsimp only
  split
  · obtain ⟨w, e⟩ := enterManual_gen h1 hk
    exact (congrArg reportOf e).trans rfl
  split
  · simp only [Option.getD_some]
    split
    · exact setGenState_report h1 hk _
    · have size := ((Internal.setGenState k .off s).trans (.zeroBias k _)).gens
      refine (startIfDemanded_report h1 (size ▸ hk)).trans ?_
      rw [zeroBias_gen h1 ((Internal.setGenState k .off s).gens ▸ hk)]
      exact setGenState_report h1 hk .off
  split
  · rename_i hf
    obtain ⟨w, e, _⟩ := enterFailed_gen h1 hk (if (s.gen k).fault then .controller else .statusLost) hf.2.1
    exact (congrArg reportOf e).trans rfl
  split
  · exact setGenState_report h1 hk _
  split
  · exact setGenState_report h1 hk _
  split
  · rename_i hc
    have size := (Internal.withdrawGenClose k s).gens
    refine (setGenState_report h1 (size ▸ hk) .starting).trans ?_
    rw [withdrawGenClose_gen h1 hk (by rw [hc.2]; exact nofun)]
    rfl
  · rfl

theorem settleStatus_report {k : Nat} {s : State} (h1 : 1 ≤ k) (hk : k ≤ s.par.gens.length) :
    reportOf ((settleStatus k s).gen k) = reportOf (s.gen k) := by
  let again := fun x => (statusRow k x).getD x
  have applied : ∀ n, (again^[n] s).par.gens.length = s.par.gens.length ∧
      reportOf ((again^[n] s).gen k) = reportOf (s.gen k) := by
    intro n
    induction n with
    | zero => exact ⟨rfl, rfl⟩
    | succ n ih =>
      obtain ⟨size, report⟩ := ih
      rw [Function.iterate_succ_apply']
      exact ⟨(Internal.statusRow k _).gens.trans size, (statusRow_report h1 (size ▸ hk)).trans report⟩
  exact (applied 8).2

/-! ## The rows of R143 -/

/-- A generator to which no row applies. -/
structure Settled (g : Gen) : Prop where
  manual : g.manualMode = true ↔ g.state = .manual
  failed : g.fault = true ∨ g.lost = true → g.state = .failed ∨ g.state = .manual
  up : (g.running && g.ready) = true → g.state ≠ .starting
  down : (g.running && g.ready) = false → g.state ≠ .ready ∧ g.state ≠ .closing

theorem statusRow_of_settled {k : Nat} {s : State} (h : Settled (s.gen k)) : statusRow k s = none := by
  obtain ⟨manual, failed, up, down⟩ := h
  unfold statusRow
  dsimp only
  rw [if_neg fun c => c.2 (manual.1 c.1), if_neg fun c => by rw [manual.2 c.2] at c; exact Bool.noConfusion c.1,
    if_neg fun c => (failed c.1).elim c.2.1 c.2.2, if_neg fun c => up c.1 c.2, if_neg fun c => (down c.1).1 c.2,
    if_neg fun c => (down c.1).2 c.2]

theorem settleStatus_of_settled {k : Nat} {s : State} (h : Settled (s.gen k)) : settleStatus k s = s := by
  simp only [settleStatus, statusRow_of_settled h, Option.getD_none]

/-- Where one row leads to a settled generator, it is the only one. -/
theorem settleStatus_of_row {k : Nat} {s t : State} (h : statusRow k s = some t) (ht : Settled (t.gen k)) :
    settleStatus k s = t := by
  simp only [settleStatus, h, Option.getD_some, statusRow_of_settled ht, Option.getD_none]

section
variable {k : Nat} {s : State} (h1 : 1 ≤ k) (hk : k ≤ s.par.gens.length)
include h1 hk

/-- Row 1. -/
theorem settleStatus_to_manual (hm : (s.gen k).manualMode = true) (hs : (s.gen k).state ≠ .manual) :
    ∃ w, (settleStatus k s).gen k = { s.gen k with state := .manual, filter := 0, bias := 0, awaited := w } := by
  obtain ⟨w, e⟩ := enterManual_gen h1 hk
  have row : statusRow k s = some (enterManual k s) := if_pos ⟨hm, hs⟩
  have settled : Settled ((enterManual k s).gen k) := by
    rw [e]
    exact ⟨iff_of_true hm rfl, fun _ => .inr rfl, fun _ => nofun, fun _ => ⟨nofun, nofun⟩⟩
  rw [settleStatus_of_row row settled]
  exact ⟨w, e⟩

/-- Row 2, with the breaker CLOSED. -/
theorem settleStatus_to_online (hm : (s.gen k).manualMode = false) (hs : (s.gen k).state = .manual)
    (hf : (s.gen k).fault = false) (hl : (s.gen k).lost = false) (hp : s.pos (genSlot k) = .closed) :
    (settleStatus k s).gen k = { s.gen k with state := if s.par.unload.isSome then .unloading else .online } := by
  have e := setGenState_gen h1 hk (if s.par.unload.isSome then .unloading else .online)
  have row : statusRow k s = some (enterOnline k s) := by simp [statusRow, hm, hs, genPos, hp]
  have settled : Settled ((enterOnline k s).gen k) := by
    rw [enterOnline, e]
    split
    · exact ⟨by simp [hm], by simp [hf, hl], fun _ => nofun, fun _ => ⟨nofun, nofun⟩⟩
    · exact ⟨by simp [hm], by simp [hf, hl], fun _ => nofun, fun _ => ⟨nofun, nofun⟩⟩
  rw [settleStatus_of_row row settled]
  exact e

/-- Row 2, with the breaker not CLOSED and no start demand. -/
theorem settleStatus_to_off (hm : (s.gen k).manualMode = false) (hs : (s.gen k).state = .manual)
    (hf : (s.gen k).fault = false) (hl : (s.gen k).lost = false) (hp : s.pos (genSlot k) ≠ .closed)
    (hd : s.par.demand = false) :
    (settleStatus k s).gen k = { s.gen k with state := .off, filter := 0, bias := 0 } := by
  have e := enterOff_gen h1 hk hd
  have row : statusRow k s = some (enterOff k s) := by simp [statusRow, hm, hs, genPos, hp]
  have settled : Settled ((enterOff k s).gen k) := by
    rw [e]
    exact ⟨by simp [hm], by simp [hf, hl], fun _ => nofun, fun _ => ⟨nofun, nofun⟩⟩
  rw [settleStatus_of_row row settled]
  exact e

/-- Row 3. -/
theorem settleStatus_to_failed (hm : (s.gen k).manualMode = false) (hs : (s.gen k).state ≠ .manual)
    (hs' : (s.gen k).state ≠ .failed) (hf : (s.gen k).fault = true ∨ (s.gen k).lost = true) :
    ∃ w, (settleStatus k s).gen k =
        { s.gen k with
          state := .failed, filter := 0, bias := 0, awaited := w
          cause := some (if (s.gen k).fault then .controller else .statusLost) } ∧
      (s.pos (genSlot k) = .opn → w = none) := by
  obtain ⟨w, e, hw⟩ := enterFailed_gen h1 hk (if (s.gen k).fault then .controller else .statusLost) hs'
  have row : statusRow k s = some (enterFailed k (if (s.gen k).fault then .controller else .statusLost) s) := by
    simp [statusRow, hm, hs, hs', hf]
  have settled : Settled ((enterFailed k (if (s.gen k).fault then .controller else .statusLost) s).gen k) := by
    rw [e]
    exact ⟨by simp [hm], fun _ => .inl rfl, fun _ => nofun, fun _ => ⟨nofun, nofun⟩⟩
  rw [settleStatus_of_row row settled]
  exact ⟨w, e, hw⟩

/-- Row 4. -/
theorem settleStatus_to_ready (hm : (s.gen k).manualMode = false) (hf : (s.gen k).fault = false)
    (hl : (s.gen k).lost = false) (hup : ((s.gen k).running && (s.gen k).ready) = true) (hs : (s.gen k).state = .starting) :
    ((settleStatus k s).gen k).state = .ready := by
  have e := setGenState_gen h1 hk .ready
  have row : statusRow k s = some (setGenState k .ready s) := by simp [statusRow, hm, hf, hl, hup, hs]
  have settled : Settled ((setGenState k .ready s).gen k) := by
    rw [e]
    exact ⟨by simp [hm], by simp [hf, hl], fun _ => nofun, fun h => by simp [hup] at h⟩
  rw [settleStatus_of_row row settled, e]

/-- Rows 5 and 6. -/
theorem settleStatus_to_starting (hm : (s.gen k).manualMode = false) (hf : (s.gen k).fault = false)
    (hl : (s.gen k).lost = false) (hup : ((s.gen k).running && (s.gen k).ready) = false)
    (hs : (s.gen k).state = .ready ∨ (s.gen k).state = .closing) :
    ((settleStatus k s).gen k).state = .starting := by
  have settled : Settled { s.gen k with state := .starting } :=
    ⟨by simp [hm], by simp [hf, hl], fun h => by simp [hup] at h, fun _ => ⟨nofun, nofun⟩⟩
  rcases hs with hs | hs
  · have e := setGenState_gen h1 hk .starting
    have row : statusRow k s = some (setGenState k .starting s) := by simp [statusRow, hm, hf, hl, hup, hs]
    rw [settleStatus_of_row row (e ▸ settled), e]
  · have e := setGenState_gen (s := withdrawGenClose k s) h1 ((Internal.withdrawGenClose k s).gens ▸ hk) .starting
    rw [withdrawGenClose_gen h1 hk (by rw [hs]; exact nofun)] at e
    have row : statusRow k s = some (setGenState k .starting (withdrawGenClose k s)) := by
      simp [statusRow, hm, hf, hl, hup, hs]
    have settled' : Settled { s.gen k with state := .starting, awaited := none } :=
      ⟨settled.manual, settled.failed, settled.up, settled.down⟩
    rw [settleStatus_of_row row (e ▸ settled'), e]

/-- R143, R144: the state of a generator in AUTO without a fault follows whether it is running and ready. -/
theorem settleStatus_follows (hm : (s.gen k).manualMode = false) (hf : (s.gen k).fault = false)
    (hl : (s.gen k).lost = false) :
    ((s.gen k).state = .starting → ((settleStatus k s).gen k).state =
      if ((s.gen k).running && (s.gen k).ready) = true then .ready else .starting) ∧
    ((s.gen k).state = .ready → ((settleStatus k s).gen k).state =
      if ((s.gen k).running && (s.gen k).ready) = true then .ready else .starting) ∧
    ((s.gen k).state = .closing → ((settleStatus k s).gen k).state =
      if ((s.gen k).running && (s.gen k).ready) = true then .closing else .starting) ∧
    ((s.gen k).state = .off ∨ (s.gen k).state = .online ∨ (s.gen k).state = .unloading ∨ (s.gen k).state = .failed →
      ((settleStatus k s).gen k).state = (s.gen k).state) := by
  have ready := settleStatus_to_ready h1 hk hm hf hl
  have starting := settleStatus_to_starting h1 hk hm hf hl
  have stays : (s.gen k).state ≠ .manual →
      (((s.gen k).running && (s.gen k).ready) = true → (s.gen k).state ≠ .starting) →
      (((s.gen k).running && (s.gen k).ready) = false → (s.gen k).state ≠ .ready ∧ (s.gen k).state ≠ .closing) →
      ((settleStatus k s).gen k).state = (s.gen k).state := fun hs hup hdown => by
    rw [settleStatus_of_settled ⟨by simp [hm, hs], by simp [hf, hl], hup, hdown⟩]
  generalize ((s.gen k).running && (s.gen k).ready) = up at *
  refine ⟨fun hs => ?_, fun hs => ?_, fun hs => ?_, fun hs => ?_⟩
  · cases up with
    | true => exact ready rfl hs
    | false => exact (stays (by simp [hs]) nofun (by simp [hs])).trans hs
  · cases up with
    | true => exact (stays (by simp [hs]) (by simp [hs]) nofun).trans hs
    | false => exact starting rfl (.inl hs)
  · cases up with
    | true => exact (stays (by simp [hs]) (by simp [hs]) nofun).trans hs
    | false => exact starting rfl (.inr hs)
  · rcases hs with hs | hs | hs | hs <;> exact stays (by simp [hs]) (by simp [hs]) (by simp [hs])

/-- R141, R143: a lost status fails a generator in AUTO. -/
theorem loseStatus_gen (hm : (s.gen k).manualMode = false) (hst : (s.gen k).state ≠ .manual) :
    ((loseStatus k s).gen k).lost = true ∧ ((loseStatus k s).gen k).state = .failed ∧ ((s.gen k).state ≠ .failed →
      ((loseStatus k s).gen k).cause = some (if (s.gen k).fault then .controller else .statusLost) ∧
      ((loseStatus k s).gen k).bias = 0 ∧
      (s.pos (genSlot k) = .opn → ((loseStatus k s).gen k).awaited = none)) := by
  have size := modGen_size s k fun g => { g with lost := true }
  have taken := State.modGen_gen_same s k (fun g => { g with lost := true }) h1 hk
  have pos := (Calm.modGen s k fun g => { g with lost := true }).pos (genSlot k)
  unfold loseStatus
  generalize (s.modGen k fun g => { g with lost := true }) = w at *
  have wk : k ≤ w.par.gens.length := size ▸ hk
  by_cases hs : (s.gen k).state = .failed
  · have settled : Settled (w.gen k) := by
      rw [taken]
      exact ⟨by simp [hm, hs], fun _ => .inl hs, fun _ => by simp [hs], fun _ => by simp [hs]⟩
    rw [settleStatus_of_settled settled, taken]
    exact ⟨rfl, hs, fun h => absurd hs h⟩
  · obtain ⟨v, moved, awaits⟩ := settleStatus_to_failed (k := k) (s := w) h1 wk (by rw [taken]; exact hm)
      (by rw [taken]; exact hst) (by rw [taken]; exact hs) (by rw [taken]; exact .inr rfl)
    rw [moved, taken]
    exact ⟨rfl, rfl, fun _ => ⟨rfl, rfl, fun hp => awaits (pos.trans hp)⟩⟩

end

/-! ## The frame -/

/-- R141: a generator with the time and the fields of a frame. -/
def withReport (now : Nat) (x : GenstatPayload) (g : Gen) : Gen :=
  { g with running := x.running, ready := x.ready, fault := x.fault, manualMode := x.manualMode
           lastStat := some now, lost := false }

theorem sameStatus_iff {g : Gen} {x : GenstatPayload} : sameStatus g x = true ↔
    g.running = x.running ∧ g.ready = x.ready ∧ g.fault = x.fault ∧ g.manualMode = x.manualMode := by
  simp [sameStatus, and_assoc]

theorem takeGenstat_same {x : GenstatPayload} {s : State} (h : sameStatus (s.gen x.gen) x = true) :
    takeGenstat x s = s.modGen x.gen (withReport s.now x) := if_pos h

theorem takeGenstat_other {x : GenstatPayload} {s : State} (h : sameStatus (s.gen x.gen) x ≠ true) :
    takeGenstat x s = settleStatus x.gen (s.modGen x.gen (withReport s.now x)) := if_neg h

theorem Calm.takeGenstat (x : GenstatPayload) (s : State) : Calm s (takeGenstat x s) := by
  have taken := Calm.modGen s x.gen (withReport s.now x)
  by_cases h : sameStatus (s.gen x.gen) x = true
  · rw [takeGenstat_same h]
    exact taken
  · rw [takeGenstat_other h]
    exact taken.trans (.settleStatus _ _)

/-- R6, R141: the frames that the Paralleling Unit does not take. -/
theorem handGenstat_not_taken {f : EthFrame} {h : Header} {s : State} (hn : s.blocksRun = false ∨
    genstatPayload h f.body = none ∨ ∃ x, genstatPayload h f.body = some x ∧
      ((s.genRow x.gen).present = false ∨ (s.genRow x.gen).station ≠ h.src)) : handGenstat f h s = s := by
  unfold handGenstat
  split
  · rename_i x hx
    refine if_neg fun ⟨hrun, hvalid⟩ => ?_
    simp only [genstatValid, Bool.and_eq_true, decide_eq_true_eq] at hvalid
    rcases hn with hn | hn | ⟨y, hy, hn⟩
    · simp [hn] at hrun
    · simp [hn] at hx
    · cases hy.symm.trans hx
      simp [hvalid] at hn
  · rfl

theorem handGenstat_taken {f : EthFrame} {h : Header} {s : State} {x : GenstatPayload}
    (hx : genstatPayload h f.body = some x) (hrun : s.blocksRun = true) (hp : (s.genRow x.gen).present = true)
    (hsrc : (s.genRow x.gen).station = h.src) : handGenstat f h s = finish (takeGenstat x s) := by
  have valid : genstatValid s h.src x = true := by simp [genstatValid, hp, hsrc]
  unfold handGenstat
  rw [hx]
  exact if_pos ⟨hrun, valid⟩

theorem genstatPayload_eq_none {h : Header} {b : List Byte} : genstatPayload h b = none ↔
    h.payloadLen ≠ 5 ∨ byteAt b 8 = 0 ∨ 8 < byteAt b 8 ∨ ∃ i, 9 ≤ i ∧ i ≤ 12 ∧ 1 < byteAt b i := by
  unfold genstatPayload
  split
  · rename_i hc
    obtain ⟨hlen, h1, h8, b9, b10, b11, b12⟩ := hc
    simp only [reduceCtorEq, false_iff]
    rintro (h | h | h | ⟨i, hi, hi', h⟩)
    · exact h hlen
    · omega
    · omega
    · have : i = 9 ∨ i = 10 ∨ i = 11 ∨ i = 12 := by omega
      rcases this with rfl | rfl | rfl | rfl <;> omega
  · rename_i hc
    simp only [true_iff]
    by_contra hn
    push Not at hn
    obtain ⟨hlen, h1, h8, hb⟩ := hn
    exact hc ⟨hlen, by omega, h8, hb 9 (by omega) (by omega), hb 10 (by omega) (by omega), hb 11 (by omega) (by omega),
      hb 12 (by omega) (by omega)⟩

theorem genstatPayload_eq_some {h : Header} {b : List Byte} {x : GenstatPayload} (hx : genstatPayload h b = some x) :
    x = ⟨byteAt b 8, byteAt b 9 = 1, byteAt b 10 = 1, byteAt b 11 = 1, byteAt b 12 = 1⟩ ∧ 1 ≤ byteAt b 8 ∧
      byteAt b 8 ≤ 8 := by
  unfold genstatPayload at hx
  split at hx
  · rename_i hc
    exact ⟨(Option.some.inj hx).symm, hc.2.1, hc.2.2.1⟩
  · cases hx

/-! ## The statement -/

theorem takeGenstat_report {x : GenstatPayload} {s : State} (h1 : 1 ≤ x.gen) (hk : x.gen ≤ s.par.gens.length) :
    reportOf ((takeGenstat x s).gen x.gen) = (x.running, x.ready, x.fault, x.manualMode, some s.now, false) := by
  have size := modGen_size s x.gen (withReport s.now x)
  have taken := State.modGen_gen_same s x.gen (withReport s.now x) h1 hk
  by_cases h : sameStatus (s.gen x.gen) x = true
  · rw [takeGenstat_same h, taken]
    rfl
  · rw [takeGenstat_other h, settleStatus_report h1 (size ▸ hk), taken]
    rfl

/-- Settles O43: the frame is forwarded and its fields are taken; then at most one row of R143 moves the generator. -/
theorem statusMovesGenerator : Obligations.StatusMovesGenerator := by
  refine ⟨fun p f h x s hs hin hx hrun hp hsrc => ?_, fun p f h s hr hc hk hn => ?_,
    fun h b => ⟨genstatPayload_eq_none, fun x hx => ?_⟩,
    fun k t s hs h1 h8 ht hb hp hl => ⟨fun hd hm hst => ?_, fun hd => ?_⟩⟩
  · obtain ⟨l, e⟩ := forwardVendor_eq p f h s
    have sent := forwardVendor_forwarded f h hin.received
    rw [hin.kind] at sent
    have outside := ((Internal.forwardVendor p f h s).trans (.takeGenstat x _)).outside
    have handed : exec (.genstat p f) s = .next (finish (takeGenstat x (forwardVendor p f h s))) := by
      refine congrArg Host.Outcome.next ((takeFrame_inward hin _).trans ?_)
      rw [e]
      exact handGenstat_taken hx hrun hp hsrc
    have bounds : 1 ≤ x.gen ∧ x.gen ≤ 8 := by
      obtain ⟨rfl, h1, h8⟩ := genstatPayload_eq_some hx
      exact ⟨h1, h8⟩
    obtain ⟨h1, h8⟩ := bounds
    have gens : ∀ k, (forwardVendor p f h s).gen k = s.gen k := fun k => by rw [e]; rfl
    have pos : ∀ n, (forwardVendor p f h s).pos n = s.pos n := fun n => by rw [e]; rfl
    have par : (forwardVendor p f h s).par = s.par := by rw [e]
    have now : (forwardVendor p f h s).now = s.now := by rw [e]
    have hk : x.gen ≤ (forwardVendor p f h s).par.gens.length := par ▸ hs.gens ▸ h8
    generalize forwardVendor p f h s = v at *
    have calm := Calm.takeGenstat x v
    have report := takeGenstat_report h1 hk
    simp only [reportOf, Prod.mk.injEq, now] at report
    obtain ⟨running, ready, fault, manual, stat, lost⟩ := report
    simp only [← gens, ← pos, ← par]
    refine ⟨v, _, handed, calm.seqs.trans (by rw [e]), outside, sent, fun hsame => ?_,
      fun q => ⟨calm.stream q, calm.bulk q⟩, running, ready, fault, manual, stat, lost, fun hsame => ?_, fun hother => ?_⟩
    · rw [takeGenstat_same (sameStatus_iff.2 hsame)]
      exact State.modGen_link _ _ _
    · rw [takeGenstat_same (sameStatus_iff.2 hsame), State.modGen_gen_same _ _ _ h1 hk]
      exact ⟨rfl, rfl, rfl⟩
    · rw [takeGenstat_other (mt sameStatus_iff.1 hother)]
      have size := modGen_size v x.gen (withReport v.now x)
      have taken := State.modGen_gen_same v x.gen (withReport v.now x) h1 hk
      have wpos := (Calm.modGen v x.gen (withReport v.now x)).pos (genSlot x.gen)
      have demand := modGen_demand v x.gen (withReport v.now x)
      have unload := modGen_unload v x.gen (withReport v.now x)
      generalize v.modGen x.gen (withReport v.now x) = w at *
      have wk : x.gen ≤ w.par.gens.length := size ▸ hk
      have wlost : (w.gen x.gen).lost = false := by rw [taken]; rfl
      have wmanual : (w.gen x.gen).manualMode = x.manualMode := by rw [taken]; rfl
      have wfault : (w.gen x.gen).fault = x.fault := by rw [taken]; rfl
      have wup : ((w.gen x.gen).running && (w.gen x.gen).ready) = (x.running && x.ready) := by rw [taken]; rfl
      have wstate : (w.gen x.gen).state = (v.gen x.gen).state := by rw [taken]; rfl
      rw [← wstate, ← wmanual, ← wfault, ← wpos, ← demand, ← unload]
      refine ⟨fun hm hs => ?_, fun hm hs hf hp => ?_, fun hm hs hf hp hd => ?_, fun hm hs hs' hf => ?_, fun hm hf => ?_⟩
      · obtain ⟨_, moved⟩ := settleStatus_to_manual h1 wk hm hs
        rw [moved]
        exact ⟨rfl, rfl, rfl⟩
      · rw [settleStatus_to_online h1 wk hm hs hf wlost hp]
      · rw [settleStatus_to_off h1 wk hm hs hf wlost hp hd]
        exact ⟨rfl, rfl, rfl⟩
      · obtain ⟨_, moved, _⟩ := settleStatus_to_failed h1 wk hm hs hs' (.inl hf)
        rw [moved, hf]
        exact ⟨rfl, rfl, rfl, rfl⟩
      · simp only [← Bool.and_eq_true, ← wup]
        exact settleStatus_follows h1 wk hm hf wlost
  · have sent := forwardVendor_forwarded f h hr
    rw [hk] at sent
    refine ⟨_, congrArg Host.Outcome.next (takeFrame_not_taken hr hc hk (hn.imp_right fun hn => ?_)), sent⟩
    obtain ⟨l, e⟩ := forwardVendor_eq p f h s
    rw [e]
    exact handGenstat_not_taken hn
  · obtain ⟨rfl, _, _⟩ := genstatPayload_eq_some hx
    simp
  · have hk : k ≤ s.par.gens.length := hs.gens ▸ h8
    have due : statusLossDue s k = true := statusLossDue_iff.2 ⟨t, ht, hb, hp, hl, hd⟩
    have handed : exec (.statusLoss k) s = .next (finish (loseStatus k s)) := congrArg Host.Outcome.next (if_pos due)
    have calm := (Calm.modGen s k fun g => { g with lost := true }).trans (.settleStatus k _)
    exact ⟨_, handed, calm.seqs, (Internal.loseStatus k s).outside, loseStatus_gen h1 hk hm hst⟩
  · have due : ¬statusLossDue s k = true := fun h => by
      obtain ⟨t', ht', _, _, _, h⟩ := statusLossDue_iff.1 h
      cases ht.symm.trans ht'
      omega
    exact congrArg Host.Outcome.next (if_neg due)

end Sys2Proof.Machine
end

section
/-!
The arrival of a sample set while the processing index is unset (O14).
-/

namespace Sys2Proof.Machine

/-- R18: a set is buffered without regard to the state of its stream. -/
theorem storeEarly_woken (x : SampleSet) (r : StreamRec) :
    storeEarly x (woken r) = { storeEarly x r with state := (woken r).state } := by
  obtain ⟨state, buffer, last, sync, delRun, subRun, outcomes, latest, arrRun⟩ := r
  cases latest with
  | none => rfl
  | some m =>
    simp only [storeEarly, woken]
    split_ifs <;> rfl

/-- R18: the first set of a stream. -/
theorem storeEarly_first (x : SampleSet) {r : StreamRec} (h : r.latest = none) :
    storeEarly x r = { r with buffer := [x], latest := some x.index, arrRun := 1 } := by
  simp only [storeEarly, h]

theorem buffered_eq_true {l : List SampleSet} {j : Nat} : buffered l j = true ↔ ∃ y ∈ l, y.index = j := by
  simp [buffered]

/-- R18: a further set of a stream, by the first case that applies. -/
theorem storeEarly_further (x : SampleSet) {r : StreamRec} {m : Nat} (h : r.latest = some m) :
    if ∃ y ∈ r.buffer, y.index = x.index then storeEarly x r = r
    else if 1 ≤ aheadBy x.index m ∧ aheadBy x.index m ≤ 32767 then
      (storeEarly x r).latest = some x.index ∧ x ∈ (storeEarly x r).buffer ∧
        (storeEarly x r).arrRun = (if aheadBy x.index m = 1 then r.arrRun + 1 else 1) ∧
        ∀ y ∈ r.buffer, y ∈ (storeEarly x r).buffer ↔ aheadBy x.index y.index ≤ 15
    else if 1 ≤ aheadBy m x.index ∧ aheadBy m x.index ≤ 15 then storeEarly x r = { r with buffer := r.buffer ++ [x] }
    else storeEarly x r = r := by
  simp only [storeEarly, h, ← buffered_eq_true]
  by_cases held : buffered r.buffer x.index = true
  · simp only [held, ↓reduceIte]
  by_cases ahead : 1 ≤ aheadBy x.index m ∧ aheadBy x.index m ≤ 32767
  · simp only [held, ahead, and_self, ↓reduceIte]
    refine ⟨rfl, by simp, rfl, fun y hy => ?_⟩
    have other : y ≠ x := fun e => held (buffered_eq_true.2 ⟨y, hy, e ▸ rfl⟩)
    simp [hy, other]
  · simp only [held, ahead, ↓reduceIte]
    split_ifs <;> rfl

/-- R18: a stream to which a set has come has a latest index. -/
theorem storeEarly_latest (x : SampleSet) (r : StreamRec) : ∃ m, (storeEarly x r).latest = some m := by
  obtain ⟨state, buffer, last, sync, delRun, subRun, outcomes, latest, arrRun⟩ := r
  cases latest with
  | none => exact ⟨_, rfl⟩
  | some m =>
    simp only [storeEarly]
    split_ifs <;> exact ⟨_, rfl⟩

/-- R19: the index is set at an arrival run of 32. -/
def setAtRun (r : Nat) (u : State) : State :=
  match (u.stream r).latest with
  | some m => if 32 ≤ (u.stream r).arrRun then setIndex r m u else u
  | none => u

/-- R17: the stream `r` of `s` has been woken in `v`. -/
structure Woken (r : Nat) (s v : State) : Prop where
  frame : v = { s with intake := v.intake, records := v.records }
  intake : v.intake = { s.intake with streams := v.intake.streams }
  size : v.intake.streams.length = s.intake.streams.length
  others : ∀ i, i ≠ r → v.stream i = s.stream i
  stream : v.stream r = woken (s.stream r)

/-- R17: the first act of an arrival. -/
theorem woken_when_idle {r : Nat} {s : State} (hr : r < s.intake.streams.length) :
    Woken r s (if (s.stream r).state = .idle then note .stream (modStream r (fun y => { y with state := .acquiring }) s)
      else s) := by
  split
  · rename_i hidle
    obtain ⟨rec, e⟩ := note_eq .stream (modStream r (fun y => { y with state := .acquiring }) s)
    rw [e]
    refine ⟨rfl, rfl, modAt_length _ _ _, fun i hi => State.modStream_stream_other (s := s) _ hi, ?_⟩
    refine (State.modStream_stream_same (s := s) _ hr).trans ?_
    simp [woken, hidle]
  · rename_i hidle
    exact ⟨rfl, rfl, rfl, fun _ _ => rfl, by simp [woken, hidle]⟩

/-- What an arrival leaves, while the processing index is unset, before the test for the run of 32. -/
structure ArrivedEarly (r : Nat) (x : SampleSet) (s u : State) : Prop where
  frame : u = { s with intake := u.intake, records := u.records }
  unset : u.intake.k = none
  size : u.intake.streams.length = s.intake.streams.length
  others : ∀ i, i ≠ r → u.stream i = s.stream i
  stream : u.stream r = { storeEarly x (s.stream r) with state := (woken (s.stream r)).state }

/-- R17, R18: the stream is woken, and the set stored or dropped; then comes the test for the run of 32. -/
theorem arrive_early {r : Nat} {s : State} (x : SampleSet) (hr : r < s.intake.streams.length) (hk : s.intake.k = none) :
    ∃ u, ArrivedEarly r x s u ∧ arrive r x s = setAtRun r u := by
  have wake := woken_when_idle hr
  unfold arrive
  generalize (if (s.stream r).state = .idle then note .stream (modStream r (fun y => { y with state := .acquiring }) s)
    else s) = v at *
  have unset : v.intake.k = none := by rw [wake.intake, hk]
  refine ⟨modStream r (storeEarly x) v, ?_, ?_⟩
  · refine ⟨?_, unset, (modAt_length _ _ _).trans wake.size, fun i hi => ?_, ?_⟩
    · rw [wake.frame]
      rfl
    · exact (State.modStream_stream_other _ hi).trans (wake.others i hi)
    · rw [State.modStream_stream_same _ (wake.size ▸ hr), wake.stream, storeEarly_woken]
  · simp only [unset]
    rfl

/-- R19: what setting the index leaves. -/
structure IndexSet (r m : Nat) (s u : State) : Prop where
  frame : u = { s with intake := u.intake, records := u.records }
  index : u.intake.k = some m
  count : u.intake.count = 0
  time : u.intake.lastProc = some s.now
  good : (u.stream r).state = .good
  trimmed : ∀ z ∈ u.intake.streams, z.delRun = 0 ∧ z.subRun = 0 ∧ z.outcomes = [] ∧
    ∀ y ∈ z.buffer, aheadBy y.index m ≤ 15

/-- R19: the first stream to reach a run of 32 becomes GOOD, and its latest index is the processing index. -/
theorem setIndex_indexSet {r : Nat} (m : Nat) {s : State} (hr : r < s.intake.streams.length) :
    IndexSet r m s (setIndex r m s) := by
  unfold setIndex
  obtain ⟨rec, e⟩ := note_eq .stream ((modStream r (fun x => { x with state := .good }) s).modIntake fun i =>
    { i with streams := i.streams.map (trimStream m), k := some m, count := 0, filled := 0, lastProc := some s.now })
  rw [e]
  refine ⟨rfl, rfl, rfl, rfl, ?_, fun z hz => ?_⟩
  · have good : ((modStream r (fun x => { x with state := .good }) s).stream r).state = .good := by
      rw [State.modStream_stream_same _ hr]
    simpa [State.stream, modStream, hr, trimStream] using good
  · obtain ⟨y, _, rfl⟩ := List.mem_map.1 hz
    exact ⟨rfl, rfl, rfl, fun y hy => of_decide_eq_true (List.mem_filter.1 hy).2⟩

/-- R21: without a processing index nothing is processed. -/
theorem processAll_of_unset {s : State} (h : s.intake.k = none) : processAll s = s := by
  simp only [processAll, processWhile, processable, h, Bool.false_eq_true, ↓reduceIte]

/-- R6, R17: a SAMPLE frame that is taken is forwarded, and its set arrives. -/
theorem exec_sample {p : Port} {f : EthFrame} {h : Header} {x : SamplePayload} {r : Nat} {s : State}
    (hfor : SampleFor p f h x r s) :
    exec (.sample p f) s = .next (processAll (arrive r ⟨x.index, x.sync, x.values⟩ (forwardVendor p f h s))) := by
  refine congrArg Host.Outcome.next ?_
  obtain ⟨l, forwarded⟩ := forwardVendor_eq p f h s
  have row : subscriptionOf { s with link := l } h.src x.stream = some r := hfor.row
  have count : x.values.length = (State.sub { s with link := l } r).count := hfor.count
  rw [takeFrame_inward hfor.inward, forwarded]
  simp only [handSample, hfor.payload, row, count, ↓reduceIte]

/-- Settles O14. -/
theorem sampleArrivesBeforeIndex : Obligations.SampleArrivesBeforeIndex := by
  intro p f h x r s hs hfor hk old set new
  have hr : r < s.intake.streams.length := hs.streams ▸ subscriptionOf_lt hfor.row
  have handed := exec_sample hfor
  obtain ⟨l, forwarded⟩ := forwardVendor_eq p f h s
  obtain ⟨u, early, arrived⟩ := arrive_early (s := { s with link := l }) set hr hk
  rw [forwarded] at handed ⊢
  rw [arrived] at handed
  have run : (u.stream r).arrRun = new.arrRun := by rw [early.stream]; rfl
  have latest : (u.stream r).latest = new.latest := by rw [early.stream]; rfl
  obtain ⟨m, hm⟩ := storeEarly_latest set old
  simp only [setAtRun, latest, run, show new.latest = some m from hm] at handed
  refine ⟨fun hfirst => ?_, fun n hn => storeEarly_further set hn, fun hlt => ?_, fun hge n hn => ?_⟩
  · have first : new = _ := storeEarly_first set hfirst
    rw [first]
    exact ⟨rfl, rfl, rfl⟩
  · rw [if_neg (by omega), processAll_of_unset early.unset] at handed
    exact ⟨u, handed, early.unset, early.others, early.stream, early.frame⟩
  · obtain rfl : m = n := Option.some.inj (hm.symm.trans hn)
    rw [if_pos hge] at handed
    have indexed := setIndex_indexSet m (early.size ▸ hr : r < u.intake.streams.length)
    refine ⟨_, handed, indexed.index, indexed.count, ?_, indexed.good, indexed.trimmed, ?_⟩
    · rw [indexed.time, early.frame]
    · rw [indexed.frame, early.frame]

end Sys2Proof.Machine
end

section
/-!
A stream at a processing (O17), and the events of one stream and of one phase (O18).
-/

namespace Sys2Proof.Machine

/-! ## A stream at a processing (R23, R24, R26, R27) -/

/-- R26, R27: a channel's value after marker handling. -/
theorem takeValues_getElem? {values : List Int} {i : Nat} {v : Int} (last : List Int) (hi : i < 8)
    (hv : values[i]? = some v) : (takeValues last values)[i]? = some (replaceMarker (last.getD i 0) v) := by
  simp [takeValues, hi, hv]

/-- R23: a delivered set is given up, and its values and flag are taken. -/
theorem stepStream_delivered {k : Nat} {r : StreamRec} {x : SampleSet} (hs : r.state ≠ .idle)
    (hx : r.buffer.find? (fun y => decide (y.index = k)) = some x) :
    (stepStream k r).stream = advanceStream true { r with
      buffer := r.buffer.filter fun y => decide (y.index ≠ k), last := takeValues r.last x.values, sync := x.sync } := by
  simp only [stepStream, hs, ↓reduceIte, hx]

/-- R23: without a set for the index the outcome is a substitution. -/
theorem stepStream_substituted {k : Nat} {r : StreamRec} (hs : r.state ≠ .idle) (hb : ∀ y ∈ r.buffer, y.index ≠ k) :
    (stepStream k r).stream = advanceStream false r := by
  have none : r.buffer.find? (fun y => decide (y.index = k)) = none := List.find?_eq_none.2 (by simpa using hb)
  simp only [stepStream, hs, ↓reduceIte, none]

/-- R24: the row of the table for a delivery. -/
theorem nextStreamState_delivered {r : StreamRec} (hs : r.state ≠ .idle) :
    nextStreamState true r = if r.delRun = 32 ∧ r.state ≠ .good then .good else r.state := by
  unfold nextStreamState
  cases h : r.state <;> simp_all

/-- R24: the row of the table for a substitution. -/
theorem nextStreamState_substituted (r : StreamRec) :
    nextStreamState false r =
      if r.subRun = 32 then .lost else if r.state = .good ∧ false ∈ r.outcomes then .degraded else r.state := by
  unfold nextStreamState
  by_cases hlost : r.state = .lost
  · simp [hlost]
  · simp [hlost]

/-- Settles O17. -/
theorem streamAtProcessing : Obligations.StreamAtProcessing := by
  intro k r hs _ _ t
  refine ⟨fun x hx => ?_, fun hb => ?_⟩
  · have step : t = _ := stepStream_delivered hs hx
    rw [step]
    refine ⟨rfl, rfl, rfl, fun y hy => of_decide_eq_true (List.mem_filter.1 hy).2, rfl,
      fun i v hi hv => takeValues_getElem? r.last hi hv, ?_⟩
    exact nextStreamState_delivered hs
  · have step : t = _ := stepStream_substituted hs hb
    rw [step]
    exact ⟨rfl, rfl, rfl, rfl, rfl, rfl, nextStreamState_substituted _⟩

/-! ## The events of one stream (R24) -/

/-- R168: an enabled notice class is pending once it has been noted. -/
theorem mem_pending_note {c : NoticeClass} {s : State} (hs : s.siteInForce = true) (hc : noticeEnabled s c = true) :
    c ∈ (note c s).records.pendingNotices := by
  unfold note
  by_cases h : c ∈ s.records.pendingNotices
  · simp [h]
  · simp [hs, hc, h]

/-- What a change of one stream's state brings about. -/
structure StreamBecomes (r : Nat) (st : StreamState) (s t : State) : Prop where
  stream : t.stream r = { s.stream r with state := st }
  others : ∀ i, i ≠ r → t.stream i = s.stream i
  frame : t = { s with intake := t.intake, records := t.records }
  intake : t.intake = { s.intake with streams := t.intake.streams }
  noted : s.siteInForce = true → noticeEnabled s .stream = true → .stream ∈ t.records.pendingNotices

/-- R24, R168: a stream changes state. -/
theorem setStreamState_becomes {r : Nat} (st : StreamState) {s : State} (hr : r < s.intake.streams.length) :
    StreamBecomes r st s (setStreamState r st s) := by
  have noted := mem_pending_note (c := .stream) (s := modStream r (fun x => { x with state := st }) s)
  unfold setStreamState
  obtain ⟨rec, e⟩ := note_eq .stream (modStream r (fun x => { x with state := st }) s)
  rw [e] at noted ⊢
  exact ⟨State.modStream_stream_same (s := s) _ hr, fun i hi => State.modStream_stream_other (s := s) _ hi, rfl, rfl, noted⟩

/-! ## The events of one phase (R25, R30) -/

theorem Four.get_set_same {α : Type} (x : Four α) (ph : Phase) (v : α) : (x.set ph v).get ph = v := by
  cases ph <;> rfl

theorem Four.get_set_other {α : Type} (x : Four α) {ph q : Phase} (v : α) (h : q ≠ ph) : (x.set ph v).get q = x.get q := by
  cases ph <;> cases q <;> simp_all [Four.get, Four.set]

/-- The point lies in the tables of Intake when these have their sizes. -/
theorem pointHeld_of_pointOk {s : State} {pt : PointId} (h : pointOk pt = true) (hc : s.intake.cur.length = 25)
    (hv : s.intake.volt.length = 13) : pointHeld s pt := by
  cases pt <;> simp_all [pointOk, pointHeld]

/-- The phase an update concerns. -/
theorem phaseRec_modPhaseRec_same {s : State} {pt : PointId} (ph : Phase) (f : PhaseRec → PhaseRec) (h : pointHeld s pt) :
    phaseRec (modPhaseRec pt ph f s) pt ph = f (phaseRec s pt ph) := by
  cases pt with
  | cur n => exact (congrArg (Four.get · ph) (modAt_getD_same _ n _ _ h)).trans (Four.get_set_same _ _ _)
  | volt n => exact (congrArg (Four.get · ph) (modAt_getD_same _ n _ _ h)).trans (Four.get_set_same _ _ _)

/-- A phase of a list of points after an update of one phase of one point. -/
theorem modAt_phase_other {l : List (Four PhaseRec)} {n m : Nat} {ph q : Phase} (f : PhaseRec → PhaseRec) (d : Four PhaseRec)
    (hn : n < l.length) (h : m ≠ n ∨ q ≠ ph) :
    ((modAt l n fun x => x.set ph (f (x.get ph))).getD m d).get q = (l.getD m d).get q := by
  by_cases hm : m = n
  · rw [hm, modAt_getD_same _ _ _ _ hn]
    exact Four.get_set_other _ _ (h.resolve_left (not_not_intro hm))
  · rw [modAt_getD_other _ _ _ _ _ hm]

/-- Every other phase of every point. -/
theorem phaseRec_modPhaseRec_other {s : State} {pt point : PointId} {ph phase : Phase} (f : PhaseRec → PhaseRec)
    (hp : pointHeld s pt) (h : point ≠ pt ∨ phase ≠ ph) :
    phaseRec (modPhaseRec pt ph f s) point phase = phaseRec s point phase := by
  cases pt with
  | cur n =>
    cases point with
    | cur m => exact modAt_phase_other f _ hp (h.imp_left (mt (congrArg PointId.cur)))
    | volt m => rfl
  | volt n =>
    cases point with
    | cur m => rfl
    | volt m => exact modAt_phase_other f _ hp (h.imp_left (mt (congrArg PointId.volt)))

/-- What an event of one phase brings about. -/
def PhaseBecomes (pt : PointId) (ph : Phase) (s : State) (i : Instr) (new : PhaseRec) : Prop :=
  ∃ t, exec i s = .next t ∧ t = { s with intake := { s.intake with cur := t.intake.cur, volt := t.intake.volt } } ∧
    t.intake.cur.length = 25 ∧ t.intake.volt.length = 13 ∧ phaseRec t pt ph = new ∧
    ∀ point phase, point ≠ pt ∨ phase ≠ ph → phaseRec t point phase = phaseRec s point phase

/-- R25, R30: a command that replaces the record of one phase by `f` of it. -/
theorem phaseBecomes_of_exec {pt : PointId} {ph : Phase} {s : State} {i : Instr} {f : PhaseRec → PhaseRec}
    (hi : exec i s = .next (modPhaseRec pt ph f s)) (hp : pointOk pt = true) (hc : s.intake.cur.length = 25)
    (hv : s.intake.volt.length = 13) : PhaseBecomes pt ph s i (f (phaseRec s pt ph)) := by
  have held := pointHeld_of_pointOk hp hc hv
  refine ⟨_, hi, ?_, ?_, ?_, phaseRec_modPhaseRec_same ph f held, fun _ _ h => phaseRec_modPhaseRec_other f held h⟩
  · cases pt <;> rfl
  · cases pt <;> simp [modPhaseRec, hc]
  · cases pt <;> simp [modPhaseRec, hv]

/-- Settles O18. -/
theorem streamAndPhaseEvents : Obligations.StreamAndPhaseEvents := by
  refine ⟨fun r s hs hr => ⟨fun hrun hst => ?_, fun hrun hst => ?_⟩, fun pt ph s hp hc hv => ?_⟩
  · obtain ⟨stream, others, frame, intake, noted⟩ := setStreamState_becomes .good (hs.streams.symm ▸ hr : r < _)
    exact ⟨_, congrArg Host.Outcome.next (if_pos ⟨hrun, hst⟩), stream, others, frame, intake, noted⟩
  · obtain ⟨stream, others, frame, intake, noted⟩ := setStreamState_becomes .lost (hs.streams.symm ▸ hr : r < _)
    have due : (s.stream r).state ≠ .lost ∧ (s.stream r).state ≠ .idle := by rcases hst with e | e | e <;> simp [e]
    exact ⟨_, congrArg Host.Outcome.next (if_pos ⟨hrun, due⟩), stream, others, frame, intake, noted⟩
  · intro p becomes
    refine ⟨fun h => ?_, fun h => ?_, fun h => ?_, fun h => ?_⟩
    · have event := phaseBecomes_of_exec (i := .holdExpiry pt ph .missing) rfl hp hc hv
      rwa [if_pos h] at event
    · have event := phaseBecomes_of_exec (i := .holdExpiry pt ph .clipped) rfl hp hc hv
      rwa [if_pos h] at event
    · have event := phaseBecomes_of_exec (i := .divergentSet pt ph) rfl hp hc hv
      rwa [decide_eq_true h, Bool.or_true] at event
    · have event := phaseBecomes_of_exec (i := .divergentClear pt ph) rfl hp hc hv
      rwa [decide_eq_true h, Bool.not_true, Bool.and_false] at event

end Sys2Proof.Machine
end

section
/-!
The merge of the sources of a phase, its comparison runs, derived residuals and the quality of a point (O19).
-/

namespace Sys2Proof.Machine

/-! ## Sources (R16, R28) -/

theorem mem_usedRows {t : Tables} {i : Nat} {row : ChanRow} : (i, row) ∈ usedRows t ↔ usedChannel t i row := by
  simp only [usedRows, usedChannel, List.mem_map, List.mem_filter, Bool.and_eq_true, Prod.mk.injEq]
  constructor
  · rintro ⟨x, ⟨hx, hused, hon⟩, rfl, rfl⟩
    exact ⟨List.mem_zipIdx_iff_getElem?.1 hx, hused, hon⟩
  · rintro ⟨hrow, hused, hon⟩
    exact ⟨(row, i), ⟨List.mem_zipIdx_iff_getElem?.2 hrow, hused, hon⟩, rfl, rfl⟩

/-- R28: a role has no source exactly where no row names it. -/
theorem findSource_eq_none {steps : List StreamStep} {rows : List (Nat × ChanRow)} {pt : PointId} {ph : Phase} {role : Role} :
    findSource steps rows pt ph role = none ↔ ∀ x ∈ rows, ¬(x.2.point = pt ∧ x.2.phase = ph ∧ x.2.role = role) := by
  simp [findSource, List.find?_eq_none]

/-- R28: the source of a role is that of a row that names it. -/
theorem findSource_eq_some {steps : List StreamStep} {rows : List (Nat × ChanRow)} {pt : PointId} {ph : Phase} {role : Role}
    {z : Source'} (h : findSource steps rows pt ph role = some z) :
    ∃ x ∈ rows, x.2.point = pt ∧ x.2.phase = ph ∧ x.2.role = role ∧ z = sourceAt steps x.1 x.2 := by
  obtain ⟨x, hx, rfl⟩ := Option.map_eq_some_iff.1 h
  have named : x.2.point = pt ∧ x.2.phase = ph ∧ x.2.role = role := by simpa using List.find?_some hx
  obtain ⟨hpt, hph, hrole⟩ := named
  exact ⟨x, List.mem_of_find?_eq_some hx, hpt, hph, hrole, rfl⟩

/-! ## Merge (R28 to R31) -/

theorem clampInt_eq {lo hi : Int} (x : Int) (h : lo ≤ hi) : clampInt lo hi x = max lo (min hi x) := by
  unfold clampInt
  split_ifs <;> omega

theorem limitCount_eq (x : Int) : limitCount x = max (-32767) (min 32767 x) := clampInt_eq x (by decide)

/-- R31: the sum had to be limited. -/
theorem limitCount_ne {x : Int} : limitCount x ≠ x ↔ x < -32767 ∨ 32767 < x := by
  rw [limitCount_eq]
  omega

/-- R29: with one usable source, which is MAIN, its value is taken. -/
theorem mergePhase_main {isCurrent : Bool} {m : Source'} {x : Option Source'} (hm : m.usable = true)
    (hx : ∀ y, x = some y → y.usable = false) :
    mergePhase isCurrent ⟨some m, x⟩ = { value := m.value, has := true, scale := m.scale } := by
  cases x with
  | none => simp [mergePhase, hm]
  | some c => simp [mergePhase, hm, hx c rfl]

/-- R29: with one usable source, which is CHECK, its converted value is taken. -/
theorem mergePhase_check {isCurrent : Bool} {m c : Source'} (hm : m.usable = false) (hc : c.usable = true) :
    mergePhase isCurrent ⟨some m, some c⟩ =
      { value := limitCount (convertScale c.value c.scale m.scale), has := true, scale := m.scale } := by
  simp [mergePhase, hm, hc]

/-- R29: without a usable source there is no value. -/
theorem mergePhase_none {isCurrent : Bool} {m : Source'} {x : Option Source'} (hm : m.usable = false)
    (hx : ∀ y, x = some y → y.usable = false) : mergePhase isCurrent ⟨some m, x⟩ = { scale := m.scale } := by
  cases x with
  | none => simp [mergePhase, hm]
  | some c => simp [mergePhase, hm, hx c rfl]

/-- R29: two usable sources, by their cleanness; `b` is the converted value of CHECK. -/
theorem mergePhase_two {isCurrent : Bool} {m c : Source'} {b : Int} (hm : m.usable = true) (hc : c.usable = true)
    (hb : b = limitCount (convertScale c.value c.scale m.scale)) :
    mergePhase isCurrent ⟨some m, some c⟩ =
      if m.clean = true ∧ c.clean = true then
        { value := (mergeTwo isCurrent m.limit m.value b).1, has := true
          cmp := some (mergeTwo isCurrent m.limit m.value b).2, scale := m.scale }
      else if c.clean = true then { value := b, has := true, scale := m.scale }
      else { value := m.value, has := true, scale := m.scale } := by
  simp [mergePhase, hm, hc, hb]

/-- R29: two values that agree give their mean. -/
theorem mergeTwo_agree {isCurrent : Bool} {limit : Nat} {a b : Int} (h : (a - b).natAbs ≤ limit) :
    mergeTwo isCurrent limit a b = ((a + b).tdiv 2, true) := if_pos h

/-- R29: of two values that diverge, the smaller of a current and the larger of a voltage is taken, MAIN's where they are
of equal size. -/
theorem mergeTwo_diverge {isCurrent : Bool} {limit : Nat} {a b : Int} (h : limit < (a - b).natAbs) :
    let r := mergeTwo isCurrent limit a b
    r.2 = false ∧ (r.1 = a ∨ r.1 = b) ∧ (isCurrent = true → r.1.natAbs = min a.natAbs b.natAbs) ∧
      (isCurrent = false → r.1.natAbs = max a.natAbs b.natAbs) ∧ (a.natAbs = b.natAbs → r.1 = a) := by
  have far : ¬(a - b).natAbs ≤ limit := by omega
  cases isCurrent with
  | true =>
    simp only [mergeTwo, far, ↓reduceIte]
    by_cases hab : b.natAbs < a.natAbs
    · simp [hab, hab.le]
      omega
    · simp [hab]
      omega
  | false =>
    simp only [mergeTwo, far, ↓reduceIte, Bool.false_eq_true]
    by_cases hab : a.natAbs < b.natAbs
    · simp [hab, hab.le]
      omega
    · simp [hab]
      omega

/-- R31: a derived residual of three phases with a value. -/
theorem deriveResidual_has {a b c : Merged} (ha : a.has = true) (hb : b.has = true) (hc : c.has = true) :
    deriveResidual a b c = ({ value := limitCount (residualSum a b c), has := true, scale := a.scale },
      decide (limitCount (residualSum a b c) ≠ residualSum a b c)) := by
  simp only [deriveResidual, ha, hb, hc, Bool.and_self, ↓reduceIte]

/-- R31: a derived residual where a phase has no value. -/
theorem deriveResidual_none {a b c : Merged} (h : a.has = false ∨ b.has = false ∨ c.has = false) :
    deriveResidual a b c = ({ scale := a.scale }, false) := by
  rcases h with h | h | h <;> simp [deriveResidual, h]

/-- R30: an agreement ends the run of divergences, and clears the flag at a run of 32. -/
theorem compareRuns_agree {p : PhaseRec} (h : p.agrRun ≤ 32) :
    (compareRuns (some true) p).divergent = (p.divergent && decide (p.agrRun + 1 < 32)) := by
  by_cases full : p.agrRun + 1 < 32
  · simp [compareRuns, full, show ¬min 32 (p.agrRun + 1) = 32 by omega]
  · simp [compareRuns, full, show min 32 (p.agrRun + 1) = 32 by omega]

/-- R30: a divergence ends the run of agreements, and sets the flag at a run of 8. -/
theorem compareRuns_diverge {p : PhaseRec} (h : p.divRun ≤ 8) :
    (compareRuns (some false) p).divergent = (p.divergent || decide (8 ≤ p.divRun + 1)) := by
  by_cases full : 8 ≤ p.divRun + 1
  · simp [compareRuns, full]
  · simp [compareRuns, full, show ¬min 8 (p.divRun + 1) = 8 by omega]

/-! ## Quality (R32) -/

/-- A set of qualities that the worse of two lies in exactly where one of them does. -/
structure DownClosed (P : Quality → Prop) : Prop where
  worse : ∀ x y, P (worse x y) ↔ P x ∨ P y

theorem DownClosed.invalid : DownClosed (· = .invalid) := ⟨fun x y => by cases x <;> cases y <;> simp [Machine.worse]⟩

theorem DownClosed.unfit : DownClosed (unfit · = true) :=
  ⟨fun x y => by cases x <;> cases y <;> simp [Machine.worse, Machine.unfit]⟩

theorem DownClosed.notGood : DownClosed (· ≠ .good) := ⟨fun x y => by cases x <;> cases y <;> simp [Machine.worse]⟩

/-- R32: a phase whose sources count: A, B and C, and N of a current point where it is mapped. -/
def PhaseFed (steps : List StreamStep) (rows : List (Nat × ChanRow)) (pt : PointId) (ph : Phase) : Prop :=
  ph ≠ .n ∨ ((∃ n, pt = .cur n) ∧ (sourcesOf steps rows pt .n).main ≠ none)

/-- R32: a phase of a point; a voltage point has no phase N. -/
def HasPhase (pt : PointId) (ph : Phase) : Prop := ph ≠ .n ∨ ∃ n, pt = .cur n

theorem exists_phase {p : Phase → Prop} : (∃ ph, p ph) ↔ p .a ∨ p .b ∨ p .c ∨ p .n := by
  constructor
  · rintro ⟨ph, h⟩
    cases ph <;> simp [h]
  · rintro (h | h | h | h) <;> exact ⟨_, h⟩

/-- R32: the quality of a point is the worst that the sources of a fed phase or the hold and flag of a phase give. -/
theorem pointQuality_iff {P : Quality → Prop} (hP : DownClosed P) (steps : List StreamStep) (rows : List (Nat × ChanRow))
    (pt : PointId) (x : Four PhaseRec) : P (pointQuality steps rows pt x) ↔
      (∃ ph, PhaseFed steps rows pt ph ∧ P (sourceQuality (sourcesOf steps rows pt ph))) ∨
        ∃ ph, HasPhase pt ph ∧ P (flagQuality (x.get ph)) := by
  cases pt with
  | volt v =>
    simp only [pointQuality, hP.worse, exists_phase, PhaseFed, HasPhase, Four.get]
    simp
    tauto
  | cur n =>
    cases hn : (sourcesOf steps rows (.cur n) .n).main with
    | none =>
      simp only [pointQuality, hn, exists_phase, PhaseFed, HasPhase, Four.get]
      simp [hP.worse]
      tauto
    | some y =>
      simp only [pointQuality, hn, exists_phase, PhaseFed, HasPhase, Four.get]
      simp [hP.worse]
      tauto

theorem mem_usable {x : Sources} {y : Source'} : y ∈ usable x ↔ UsableSource x y := by
  simp [usable, UsableSource, eq_comm (b := some y)]

/-- R32: a phase has one usable source, of a DEGRADED stream. -/
theorem onlyDegraded_iff {x : Sources} : OnlyDegraded x ↔ ∃ y, usable x = [y] ∧ y.degraded = true := by
  obtain ⟨main, check⟩ := x
  cases main with
  | none =>
    cases check with
    | none => simp [OnlyDegraded, usable]
    | some c => cases hc : c.usable <;> simp [OnlyDegraded, usable, hc]
  | some m =>
    cases check with
    | none => cases hm : m.usable <;> simp [OnlyDegraded, usable, hm]
    | some c => cases hm : m.usable <;> cases hc : c.usable <;> simp [OnlyDegraded, usable, hm, hc]

/-- R32: a phase without a usable source is INVALID. -/
theorem sourceQuality_invalid {x : Sources} : sourceQuality x = .invalid ↔ ∀ y, ¬UsableSource x y := by
  simp only [← mem_usable, ← List.eq_nil_iff_forall_not_mem, sourceQuality]
  cases usable x with
  | nil => simp
  | cons y l => cases l <;> simp <;> split_ifs <;> simp

/-- R32: a phase is DEGRADED, or worse, by its sources. -/
theorem sourceQuality_unfit {x : Sources} :
    unfit (sourceQuality x) = true ↔ (∀ y, ¬UsableSource x y) ∨ OnlyDegraded x := by
  simp only [← mem_usable, ← List.eq_nil_iff_forall_not_mem, onlyDegraded_iff, sourceQuality]
  rcases usable x with _ | ⟨y, _ | ⟨z, l⟩⟩
  · simp [unfit]
  · simp only [List.cons.injEq]
    split_ifs <;> simp_all [unfit]
  · simp
    split_ifs <;> simp [unfit]

/-- R32: a phase is not GOOD by its sources. -/
theorem sourceQuality_ne_good {x : Sources} : sourceQuality x ≠ .good ↔
    (∀ y, ¬UsableSource x y) ∨ OnlyDegraded x ∨ ∃ y, UsableSource x y ∧ y.sync = false := by
  simp only [← mem_usable, ← List.eq_nil_iff_forall_not_mem, onlyDegraded_iff, sourceQuality]
  rcases usable x with _ | ⟨y, _ | ⟨z, l⟩⟩
  · simp
  · simp only [List.cons.injEq]
    split_ifs <;> simp_all
  · simp only [List.cons.injEq]
    split_ifs with synced
    · simp_all
    · have unsynced : ∃ w ∈ y :: z :: l, w.sync = false := by
        simpa only [Bool.not_eq_true, List.all_eq_false] using synced
      simpa using unsynced

theorem flagQuality_ne_invalid (p : PhaseRec) : flagQuality p ≠ .invalid := by
  unfold flagQuality
  split_ifs <;> simp

theorem flagQuality_unfit {p : PhaseRec} : unfit (flagQuality p) = true ↔ 0 < p.missHold := by
  unfold flagQuality
  split_ifs <;> simp_all [unfit]

theorem flagQuality_ne_good {p : PhaseRec} : flagQuality p ≠ .good ↔ 0 < p.missHold ∨ p.divergent = true := by
  unfold flagQuality
  split_ifs <;> simp_all

/-- R32: a point is INVALID where a fed phase has no usable source. -/
theorem pointQuality_invalid (steps : List StreamStep) (rows : List (Nat × ChanRow)) (pt : PointId) (x : Four PhaseRec) :
    pointQuality steps rows pt x = .invalid ↔
      ∃ ph, PhaseFed steps rows pt ph ∧ ∀ y, ¬UsableSource (sourcesOf steps rows pt ph) y := by
  simp only [pointQuality_iff DownClosed.invalid, sourceQuality_invalid, flagQuality_ne_invalid, and_false, exists_false,
    or_false]

/-- R32: a point is DEGRADED, or worse. -/
theorem pointQuality_unfit (steps : List StreamStep) (rows : List (Nat × ChanRow)) (pt : PointId) (x : Four PhaseRec) :
    unfit (pointQuality steps rows pt x) = true ↔
      (∃ ph, PhaseFed steps rows pt ph ∧ ∀ y, ¬UsableSource (sourcesOf steps rows pt ph) y) ∨
      (∃ ph, PhaseFed steps rows pt ph ∧ OnlyDegraded (sourcesOf steps rows pt ph)) ∨
        ∃ ph, HasPhase pt ph ∧ 0 < (x.get ph).missHold := by
  simp only [pointQuality_iff DownClosed.unfit, sourceQuality_unfit, flagQuality_unfit, and_or_left, exists_or, or_assoc]

/-- R32: a point is not GOOD. -/
theorem pointQuality_ne_good (steps : List StreamStep) (rows : List (Nat × ChanRow)) (pt : PointId) (x : Four PhaseRec) :
    pointQuality steps rows pt x ≠ .good ↔
      unfit (pointQuality steps rows pt x) = true ∨ (∃ ph, HasPhase pt ph ∧ (x.get ph).divergent = true) ∨
        ∃ ph y, PhaseFed steps rows pt ph ∧ UsableSource (sourcesOf steps rows pt ph) y ∧ y.sync = false := by
  simp only [pointQuality_iff DownClosed.notGood, pointQuality_unfit, sourceQuality_ne_good, flagQuality_ne_good,
    and_or_left, exists_or, ← exists_and_left]
  exact Iff.of_eq (by ac_rfl)

/-- R32: a quality by what excludes the better ones. -/
theorem quality_of_iffs {q : Quality} {invalid degraded suspect : Prop} (hi : q = .invalid ↔ invalid)
    (hd : unfit q = true ↔ invalid ∨ degraded) (hg : q ≠ .good ↔ unfit q = true ∨ suspect) :
    (invalid → q = .invalid) ∧ (¬invalid → degraded → q = .degraded) ∧ (¬invalid → ¬degraded → suspect → q = .suspect) ∧
      (¬invalid → ¬degraded → ¬suspect → q = .good) := by
  cases q <;> simp_all [unfit]

/-- Settles O19. -/
theorem mergeAndDivergence : Obligations.MergeAndDivergence := by
  refine ⟨fun _ _ _ => mem_usedRows, fun steps i row => ?_, fun steps rows pt ph role => ?_, fun isCurrent m c x => ?_,
    fun a b c => ?_, fun steps rows pt x => ?_, fun isCurrent m c p hm hc => ?_⟩
  · simp [sourceAt]
  · cases role with
    | main => exact ⟨findSource_eq_none, fun _ => findSource_eq_some⟩
    | check => exact ⟨findSource_eq_none, fun _ => findSource_eq_some⟩
  · intro only nothing
    refine ⟨⟨rfl, rfl, rfl⟩, fun hm hx => ?_, fun hm hc => ?_, fun hm hx => ?_⟩
    · rw [mergePhase_main hm hx]
      exact ⟨rfl, rfl, rfl⟩
    · rw [mergePhase_check hm hc]
      exact ⟨limitCount_eq _, rfl, rfl⟩
    · rw [mergePhase_none hm hx]
      exact ⟨rfl, rfl, rfl⟩
  · intro sum r
    refine ⟨fun ha hb hc => ?_, fun h => ?_⟩
    · have derived : r = _ := deriveResidual_has ha hb hc
      rw [derived]
      exact ⟨limitCount_eq _, rfl, rfl, rfl, decide_eq_true_iff.trans limitCount_ne⟩
    · have derived : r = _ := deriveResidual_none h
      rw [derived]
      exact ⟨rfl, rfl, rfl, rfl⟩
  · exact quality_of_iffs (pointQuality_invalid steps rows pt x) (pointQuality_unfit steps rows pt x)
      (pointQuality_ne_good steps rows pt x)
  · intro a b r
    have merged : r = _ := mergePhase_two (b := b) hm hc rfl
    refine ⟨fun hmc hcc near => ?_, fun hmc hcc far => ?_, fun hmc hcc => ?_, fun hmc hcc => ?_, fun hmc hcc => ?_, rfl,
      fun h => ⟨rfl, rfl, compareRuns_agree h⟩, fun h => ⟨rfl, rfl, compareRuns_diverge h⟩⟩
    · rw [merged, if_pos ⟨hmc, hcc⟩, mergeTwo_agree (a := m.value) near]
      exact ⟨rfl, rfl⟩
    · rw [merged, if_pos ⟨hmc, hcc⟩]
      obtain ⟨diverge, chosen⟩ := mergeTwo_diverge (isCurrent := isCurrent) far
      exact ⟨congrArg some diverge, chosen⟩
    · rw [merged]
      simp [hcc, a]
    · rw [merged]
      simp [hmc, hcc]
    · rw [merged]
      simp [hcc, a]

end Sys2Proof.Machine
end

section
/-!
The processing of an index at the fallback time (O16), refuted: nothing in its hypotheses keeps a Channel Map row from naming
phase N of a voltage point, and a phase that a MAIN row names takes its merged value at every processing.
-/

namespace Sys2Proof.Machine

/-- A part in SERVICE at its fallback time for index 0, whose tables map phase N of V0 to the first channel of stream 0; the
stream is GOOD and its last value is 1. COMMIT refuses such a row (R182), but the tables in force here hold one. -/
def voltageResidualMapped : State :=
  { now := 2500
    intake := { k := some 0, lastProc := some 0
                streams := { state := .good, last := 1 :: List.replicate 7 0 } :: List.replicate 47 {} }
    mgmt := { part := .service false
              image := some ⟨{ subs := { enabled := true } :: List.replicate 47 {}
                               chans := { used := true, point := .volt 0, phase := .n } :: List.replicate 383 {} }, .a⟩ } }

/-- The newest value of phase N of V0, 0 before the processing, is the stream's value after it. -/
theorem voltageResidualMapped_moves :
    (phaseRec voltageResidualMapped (.volt 0) .n).hist.head? = some 0 ∧
      (phaseRec (processIndex voltageResidualMapped) (.volt 0) .n).hist.head? = some 1 := by decide

/-- Refutes O16: with phase N of a voltage point mapped, a processing changes the record that the statement says stands. -/
theorem not_fallbackProcessesIndex : ¬ Obligations.FallbackProcessesIndex := by
  intro h
  obtain ⟨processed, -⟩ := h 0 0 voltageResidualMapped rfl rfl rfl
  obtain ⟨u, -, rfl, -, -, -, -, -, ⟨-, -, stands⟩, -⟩ := processed (by decide)
  obtain ⟨before, after⟩ := voltageResidualMapped_moves
  rw [stands 0, before] at after
  exact absurd after (by decide)

end Sys2Proof.Machine
end

section
/-!
Direction and its memory (O20), the voltage condition qualifiers (O22), and the events that replace the entry of one point
of the Measurement Table.
-/

namespace Sys2Proof.Machine

/-! ## The entry of one point -/

/-- The current point an update concerns. -/
theorem modCur_curMeas_same {n : Nat} {s : State} (f : CurMeas → CurMeas) (h : n < s.meas.cur.length) :
    (modCur n f s).curMeas n = f (s.curMeas n) := modAt_getD_same _ _ _ _ h

/-- Every other current point. -/
theorem modCur_curMeas_other {n i : Nat} {s : State} (f : CurMeas → CurMeas) (h : i ≠ n) :
    (modCur n f s).curMeas i = s.curMeas i := modAt_getD_other _ _ _ _ _ h

/-- The voltage point an update concerns. -/
theorem modVolt_voltMeas_same {v : Nat} {s : State} (f : VoltMeas → VoltMeas) (h : v < s.meas.volt.length) :
    (modVolt v f s).voltMeas v = f (s.voltMeas v) := modAt_getD_same _ _ _ _ h

/-- Every other voltage point. -/
theorem modVolt_voltMeas_other {v i : Nat} {s : State} (f : VoltMeas → VoltMeas) (h : i ≠ v) :
    (modVolt v f s).voltMeas i = s.voltMeas i := modAt_getD_other _ _ _ _ _ h

/-! ## Direction (R39, R40) -/

/-- R39: with enough voltage the sign of the torque gives the direction, and the memory holds it. -/
theorem formDirection_of_volts {volts limit : Nat} (torque : Int) (m : DirMem) (h : limit ≤ volts) :
    formDirection volts limit torque m =
      if 0 < torque then (.forward, ⟨some .forward, 0⟩)
      else if torque < 0 then (.reverse, ⟨some .reverse, 0⟩)
      else (.unknown, ⟨none, 0⟩) := if_pos h

/-- R40: without enough voltage the memory gives the direction for eight updates, and is then lost. -/
theorem formDirection_of_low_volts {volts limit : Nat} (torque : Int) (m : DirMem) (h : volts < limit) :
    formDirection volts limit torque m =
      if m.lowRun < 8 then (m.firm.getD .unknown, { m with lowRun := m.lowRun + 1 })
      else (.unknown, { m with firm := none }) := if_neg (Nat.not_le.2 h)

theorem memorySpent_iff {s : State} {n : Nat} {ph : Phase} : memorySpent s n ph = true ↔
    ((s.curMeas n).mem.get ph).lowRun = 8 ∧ ((s.curMeas n).mem.get ph).firm ≠ none := by
  simp [memorySpent, Option.isSome_iff_ne_none]

/-- R40: a memory that has ended holds no firm direction, and UNKNOWN is published. -/
theorem forgetDirection_curMeas {s : State} {n : Nat} {ph : Phase} (h : n < s.meas.cur.length) :
    (forgetDirection n ph s).curMeas n = { s.curMeas n with
      dir := (s.curMeas n).dir.set ph .unknown
      mem := (s.curMeas n).mem.set ph { (s.curMeas n).mem.get ph with firm := none } } := modCur_curMeas_same _ h

/-- Settles O20. -/
theorem directionMemory : Obligations.DirectionMemory := by
  refine ⟨fun volts limit torque m => ⟨fun hv ht => ?_, fun hv ht => ?_, fun hv ht => ?_, fun hv d hd hrun => ?_,
    fun hv hrun => ?_⟩, fun n ph s hn hrun hfirm => ?_⟩
  · rw [formDirection_of_volts torque m hv, if_pos ht]
  · rw [formDirection_of_volts torque m hv, if_neg (by omega), if_pos ht]
  · rw [formDirection_of_volts torque m hv, if_neg (by omega), if_neg (by omega)]
  · rw [formDirection_of_low_volts torque m hv, if_pos hrun, hd]
    rfl
  · rw [formDirection_of_low_volts torque m hv, if_neg (by omega)]
    exact ⟨rfl, rfl⟩
  · have spent : memorySpent s n ph = true := memorySpent_iff.2 ⟨hrun, hfirm⟩
    have entry := forgetDirection_curMeas (ph := ph) hn
    exact ⟨forgetDirection n ph s, congrArg Host.Outcome.next (if_pos spent), rfl, by rw [entry, Four.get_set_same],
      by rw [entry, Four.get_set_same], by rw [entry], by rw [entry], fun i hi => modCur_curMeas_other _ hi⟩

/-! ## Qualifiers (R49, R50) -/

theorem everyPhase_iff {r : Four Nat} {p : Nat → Bool} : everyPhase r p = true ↔ ∀ x ∈ [r.a, r.b, r.c], p x = true := by
  simp [everyPhase, and_assoc]

/-- R49: the raw class, by the first row of its table that applies. -/
theorem rawClass_rows {thr : Thresholds} {m : VoltMeas} {dead healthy live : Prop}
    (hdead : everyPhase m.rms (fun x => decide (x < thr.dead)) = true ↔ dead)
    (hhealthy : (everyPhase m.rms (fun x => decide (thr.healthyLo ≤ x) && decide (x ≤ thr.healthyHi)) &&
      m.freq.any (fun f => decide (thr.freqLo ≤ f) && decide (f ≤ thr.freqHi))) = true ↔ healthy)
    (hlive : everyPhase m.rms (fun x => decide (thr.live ≤ x)) = true ↔ live) :
    (m.quality = .invalid → rawClass thr m = .indeterminate) ∧ (m.quality ≠ .invalid → dead → rawClass thr m = .dead) ∧
      (m.quality ≠ .invalid → ¬dead → healthy → rawClass thr m = .healthy) ∧
      (m.quality ≠ .invalid → ¬dead → ¬healthy → live → rawClass thr m = .live) ∧
      (m.quality ≠ .invalid → ¬dead → ¬healthy → ¬live → rawClass thr m = .indeterminate) := by
  rw [← hdead, ← hhealthy, ← hlive, rawClass]
  exact ⟨fun hq => if_pos hq, fun hq hd => by rw [if_neg hq, if_pos hd],
    fun hq hd hh => by rw [if_neg hq, if_neg hd, if_pos hh],
    fun hq hd hh hl => by rw [if_neg hq, if_neg hd, if_neg hh, if_pos hl],
    fun hq hd hh hl => by rw [if_neg hq, if_neg hd, if_neg hh, if_neg hl]⟩

theorem declareDue_iff {s : State} {v : Nat} : declareDue s v = true ↔
    qualifierCount s.site (s.voltMeas v).raw ≤ (s.voltMeas v).run ∧ (s.voltMeas v).declared ≠ (s.voltMeas v).raw := by
  simp [declareDue]

/-- Settles O22. -/
theorem qualifierDeclares : Obligations.QualifierDeclares := by
  refine ⟨fun site new m _ => ⟨rfl, rfl, fun h => if_pos h, fun h => if_neg (Nat.not_le.2 h)⟩, fun thr m => ?_,
    fun v s hv hrun hraw => ?_⟩
  · refine rawClass_rows ?_ ?_ ?_
    · simp only [everyPhase_iff, decide_eq_true_eq]
    · simp only [Bool.and_eq_true, everyPhase_iff, Option.any_eq_true, decide_eq_true_eq]
    · simp only [everyPhase_iff, decide_eq_true_eq]
  · have due : declareDue s v = true := declareDue_iff.2 ⟨hrun, hraw⟩
    exact ⟨declareClass v s, congrArg Host.Outcome.next (if_pos due), rfl, rfl, modVolt_voltMeas_same _ hv,
      fun i hi => modVolt_voltMeas_other _ hi⟩

end Sys2Proof.Machine
end

section
/-!
The measured quantities (O21): the square root, RMS, residuals, real power, crossings, the tracker and the frequency.
-/

namespace Sys2Proof.Machine

/-! ## The square root (R36) -/

/-- The root found so far is `r`, and the exact one lies less than `b` above it. -/
structure RootWithin (n b r : Nat) : Prop where
  below : r * r ≤ n
  above : n < (r + b) * (r + b)

/-- One binary digit halves the distance. -/
theorem RootWithin.step {n k r : Nat} (h : RootWithin n (2 ^ (k + 1)) r) : RootWithin n (2 ^ k) (sqrtStep n r k) := by
  unfold sqrtStep
  split_ifs with taken
  · refine ⟨taken, ?_⟩
    rw [Nat.add_assoc, ← Nat.two_mul, ← Nat.pow_succ']
    exact h.above
  · exact ⟨h.below, Nat.not_le.1 taken⟩

/-- The digits k − 1 down to 0 find the root. -/
theorem RootWithin.digits {n : Nat} (k : Nat) {r : Nat} (h : RootWithin n (2 ^ k) r) :
    RootWithin n 1 ((List.range k).reverse.foldl (sqrtStep n) r) := by
  induction k generalizing r with
  | zero => exact h
  | succ k ih =>
    rw [List.range_succ, List.reverse_append]
    exact ih h.step

/-- R36: the square root is the floor of the exact one. -/
theorem floorSqrt_rootWithin {n : Nat} (h : n < 2 ^ 64) : RootWithin n 1 (floorSqrt n) :=
  RootWithin.digits 32 ⟨Nat.zero_le n, by simpa using h⟩

/-! ## RMS and scales (R16, R36, R37) -/

/-- R36: RMS in counts is formed from the sum of the squares. -/
theorem rmsCounts_eq (l : List Int) : rmsCounts l = floorSqrt ((l.map fun x => x.natAbs * x.natAbs).sum / 32) := by
  rw [rmsCounts, List.sum_eq_foldl, List.foldl_map]

theorem publishRms_zero (scale : Nat) : publishRms 0 scale = 0 := by simp [publishRms]

/-- R16: a phase has no scale exactly where no MAIN row names it. -/
theorem scaleOf_eq_none {rows : List (Nat × ChanRow)} {pt : PointId} {ph : Phase} : scaleOf rows pt ph = none ↔
    ∀ y, ¬(y ∈ rows ∧ y.2.point = pt ∧ y.2.phase = ph ∧ y.2.role = .main) := by
  simp [scaleOf, List.find?_eq_none]

/-- R16: the scale of a phase is that of a MAIN row that names it. -/
theorem scaleOf_eq_some {rows : List (Nat × ChanRow)} {pt : PointId} {ph : Phase} {scale : Nat}
    (h : scaleOf rows pt ph = some scale) :
    ∃ y, (y ∈ rows ∧ y.2.point = pt ∧ y.2.phase = ph ∧ y.2.role = .main) ∧ y.2.scale = scale := by
  obtain ⟨y, hy, rfl⟩ := Option.map_eq_some_iff.1 h
  exact ⟨y, ⟨List.mem_of_find?_eq_some hy, of_decide_eq_true (List.find?_some hy :)⟩, rfl⟩

theorem phaseRms_of_scale {rows : List (Nat × ChanRow)} {pt : PointId} {ph : Phase} {scale : Nat} (p : PhaseRec)
    (h : scaleOf rows pt ph = some scale) : phaseRms rows pt ph p = publishRms (rmsCounts p.level) scale := by
  simp only [phaseRms, h]

theorem phaseRms_unmapped {rows : List (Nat × ChanRow)} {pt : PointId} {ph : Phase} (p : PhaseRec)
    (h : scaleOf rows pt ph = none) : phaseRms rows pt ph p = 0 := by
  simp only [phaseRms, h]

/-- R37: a residual sample of three mapped phases. -/
theorem residualSamples_getElem? {rows : List (Nat × ChanRow)} {pt : PointId} {sa sb sc i : Nat} (x : Four PhaseRec)
    (ha : scaleOf rows pt .a = some sa) (hb : scaleOf rows pt .b = some sb) (hc : scaleOf rows pt .c = some sc)
    (hi : i < 32) : (residualSamples rows pt x)[i]? = some (limitCount
      (x.a.hist.getD i 0 + convertScale (x.b.hist.getD i 0) sb sa + convertScale (x.c.hist.getD i 0) sc sa)) := by
  simp [residualSamples, ha, hb, hc, hi, toScaleA]

theorem residualSamples_length (rows : List (Nat × ChanRow)) (pt : PointId) (x : Four PhaseRec) :
    (residualSamples rows pt x).length = 32 := by simp [residualSamples]

/-- R37, R53: the residual RMS of a voltage point whose phase A is mapped; the history of its phase N plays no
part. -/
theorem residualVolts_of_scale {rows : List (Nat × ChanRow)} {pt : PointId} {sa : Nat} (x : Four PhaseRec)
    (ha : scaleOf rows pt .a = some sa) : residualVolts rows pt x = publishRms (rmsCounts (residualSamples rows pt
      ⟨{ x.a with hist := x.a.level }, { x.b with hist := x.b.level }, { x.c with hist := x.c.level }, x.n⟩)) sa := by
  have level : residualSamples rows pt (mapFour (fun p => { p with hist := p.level }) x) = residualSamples rows pt
    ⟨{ x.a with hist := x.a.level }, { x.b with hist := x.b.level }, { x.c with hist := x.c.level }, x.n⟩ := rfl
  simp only [residualVolts, ha, level, Option.getD_some]
  split_ifs with zero
  · rw [zero, publishRms_zero]
  · rfl

/-- R31, R37: the residual RMS of a current point uses the scale of phase N, or of phase A where N is not mapped. -/
theorem residualAmps_of_scale {rows : List (Nat × ChanRow)} {pt : PointId} {scale : Nat} (x : Four PhaseRec)
    (h : scaleOf rows pt .n = some scale ∨ (scaleOf rows pt .n = none ∧ scaleOf rows pt .a = some scale)) :
    residualAmps rows pt x = publishRms (rmsCounts x.n.level) scale := by
  rcases h with hn | ⟨hn, ha⟩
  · simp only [residualAmps, hn]
  · simp only [residualAmps, hn, ha]

/-! ## Real power (R38, R41) -/

theorem sum_zip_mul (v i : List Int) :
    ((v.zip i).map fun x => x.1 * x.2).sum = (List.zipWith (fun x y => x * y) v i).sum := by
  rw [List.zip, List.map_zipWith]

theorem productMean_eq (v i : List Int) : productMean v i = ((List.zipWith (fun x y => x * y) v i).sum).tdiv 32 := by
  rw [productMean, ← sum_zip_mul, List.sum_eq_foldl, List.foldl_map]

theorem residualTorque_eq (v i : List Int) :
    residualTorque v i = (-(List.zipWith (fun x y => x * y) v i).sum).tdiv 32 := by
  simp only [residualTorque, Int.sub_eq_add_neg]
  rw [← sum_zip_mul, List.sum_neg, List.map_map, List.sum_eq_foldl, List.foldl_map]
  rfl

theorem scaleProduct_of_scales {rows : List (Nat × ChanRow)} {v i : PointId} {ph : Phase} {x y : Nat}
    (hx : scaleOf rows v ph = some x) (hy : scaleOf rows i ph = some y) : scaleProduct rows v i ph = (x : Int) * (y : Int) := by
  simp only [scaleProduct, hx, hy, Int.natCast_mul]

/-! ## Crossings and frequency (R43 to R46) -/

/-- R43: a pair of samples that crosses zero; the fraction of its time is not negative. -/
theorem crossingAt_crosses {c j : Nat} {hist : List Int} (ho : hist.getD (j + 1) 0 < 0) (hn : 0 ≤ hist.getD j 0) :
    ∃ fraction : Nat, (fraction : Int) = (-hist.getD (j + 1) 0 * 256) / (hist.getD j 0 - hist.getD (j + 1) 0) ∧
      crossingAt c j hist = some (((c + 4294967296 - j - 1) % 4294967296 * 256 + fraction) % 2 ^ 40) :=
  ⟨_, Int.toNat_of_nonneg (Int.ediv_nonneg (by omega) (by omega)), if_pos ⟨ho, hn⟩⟩

/-- R43: a pair that does not cross zero upwards. -/
theorem crossingAt_none {c j : Nat} {hist : List Int} (h : 0 ≤ hist.getD (j + 1) 0 ∨ hist.getD j 0 < 0) :
    crossingAt c j hist = none := if_neg (by omega)

/-- R44: a crossing is accepted where none is held or the newest lies far enough back. -/
theorem offerCrossing_far {t : Nat} {m : VoltMeas}
    (h : ∀ newest, m.times.head? = some newest → 2048 ≤ timeDiff t newest) :
    offerCrossing t m = { m with times := (t :: m.times).take 5, accepted := min 5 (m.accepted + 1) } := by
  cases ht : m.times with
  | nil => simp [offerCrossing, ht]
  | cons newest older => simp [offerCrossing, ht, h newest (by rw [ht, List.head?_cons])]

/-- R44: a crossing too near the newest one is not accepted. -/
theorem offerCrossing_near {t : Nat} {m : VoltMeas}
    (h : ¬∀ newest, m.times.head? = some newest → 2048 ≤ timeDiff t newest) : offerCrossing t m = m := by
  cases ht : m.times with
  | nil => simp [ht] at h
  | cons newest older =>
    have near : ¬2048 ≤ timeDiff t newest := by simpa [ht] using h
    simp [offerCrossing, ht, near]

/-- R43: a difference of times, added to the older, gives the newer. -/
theorem timeDiff_add {x y : Nat} (hx : x < 2 ^ 40) (hy : y < 2 ^ 40) :
    timeDiff x y < 2 ^ 40 ∧ (timeDiff x y + y) % 2 ^ 40 = x := by
  unfold timeDiff timeModulus
  omega

theorem trackerValid_iff {thr : Thresholds} {m : VoltMeas} :
    trackerValid thr m = true ↔ m.quality ≠ .invalid ∧ thr.dir10 ≤ m.rms.a := by
  simp [trackerValid]

theorem trackerStale_iff {c : Nat} {m : VoltMeas} : trackerStale c m = true ↔
    ∃ newest, m.times.head? = some newest ∧ 16384 < timeDiff (c * 256 % 2 ^ 40) newest := by
  cases ht : m.times with
  | nil => simp [trackerStale, ht]
  | cons newest older =>
    simp only [trackerStale, ht, List.head?_cons, Option.some.injEq, exists_eq_left']
    exact decide_eq_true_iff

/-- R45: sum4, frequency and latest crossing of what a tracker holds. -/
def formFrequency (fNom : Nat) (m : VoltMeas) : VoltMeas :=
  { m with freq := frequencyOf fNom m, sum4 := sum4Of m, latest := m.times.head? }

/-- What stands beside the quantities formed from the crossings held. -/
theorem eq_of_formFrequency {fNom : Nat} {held x : VoltMeas} (h : x = formFrequency fNom held) :
    x = { held with freq := x.freq, sum4 := x.sum4, latest := held.times.head? } := by
  rw [h]
  rfl

/-- R44: the tracker of a point that is not valid is emptied. -/
theorem trackCrossings_invalid {s : State} (hist : List Int) {m : VoltMeas} (h : ¬trackerValid s.meas.thr m = true) :
    trackCrossings s hist m = formFrequency s.fNom (emptyTracker m) := by
  rw [trackCrossings, if_neg h, formFrequency]

/-- R46: a stale tracker is emptied before the crossings are offered. -/
theorem trackCrossings_stale {s : State} (hist : List Int) {m : VoltMeas} (h : trackerValid s.meas.thr m = true)
    (hm : trackerStale s.intake.count m = true) : trackCrossings s hist m =
      formFrequency s.fNom (offerPairs s.intake.count s.intake.filled hist (emptyTracker m)) := by
  rw [trackCrossings, if_pos h, if_pos hm, formFrequency]

/-- R43, R44: the crossings of the update are offered to a valid tracker. -/
theorem trackCrossings_fresh {s : State} (hist : List Int) {m : VoltMeas} (h : trackerValid s.meas.thr m = true)
    (hm : ¬trackerStale s.intake.count m = true) : trackCrossings s hist m =
      formFrequency s.fNom (offerPairs s.intake.count s.intake.filled hist m) := by
  rw [trackCrossings, if_pos h, if_neg hm, formFrequency]

/-- R43 to R46: whatever the tracker holds, its frequency is formed from that. -/
theorem trackCrossings_formed (s : State) (hist : List Int) (m : VoltMeas) :
    ∃ held, trackCrossings s hist m = formFrequency s.fNom held := ⟨_, rfl⟩

/-- R45: with fewer than five crossings nothing is formed. -/
theorem formFrequency_few {fNom : Nat} {m : VoltMeas} (h : m.accepted < 5) :
    (formFrequency fNom m).freq = none ∧ (formFrequency fNom m).sum4 = none := by
  have few : sum4Of m = none := if_neg (by omega)
  exact ⟨by simp only [formFrequency, frequencyOf, few], few⟩

theorem sum4Of_five {m : VoltMeas} {t0 t1 t2 t3 t4 : Nat} (h : m.accepted = 5) (ht : m.times = [t0, t1, t2, t3, t4]) :
    sum4Of m = some (timeDiff t0 t4) := by
  simp only [sum4Of, h, ht, ↓reduceIte]

/-- R45: a sum of 0, or a frequency outside 40 to 70 Hz, is INVALID. -/
theorem frequencyOf_invalid {fNom d : Nat} {m : VoltMeas} (h : sum4Of m = some d)
    (hd : d = 0 ∨ 4 * 256 * 32 * fNom * 1000 / d < 40000 ∨ 70000 < 4 * 256 * 32 * fNom * 1000 / d) :
    frequencyOf fNom m = none := by
  simp only [frequencyOf, h]
  split_ifs with zero within
  · rfl
  · omega
  · rfl

/-- R45: the frequency of a sum. -/
theorem frequencyOf_valid {fNom d : Nat} {m : VoltMeas} (h : sum4Of m = some d) (hd : d ≠ 0)
    (hlo : 40000 ≤ 4 * 256 * 32 * fNom * 1000 / d) (hhi : 4 * 256 * 32 * fNom * 1000 / d ≤ 70000) :
    frequencyOf fNom m = some (4 * 256 * 32 * fNom * 1000 / d) := by
  simp only [frequencyOf, h, hd, ↓reduceIte, hlo, hhi, and_self]

theorem trackerEmptyDue_iff {s : State} {v : Nat} : trackerEmptyDue s v = true ↔
    s.intake.k ≠ none ∧ s.intake.count % 8 = 0 ∧ trackerValid s.meas.thr (s.voltMeas v) = true ∧
      trackerStale s.intake.count (s.voltMeas v) = true := by
  simp [trackerEmptyDue, Option.isSome_iff_ne_none, and_assoc]

/-- R46: an emptied tracker leaves nothing formed. -/
theorem dropTracker_voltMeas {s : State} {v : Nat} (h : v < s.meas.volt.length) : (dropTracker v s).voltMeas v =
    { s.voltMeas v with times := [], accepted := 0, freq := none, sum4 := none, latest := none } :=
  modVolt_voltMeas_same _ h

/-- Settles O21. -/
theorem measuredQuantities : Obligations.MeasuredQuantities := by
  refine ⟨fun n h => ?_, fun counts scale => ?_, rmsCounts_eq, fun rows pt ph x => ?_,
    fun v i => ⟨productMean_eq v i, residualTorque_eq v i⟩, fun rows v i ph x y => scaleProduct_of_scales,
    fun c j hist _ => ⟨crossingAt_crosses, crossingAt_none⟩, fun t m _ => ⟨offerCrossing_far, offerCrossing_near⟩,
    fun x y => timeDiff_add, fun s hist m => ?_, fun v k newest s hv hk hcount hvalid hnewest hfar => ?_⟩
  · obtain ⟨below, above⟩ := floorSqrt_rootWithin h
    exact ⟨below, above⟩
  · unfold publishRms
    omega
  · refine ⟨scaleOf_eq_none, fun scale h => ⟨scaleOf_eq_some h, phaseRms_of_scale _ h⟩, phaseRms_unmapped _,
      fun sa sb sc ha hb hc => ⟨residualSamples_length rows pt x, fun i hi => ?_, residualVolts_of_scale x ha⟩,
      fun scale => residualAmps_of_scale x⟩
    rw [residualSamples_getElem? x ha hb hc hi, limitCount_eq]
    rfl
  · intro valid stale empty offered tracked published
    refine ⟨fun h => ?_, fun h hm => ?_, fun h hm => ?_, ?_, ?_⟩
    · exact eq_of_formFrequency (trackCrossings_invalid hist (mt trackerValid_iff.1 h))
    · exact eq_of_formFrequency (trackCrossings_stale hist (trackerValid_iff.2 h) (trackerStale_iff.2 hm))
    · exact eq_of_formFrequency (trackCrossings_fresh hist (trackerValid_iff.2 h) (mt trackerStale_iff.1 hm))
    · obtain ⟨held, formed⟩ := trackCrossings_formed s hist m
      rw [show tracked = _ from formed]
      exact formFrequency_few
    · obtain ⟨held, formed⟩ := trackCrossings_formed s hist m
      rw [show tracked = _ from formed]
      intro t0 t1 t2 t3 t4 hfive htimes sum f
      have formedSum : sum4Of held = some sum := sum4Of_five hfive htimes
      exact ⟨formedSum, frequencyOf_invalid formedSum, frequencyOf_valid formedSum⟩
  · have due : trackerEmptyDue s v = true :=
      trackerEmptyDue_iff.2 ⟨by simp [hk], hcount, hvalid, trackerStale_iff.2 ⟨newest, hnewest, hfar⟩⟩
    have entry := dropTracker_voltMeas hv
    exact ⟨dropTracker v s, congrArg Host.Outcome.next (if_pos due), rfl, by rw [entry], by rw [entry], by rw [entry],
      by rw [entry], by rw [entry], fun i hi => modVolt_voltMeas_other _ hi⟩

end Sys2Proof.Machine
end

section
/-!
The increment of a time-overcurrent element (O23), its evaluation at an update (O24), and the pickup, the blocking and the
evaluation of every kind of element (O25).
-/

namespace Sys2Proof.Machine

/-! ## The curve and the increment (R64) -/

/-- Breakpoints above the multiple do not change the rate. -/
theorem foldl_rate_above {x : Nat} {l : List (Nat × Nat)} (h : ∀ p ∈ l, x < p.1) (rate : Nat) :
    l.foldl (fun rate p => if p.1 ≤ x then p.2 else rate) rate = rate := by
  induction l with
  | nil => rfl
  | cons p l ih =>
    have hp : ¬p.1 ≤ x := Nat.not_le.2 (h p (by simp))
    simpa [hp] using ih fun q hq => h q (by simp [hq])

theorem curveRate_of_breakpoint {c : CurveRow} {x m rate : Nat} {below above : List (Nat × Nat)}
    (hc : c.points = below ++ (m, rate) :: above) (hm : m ≤ x) (ha : ∀ p ∈ above, x < p.1) : curveRate c x = rate := by
  simp only [curveRate, hc, List.foldl_append, List.foldl_cons, hm, ↓reduceIte]
  exact foldl_rate_above ha rate

theorem fullScale_eq : fullScale = 1000000 := rfl

/-! ## A time-overcurrent element, state by state (R65 to R67) -/

theorem tocAdd_eq (c : CurveRow) (row : ElementRow) (i : Nat) (x : RtSlot) :
    (tocAdd c row i x).acc = min fullScale (x.acc + tocIncrement c row i) ∧
      (tocAdd c row i x).state = (if min fullScale (x.acc + tocIncrement c row i) = fullScale then .operated else .timing) ∧
      (tocAdd c row i x).pickupIdx = x.pickupIdx := ⟨rfl, rfl, rfl⟩

theorem evalToc_idle_below {c : CurveRow} {row : ElementRow} {i count : Nat} {x : RtSlot} (hs : x.state = .idle)
    (hi : i < row.pickup) : evalToc c row i count x = x := by
  simp [evalToc, hs, Nat.not_le.2 hi]

/-- R65: at or above pickup an element that is not OPERATED gains its increment; one that was IDLE notes its pickup. -/
theorem evalToc_above {c : CurveRow} {row : ElementRow} {i count : Nat} {x : RtSlot}
    (hs : x.state = .idle ∨ x.state = .timing ∨ x.state = .resetting) (hi : row.pickup ≤ i) :
    evalToc c row i count x = tocAdd c row i { x with pickupIdx := if x.state = .idle then some count else x.pickupIdx } := by
  cases x
  rcases hs with rfl | rfl | rfl <;> simp [evalToc, hi]

/-- R66: between dropout and pickup nothing moves. -/
theorem evalToc_holds {c : CurveRow} {row : ElementRow} {i count : Nat} {x : RtSlot}
    (hs : x.state = .timing ∧ i < row.pickup ∨ x.state = .operated) (hd : dropout row ≤ i) : evalToc c row i count x = x := by
  rcases hs with ⟨hs, hi⟩ | hs
  · simp [evalToc, hs, hd, Nat.not_le.2 hi]
  · simp [evalToc, hs, hd]

/-- R66: below dropout the element resets by its mode. -/
theorem evalToc_resets {c : CurveRow} {row : ElementRow} {i count : Nat} {x : RtSlot}
    (hs : x.state = .timing ∨ x.state = .operated) (hi : i < row.pickup) (hd : i < dropout row) :
    evalToc c row i count x = tocReset c row x := by
  rcases hs with hs | hs <;> simp [evalToc, hs, Nat.not_le.2 hi, Nat.not_le.2 hd]

theorem evalToc_resetting_below {c : CurveRow} {row : ElementRow} {i count : Nat} {x : RtSlot} (hs : x.state = .resetting)
    (hi : i < row.pickup) : evalToc c row i count x = tocDecay c row x := by
  simp [evalToc, hs, Nat.not_le.2 hi]

/-- R67: the slot is cleared once the decrement takes all there is. -/
theorem tocDecay_cases (c : CurveRow) (row : ElementRow) (x : RtSlot) :
    if x.acc ≤ c.resetRate * 100 / row.td then tocDecay c row x = {}
    else tocDecay c row x = { x with acc := x.acc - c.resetRate * 100 / row.td, state := .resetting } := by
  split
  case isTrue h => exact if_pos h
  case isFalse h => exact if_neg h

theorem tocDecay_acc_le (c : CurveRow) (row : ElementRow) (x : RtSlot) : (tocDecay c row x).acc ≤ x.acc := by
  unfold tocDecay
  split
  · exact Nat.zero_le _
  · exact Nat.sub_le _ _

theorem tocReset_acc_le (c : CurveRow) (row : ElementRow) (x : RtSlot) : (tocReset c row x).acc ≤ x.acc := by
  unfold tocReset
  split
  · exact Nat.zero_le _
  · exact tocDecay_acc_le c row x

/-- R64: below pickup no state adds to the accumulator. -/
theorem evalToc_acc_le {c : CurveRow} {row : ElementRow} {i : Nat} (count : Nat) (x : RtSlot) (hi : i < row.pickup) :
    (evalToc c row i count x).acc ≤ x.acc := by
  have hi' := Nat.not_le.2 hi
  unfold evalToc
  split
  case h_1 => simp [hi']
  case h_2 =>
    simp only [hi', ↓reduceIte]
    split
    · exact Nat.le_refl _
    · exact tocReset_acc_le c row x
  case h_3 =>
    split
    · exact Nat.le_refl _
    · exact tocReset_acc_le c row x
  case h_4 => simpa [hi'] using tocDecay_acc_le c row x
  case h_5 => exact Nat.le_refl _

/-- Settles O23: the last breakpoint at or below the multiple gives the rate, the limits are those of `tocIncrement`, and no
state of the element adds below pickup. -/
theorem curveIncrement : Obligations.CurveIncrement := by
  unfold Obligations.CurveIncrement
  refine ⟨fun c row i rate below above m hc hm ha => ?_, fun row hp => ?_, fun rate => ?_,
    fun c row i count x hi => evalToc_acc_le count x hi⟩
  · rw [tocIncrement, curveRate_of_breakpoint hc hm ha, fullScale_eq]
  · rw [Nat.mul_div_cancel_left _ hp]
    rfl
  · omega

/-- Settles O24, by the states of the element. -/
theorem tocEvaluation : Obligations.TocEvaluation := by
  unfold Obligations.TocEvaluation
  intro c row i count x y sum dec
  refine ⟨evalToc_idle_below, fun hs hi => ?_, fun hs hi hd => ?_, fun hs _ hd => evalToc_holds (.inr hs) hd,
    fun hs hi hd hm => ?_, fun hs hi hd hm => ?_, fun hs hi => ?_⟩
  · have hy : y = _ := evalToc_above hs hi
    obtain ⟨hacc, hstate, hpick⟩ := tocAdd_eq c row i { x with pickupIdx := if x.state = .idle then some count else x.pickupIdx }
    rw [hy, hacc, hstate, hpick]
    refine ⟨rfl, ?_, ?_, fun h => by simp [h], fun h => by simp [h]⟩
    · simp [sum, fullScale_eq]
    · simp [sum, fullScale_eq]
  · exact evalToc_holds (hs.imp_left fun h => ⟨h, hi⟩) hd
  · have hy : y = _ := evalToc_resets hs hi hd
    rw [hy, tocReset, hm]
  · have hy : y = tocReset c row x := evalToc_resets hs hi hd
    rw [hy, tocReset, hm]
    exact tocDecay_cases c row x
  · have hy : y = tocDecay c row x := evalToc_resetting_below hs hi
    rw [hy]
    exact tocDecay_cases c row x

end Sys2Proof.Machine
end

section
/-!
The quantity, the thresholds, the blocking and the pickup of every kind of element, and an element at an update (O25).
-/

namespace Sys2Proof.Machine

/-! ## Quantities and thresholds (R60, R61, R68) -/

theorem passes_iff {d : DirSetting} {x : Dir} :
    passes d x = true ↔ d = .none ∨ (d = .forward ∧ x = .forward) ∨ (d = .reverse ∧ x = .reverse) := by
  cases d <;> cases x <;> decide

theorem quantity_overcurrent {s : State} {row : ElementRow} (h : row.kind = .toc ∨ row.kind = .ioc) :
    quantity s row = overcurrent row (s.curMeas (pointNumber row.point)) := by
  rcases h with h | h <;> simp only [quantity, h]

theorem saturatedInScope_iff {row : ElementRow} {m : CurMeas} : saturatedInScope row m = true ↔ row.kind = .ioc ∧
    ((row.scope = .phases ∧ (m.sat.a = true ∨ m.sat.b = true ∨ m.sat.c = true)) ∨
      (row.scope = .residual ∧ m.sat.n = true)) := by
  unfold saturatedInScope
  split
  case h_1 hk hs => simp [hk, hs, or_assoc]
  case h_2 hk hs => simp [hk, hs]
  case h_3 hp hr =>
    refine iff_of_false (by simp) ?_
    rintro ⟨hk, ⟨hs, -⟩ | ⟨hs, -⟩⟩
    · exact hp hk hs
    · exact hr hk hs

theorem pickedUp_fresh_iff {s : State} {row : ElementRow} : pickedUp s row false = true ↔
    saturatedInScope row (s.curMeas (pointNumber row.point)) = true ∨ beyondPickup row (quantity s row) = true := by
  simp [pickedUp, or_comm]

theorem pickedUp_already_iff {s : State} {row : ElementRow} : pickedUp s row true = true ↔
    saturatedInScope row (s.curMeas (pointNumber row.point)) = true ∨ beyondDropout row (quantity s row) = true := by
  simp [pickedUp, or_comm]

theorem beyondPickup_iff {row : ElementRow} {q : Int} : beyondPickup row q = true ↔ (match row.kind with
    | .toc | .ioc | .ov | .ovf => (row.pickup : Int) ≤ q
    | .uv | .uf => q ≤ row.pickup
    | .rp => (row.pickup : Int) < q) := by
  unfold beyondPickup
  cases row.kind <;> simp

theorem beyondDropout_iff {row : ElementRow} {q : Int} : beyondDropout row q = true ↔ (match row.kind with
    | .toc | .ioc | .ov | .ovf | .rp => (dropout row : Int) ≤ q
    | .uv | .uf => q ≤ dropout row) := by
  unfold beyondDropout
  cases row.kind <;> simp

theorem dropout_eq (row : ElementRow) : dropout row =
    if row.kind = .uv ∨ row.kind = .uf then row.pickup * 105 / 100 else row.pickup * 95 / 100 := by
  unfold dropout
  cases row.kind <;> simp

/-! ## Blocking (R62) -/

theorem unfit_iff {q : Quality} : unfit q = true ↔ q = .degraded ∨ q = .invalid := by simp [unfit]

theorem referenceUnfit_iff {s : State} {pt : PointId} : referenceUnfit s pt = true ↔
    ∃ w, (s.brk (pointNumber pt)).vref = some w ∧
      ((s.voltMeas w).quality = .degraded ∨ (s.voltMeas w).quality = .invalid) := by
  unfold referenceUnfit
  split
  case h_1 v hv => simp [hv, unfit_iff]
  case h_2 hv => simp [hv]

theorem qualityOf_unfit_iff {s : State} {pt : PointId} : unfit (qualityOf s pt) = true ↔ (match pt with
    | .cur n => (s.curMeas n).quality = .degraded ∨ (s.curMeas n).quality = .invalid
    | .volt w => (s.voltMeas w).quality = .degraded ∨ (s.voltMeas w).quality = .invalid) := by
  cases pt <;> exact unfit_iff

theorem elementBlocked_iff {s : State} {row : ElementRow} : elementBlocked s row = true ↔
    unfit (qualityOf s row.point) = true ∨
      ((row.kind = .toc ∨ row.kind = .ioc) ∧ row.direction ≠ .none ∧ referenceUnfit s row.point = true) ∨
      (row.kind = .rp ∧ (referenceUnfit s row.point = true ∨ (s.curMeas (pointNumber row.point)).power = none)) ∨
      ((row.kind = .uf ∨ row.kind = .ovf) ∧ (s.voltMeas (pointNumber row.point)).freq = none) := by
  rw [elementBlocked, Bool.or_eq_true]
  refine or_congr_right ?_
  cases row.kind <;> simp

/-! ## Phases involved (R73) -/

theorem involved_overcurrent {s : State} {row : ElementRow} (ph : Phase) (h : row.kind = .toc ∨ row.kind = .ioc) :
    (involved s row).get ph = (decide (row.scope = .phases ∧ ph ≠ .n ∨ row.scope = .residual ∧ ph = .n) &&
      ((passes row.direction ((s.curMeas (pointNumber row.point)).dir.get ph) &&
          decide (row.pickup ≤ (s.curMeas (pointNumber row.point)).rms.get ph)) ||
        (decide (row.kind = .ioc) && (s.curMeas (pointNumber row.point)).sat.get ph))) := by
  rcases h with h | h <;> cases hs : row.scope <;> cases ph <;> simp [involved, h, hs, Four.get]

theorem involved_uv {s : State} {row : ElementRow} (ph : Phase) (h : row.kind = .uv) : (involved s row).get ph =
    decide (ph ≠ .n ∧ (s.voltMeas (pointNumber row.point)).rms.get ph ≤ row.pickup) := by
  cases ph <;> simp [involved, h, Four.get]

theorem involved_ov {s : State} {row : ElementRow} (ph : Phase) (h : row.kind = .ov) : (involved s row).get ph =
    decide (ph ≠ .n ∧ row.pickup ≤ (s.voltMeas (pointNumber row.point)).rms.get ph) := by
  cases ph <;> simp [involved, h, Four.get]

theorem involved_none {s : State} {row : ElementRow} (ph : Phase) (h : row.kind = .uf ∨ row.kind = .ovf ∨ row.kind = .rp) :
    (involved s row).get ph = false := by
  rcases h with h | h | h <;> cases ph <;> simp [involved, h, Four.get]

/-! ## Peaks and the operate index (R71, R73) -/

theorem maxFour_get (x y : Four Nat) (ph : Phase) : (maxFour x y).get ph = max (x.get ph) (y.get ph) := by cases ph <;> rfl

theorem orFour_get (x y : Four Bool) (ph : Phase) : (orFour x y).get ph = (x.get ph || y.get ph) := by cases ph <;> rfl

/-- What the operate index and the peaks add to a slot leaves its timing as it is. -/
theorem keepPickup_timing (s : State) (row : ElementRow) (x : RtSlot) : (keepPickup s row x).state = x.state ∧
    (keepPickup s row x).acc = x.acc ∧ (keepPickup s row x).pickupIdx = x.pickupIdx ∧
    (keepPickup s row x).operIdx = x.operIdx ∧ (keepPickup s row x).frozen = x.frozen := by
  unfold keepPickup
  split <;> exact ⟨rfl, rfl, rfl, rfl, rfl⟩

theorem markOperated_timing (old : RtSlot) (count : Nat) (x : RtSlot) : (markOperated old count x).state = x.state ∧
    (markOperated old count x).acc = x.acc ∧ (markOperated old count x).pickupIdx = x.pickupIdx ∧
    (markOperated old count x).frozen = x.frozen ∧ (markOperated old count x).peaks = x.peaks ∧
    (markOperated old count x).phases = x.phases := by
  unfold markOperated
  split <;> exact ⟨rfl, rfl, rfl, rfl, rfl, rfl⟩

/-- An IDLE slot takes neither. -/
theorem keepPickup_idle (s : State) (row : ElementRow) (old : RtSlot) (count : Nat) {x : RtSlot} (h : x.state = .idle) :
    keepPickup s row (markOperated old count x) = x := by
  have unmarked : markOperated old count x = x := if_neg fun c => by simp [h] at c
  rw [unmarked]
  exact if_pos h

/-! ## The rules of the kinds keep the pickup (R64 to R69) -/

/-- `y` is `x` cleared, or keeps what BLOCKED and the pickup noted. -/
def ClearedOrKept (x y : RtSlot) : Prop := y.state = .idle ∨ y.frozen = x.frozen ∧ y.peaks = x.peaks ∧ y.phases = x.phases

theorem tocDecay_clearedOrKept (c : CurveRow) (row : ElementRow) (x : RtSlot) : ClearedOrKept x (tocDecay c row x) := by
  unfold tocDecay
  split
  · exact .inl rfl
  · exact .inr ⟨rfl, rfl, rfl⟩

theorem tocReset_clearedOrKept (c : CurveRow) (row : ElementRow) (x : RtSlot) : ClearedOrKept x (tocReset c row x) := by
  unfold tocReset
  split
  · exact .inl rfl
  · exact tocDecay_clearedOrKept c row x

theorem evalToc_clearedOrKept (c : CurveRow) (row : ElementRow) (i count : Nat) (x : RtSlot) :
    ClearedOrKept x (evalToc c row i count x) := by
  have same : ClearedOrKept x x := .inr ⟨rfl, rfl, rfl⟩
  have added : ∀ p, ClearedOrKept x (tocAdd c row i { x with pickupIdx := p }) := fun _ => .inr ⟨rfl, rfl, rfl⟩
  unfold evalToc
  split
  · split
    · exact added _
    · exact same
  · split
    · exact added _
    · split
      · exact same
      · exact tocReset_clearedOrKept c row x
  · split
    · exact same
    · exact tocReset_clearedOrKept c row x
  · split
    · exact added _
    · exact tocDecay_clearedOrKept c row x
  · exact same

theorem operateTest_timing (delay : Nat) (x : RtSlot) : (operateTest delay x).acc = x.acc ∧
    (operateTest delay x).state = (if delay ≤ x.acc then .operated else x.state) ∧
    (operateTest delay x).pickupIdx = x.pickupIdx ∧ (operateTest delay x).frozen = x.frozen ∧
    (operateTest delay x).peaks = x.peaks ∧ (operateTest delay x).phases = x.phases := by
  unfold operateTest
  split <;> exact ⟨rfl, rfl, rfl, rfl, rfl, rfl⟩

theorem evalDefinite_clearedOrKept (delay : Nat) (picked : Bool) (count : Nat) (x : RtSlot) :
    ClearedOrKept x (evalDefinite delay picked count x) := by
  have tested : ∀ y : RtSlot, y.frozen = x.frozen ∧ y.peaks = x.peaks ∧ y.phases = x.phases →
      ClearedOrKept x (operateTest delay y) := fun y ⟨hf, hp, hi⟩ => by
    obtain ⟨-, -, -, tf, tp, ti⟩ := operateTest_timing delay y
    exact .inr ⟨tf.trans hf, tp.trans hp, ti.trans hi⟩
  unfold evalDefinite
  split
  · exact tested _ ⟨rfl, rfl, rfl⟩
  · exact .inr ⟨rfl, rfl, rfl⟩
  · exact tested _ ⟨rfl, rfl, rfl⟩
  · exact .inr ⟨rfl, rfl, rfl⟩
  · exact .inl rfl
  · exact .inl rfl
  · exact .inl rfl
  · exact .inr ⟨rfl, rfl, rfl⟩

theorem evalKind_clearedOrKept (s : State) (row : ElementRow) (x : RtSlot) : ClearedOrKept x (evalKind s row x) := by
  unfold evalKind
  split
  · exact evalToc_clearedOrKept _ _ _ _ _
  all_goals exact evalDefinite_clearedOrKept _ _ _ _

theorem evalKind_definite {s : State} {row : ElementRow} (x : RtSlot) (h : row.kind ≠ .toc) : evalKind s row x =
    evalDefinite (delayOf s row) (pickedUp s row (decide (x.state ≠ .idle))) s.intake.count x := by
  unfold evalKind
  split
  case h_1 hk => exact absurd hk h
  all_goals rfl

theorem delayOf_eq (s : State) (row : ElementRow) : delayOf s row = row.delayUpd.getD (msToUpdates s.fNom row.delayMs) := by
  unfold delayOf
  cases row.delayUpd <;> rfl

/-! ## An element at an update (R59, R62, R63) -/

theorem evalSlot_blocked {s : State} {row : ElementRow} (x : RtSlot) (h : elementBlocked s row = true) :
    evalSlot s row x = freeze x := if_pos h

theorem evalSlot_unblocked {s : State} {row : ElementRow} (x : RtSlot) (h : elementBlocked s row = false) :
    evalSlot s row x = keepPickup s row (markOperated (thaw x) s.intake.count (evalKind s row (thaw x))) := by
  simp [evalSlot, h]

/-- R63: what `thaw` gives, in the words of the rule. -/
theorem thaw_eq {x old : RtSlot} (hrun : x.state ≠ .blocked → old = x)
    (hfrozen : ∀ st, x.state = .blocked → x.frozen = some st → old = { x with state := st, frozen := none })
    (hsome : x.state = .blocked → x.frozen ≠ none) : thaw x = old := by
  unfold thaw
  split
  case isTrue h =>
    obtain ⟨st, hst⟩ := Option.ne_none_iff_exists'.1 (hsome h)
    rw [hfrozen st h hst, hst]
    rfl
  case isFalse h => exact (hrun h).symm

theorem keepPickup_pickup {s : State} {row : ElementRow} {x : RtSlot} (h : x.state ≠ .idle) (ph : Phase) :
    (keepPickup s row x).peaks.get ph = max (x.peaks.get ph) ((peakValues s row).get ph) ∧
      (keepPickup s row x).phases.get ph = (x.phases.get ph || (involved s row).get ph) := by
  simp only [keepPickup, h, ↓reduceIte]
  exact ⟨maxFour_get _ _ _, orFour_get _ _ _⟩

/-- What the slot of an element that is not blocked holds after an update of the slot `old`: the timing its kind's rule gives,
the operate index of an element that enters OPERATED, and the pickup of one that is not IDLE. -/
structure Updated (s : State) (row : ElementRow) (old y : RtSlot) : Prop where
  state : y.state = (evalKind s row old).state
  acc : y.acc = (evalKind s row old).acc
  pickupIdx : y.pickupIdx = (evalKind s row old).pickupIdx
  idle : (evalKind s row old).state = .idle → y = evalKind s row old
  operIdx : y.state = .operated → old.state ≠ .operated → y.operIdx = some s.intake.count
  pickup : y.state ≠ .idle → y.frozen = old.frozen ∧
    (∀ ph, y.peaks.get ph = max (old.peaks.get ph) ((peakValues s row).get ph)) ∧
    ∀ ph, y.phases.get ph = (old.phases.get ph || (involved s row).get ph)

theorem evalSlot_updated {s : State} {row : ElementRow} {x : RtSlot} (hb : elementBlocked s row = false) :
    Updated s row (thaw x) (evalSlot s row x) := by
  rw [evalSlot_unblocked x hb]
  generalize thaw x = old
  obtain ⟨kstate, kacc, kpick, koper, kfrozen⟩ :=
    keepPickup_timing s row (markOperated old s.intake.count (evalKind s row old))
  obtain ⟨mstate, macc, mpick, mfrozen, mpeaks, mphases⟩ := markOperated_timing old s.intake.count (evalKind s row old)
  refine ⟨kstate.trans mstate, kacc.trans macc, kpick.trans mpick, keepPickup_idle s row old s.intake.count,
    fun ho hn => ?_, fun hn => ?_⟩
  · have marked : markOperated old s.intake.count (evalKind s row old) =
        { evalKind s row old with operIdx := some s.intake.count } := if_pos ⟨(kstate.trans mstate).symm.trans ho, hn⟩
    rw [koper, marked]
  · have stays : (markOperated old s.intake.count (evalKind s row old)).state ≠ .idle := fun h => hn (kstate.trans h)
    rcases evalKind_clearedOrKept s row old with hidle | ⟨hf, hp, hi⟩
    · exact absurd (mstate.trans hidle) stays
    · refine ⟨by rw [kfrozen, mfrozen, hf], fun ph => ?_, fun ph => ?_⟩
      · rw [(keepPickup_pickup stays ph).1, mpeaks, hp]
      · rw [(keepPickup_pickup stays ph).2, mphases, hi]

/-- R69: the table of a definite-time element, after an update. -/
theorem Updated.definite {s : State} {row : ElementRow} {old y : RtSlot} (h : Updated s row old y) (hk : row.kind ≠ .toc) :
    let picked := pickedUp s row (decide (old.state ≠ .idle))
    let delay := row.delayUpd.getD (msToUpdates s.fNom row.delayMs)
    let tested := fun (n : Nat) => y.acc = n ∧ y.state = (if delay ≤ n then .operated else .timing)
    (old.state = .idle → picked = true → tested 0 ∧ y.pickupIdx = some s.intake.count) ∧
    (old.state = .idle → picked = false → y = old) ∧
    (old.state = .timing → picked = true → tested (min delay (old.acc + 1)) ∧ y.pickupIdx = old.pickupIdx) ∧
    (old.state = .operated → picked = true → y.state = .operated ∧ y.acc = old.acc ∧ y.pickupIdx = old.pickupIdx) ∧
    (old.state = .timing ∨ old.state = .operated → picked = false → y = {}) := by
  intro picked delay tested
  have kind : evalKind s row old = evalDefinite delay picked s.intake.count old := by
    rw [evalKind_definite old hk, delayOf_eq]
  obtain ⟨state, acc, pick, idle, -, -⟩ := h
  rw [kind] at state acc pick idle
  refine ⟨fun ho hp => ?_, fun ho hp => ?_, fun ho hp => ?_, fun ho hp => ?_, fun ho hp => ?_⟩
  · obtain ⟨tacc, tstate, tpick, -⟩ :=
      operateTest_timing delay { old with state := .timing, acc := 0, pickupIdx := some s.intake.count }
    simp only [evalDefinite, ho, hp] at state acc pick
    exact ⟨⟨acc.trans tacc, state.trans tstate⟩, pick.trans tpick⟩
  · simp only [evalDefinite, ho, hp] at idle
    exact idle trivial
  · obtain ⟨tacc, tstate, tpick, -⟩ := operateTest_timing delay { old with acc := min delay (old.acc + 1) }
    simp only [ho] at tacc tstate tpick
    simp only [evalDefinite, ho, hp] at state acc pick
    exact ⟨⟨acc.trans tacc, state.trans tstate⟩, pick.trans tpick⟩
  · simp only [evalDefinite, ho, hp] at state acc pick
    exact ⟨state, acc, pick⟩
  · rcases ho with ho | ho <;> simp only [evalDefinite, ho, hp] at idle <;> exact idle trivial

/-- Settles O25: the quantities, thresholds and blocking kind by kind, then the slot of an element that is not blocked, whose
kind's rule either clears it or keeps what the pickup noted. -/
theorem elementsEvaluated : Obligations.ElementsEvaluated := by
  unfold Obligations.ElementsEvaluated
  refine ⟨fun d x => passes_iff, ?_, ?_⟩
  · intro s row i v shown q current
    refine ⟨fun hk hs => ?_, fun hk hs => ?_, fun hk => ?_, fun hk => ?_, fun f hk hf => ?_, fun p hk hp => ?_,
      dropout_eq row, ⟨?_, ?_⟩, ?_, fun ph hk => involved_overcurrent ph hk, fun ph hk => involved_uv ph hk,
      fun ph hk => involved_ov ph hk, fun ph hk => involved_none ph hk⟩
    · simp only [q, quantity_overcurrent hk, overcurrent, hs]
      rfl
    · simp only [q, quantity_overcurrent hk, overcurrent, hs]
      rfl
    · simp only [q, quantity, hk, v]
    · simp only [q, quantity, hk, v]
    · have hf' : (s.voltMeas (pointNumber row.point)).freq = some f := hf
      rcases hk with hk | hk <;> simp only [q, quantity, hk, hf', Option.getD_some]
    · have hp' : (s.curMeas (pointNumber row.point)).power = some p := hp
      simp only [q, quantity, hk, hp', Option.getD_some]
    · exact pickedUp_fresh_iff.trans (or_congr saturatedInScope_iff beyondPickup_iff)
    · exact pickedUp_already_iff.trans (or_congr saturatedInScope_iff beyondDropout_iff)
    · have link := referenceUnfit_iff (s := s) (pt := row.point)
      refine elementBlocked_iff.trans (or_congr qualityOf_unfit_iff (or_congr ?_ (or_congr ?_ Iff.rfl)))
      · exact and_congr_right fun _ => and_congr_right fun _ => link
      · exact and_congr_right fun _ => or_congr_left link
  · intro s row x y
    refine ⟨fun hb => ?_, fun hb old hrun hfrozen hsome _ => ?_⟩
    · have hy : y = freeze x := evalSlot_blocked x hb
      exact ⟨fun h => hy.trans (if_pos h), fun h => hy.trans (if_neg h)⟩
    · have updated : Updated s row old y := thaw_eq hrun hfrozen hsome ▸ evalSlot_updated hb
      refine ⟨fun hk => ?_, updated.definite, updated.operIdx, updated.pickup⟩
      have hz : evalKind s row old = evalToc (s.tbl.curves.getD row.curve {}) row (quantity s row).toNat s.intake.count old := by
        simp only [evalKind, hk]
      exact hz ▸ ⟨updated.state, updated.acc, updated.pickupIdx, updated.idle⟩

end Sys2Proof.Machine
end

section
/-!
SELECT_GROUP (O57) and WRITE_ROW (O53).
-/

namespace Sys2Proof.Machine

/-! ## Writes and answers -/

/-- R185: with no write in progress the one requested begins on the image as it stands. -/
theorem requestWrite_begins {a : HeldAnswer} {s : State} (h : s.mgmt.write = none) :
    ∃ w, (requestWrite a s).mgmt.write = some w ∧ w.image = currentImage s ∧ a ∈ w.held := by
  simp only [requestWrite, h]
  exact ⟨_, rfl, rfl, List.mem_singleton_self a⟩

/-- R185: with one in progress it waits. -/
theorem requestWrite_waits {a : HeldAnswer} {s : State} {w : Writing} (h : s.mgmt.write = some w) :
    ∃ w', (requestWrite a s).mgmt.write = some w' ∧ w'.waiting = true ∧ a ∈ w'.waitHeld := by
  simp only [requestWrite, h, State.modMgmt_mgmt, Option.some.injEq, exists_eq_left', List.mem_append, List.mem_singleton,
    or_true, and_self]

/-- R174: a request whose part state does not take it is refused. -/
theorem takeKind_wrongState {k : Kind} {r : Request} {rest : List Request} {s : State} {rights : Rights}
    (act : Request → State → State) (hq : s.mgmt.requests = r :: rest) (hk : r.kind = kindCodeOf k)
    (hf : unitFree s = true) (hr : managerRights s r.src = some rights) (hi : includesRight rights (rightOf k) = true)
    (ha : argsShape k r.args = true) (hs : takenNow k s.mgmt.part = false) :
    takeKind k act s = settleQueue (refuse r .wrongState (setRequests rest s)) := by
  have asked : managerRights (setRequests rest s) r.src = some rights := hr
  have barred : takenNow k (setRequests rest s).mgmt.part = false := hs
  simp only [takeKind, hq, hf, hk, testRequest, asked, ha, hi, barred, and_self, ↓reduceIte, Bool.true_eq_false]

/-! ## SELECT_GROUP (R76) -/

theorem actSelectGroup_eq {r : Request} {g : Group} {s : State} (h : r.args = .group (some g)) :
    actSelectGroup r s = selectGroup r g s := by simp only [actSelectGroup, h]

theorem takenNow_selectGroup {s : State} (h : s.inService = false) : takenNow .selectGroup s.mgmt.part = false := by
  unfold State.inService at h
  split at h
  · cases h
  case h_2 hs =>
    unfold takenNow
    split
    · rfl
    · rfl
    · split <;> rfl
    · exact absurd ‹_› (hs _)

/-- R76: the pending group named again leaves the Protection Unit as it is. -/
theorem joinSelection_prot (r : Request) (g : Group) (s : State) : (joinSelection r g s).prot = s.prot := by
  have answered : (answerDone r s).prot = s.prot := (Internal.answerDone r s).outside.prot
  unfold joinSelection
  dsimp only
  split
  · exact answered
  · split
    · rfl
    · split
      · rfl
      · exact answered

/-- Settles O57, by the active group and the pending one. -/
theorem groupSelected : Obligations.GroupSelected := by
  unfold Obligations.GroupSelected
  intro r rest g s hargs s' held chosen
  refine ⟨fun taken => ?_, fun hq hk hf hs ⟨rights, hr, hi⟩ => ?_⟩
  · have run : exec .selectGroup s = .next (settleQueue (selectGroup r g s')) := by
      show Host.Outcome.next (takeKind .selectGroup actSelectGroup s) = _
      rw [takeKind_taken taken, actSelectGroup_eq hargs]
    refine ⟨fun ha hp => ?_, fun ha hp => ⟨?_, fun hw => ?_⟩, fun ha hp => ⟨?_, fun hw => ?_, fun w hw => ?_⟩,
      fun ha hp => ?_⟩
    · have kept : selectGroup r g s' = answerDone r s' := by
        simp [selectGroup, show s'.prot.active = g from ha, show s'.prot.pendingGroup = none from hp]
      rw [run, kept]
    · have cancelled : selectGroup r g s' = chosen none := by
        simp [selectGroup, show s'.prot.active = g from ha,
          show s'.prot.pendingGroup.isSome = true from Option.isSome_iff_ne_none.2 hp]
        rfl
      rw [run, cancelled]
    · obtain ⟨w, hsome, himage, hheld⟩ := requestWrite_begins (a := held) (s := setPending none s') hw
      exact ⟨w, hsome, by rw [himage]; exact ha, hheld⟩
    · have pending : selectGroup r g s' = chosen (some g) := by
        simp [selectGroup, show ¬s'.prot.active = g from ha, show ¬s'.prot.pendingGroup = some g from hp]
        rfl
      rw [run, pending]
    · obtain ⟨w, hsome, himage, hheld⟩ := requestWrite_begins (a := held) (s := setPending (some g) s') hw
      exact ⟨w, hsome, by rw [himage]; rfl, hheld⟩
    · exact requestWrite_waits (a := held) (s := setPending (some g) s') hw
    · have joined : selectGroup r g s' = joinSelection r g s' := by
        simp [selectGroup, show ¬s'.prot.active = g from ha, show s'.prot.pendingGroup = some g from hp]
      exact ⟨_, run.trans (by rw [joined]), joinSelection_prot r g s'⟩
  · exact congrArg Host.Outcome.next (takeKind_wrongState actSelectGroup hq hk hf hr hi (by rw [hargs]; rfl)
      (takenNow_selectGroup hs))

/-! ## WRITE_ROW (R56, R77, R82, R178) -/

theorem doneStatus_eq (d : RowData) :
    doneStatus (wasClamped d) = if clampRow d = d then Status.done else .doneClamped := by
  by_cases h : clampRow d = d <;> simp [doneStatus, wasClamped, h]

/-- R56, R82: while its f_nom is unset the edit set holds no value in updates. -/
theorem editRow_eq (t : TableId) (i : Nat) (d : RowData) (e : Tables) : editRow t i d e =
    (let x := putRow t i d e
     if t = .site ∧ x.site.fNom = none then
       { x with breakers := x.breakers.map fun y => { y with bfUpdates := none }
                elemsA := x.elemsA.map fun y => { y with delayUpd := none }
                elemsB := x.elemsB.map fun y => { y with delayUpd := none } }
     else x) := by
  unfold editRow
  dsimp only
  split
  case isTrue h => simp [convertTables, convertBreaker, convertElement, h.2]
  case isFalse h => rfl

theorem writeEdit_ok {r : Request} {t : TableId} {i : Nat} {d : RowData} {listsOk : Bool} {s : State}
    (hl : listsOk = true) (hd : rowStructure (preparedRow (editSet s).site.fNom d) = true) :
    writeEdit r t i d listsOk s = answerTo r (doneStatus (wasClamped d)) .nothing (s.modMgmt fun m =>
      { m with edit := some (editRow t i (preparedRow (editSet s).site.fNom d) (editSet s)) }) := by
  simp [writeEdit, hl, hd]

theorem writeEdit_refused {r : Request} {t : TableId} {i : Nat} {d : RowData} {listsOk : Bool} {s : State}
    (h : listsOk = false ∨ rowStructure (preparedRow (editSet s).site.fNom d) = false) :
    writeEdit r t i d listsOk s = refuse r .badValue s := by
  rcases h with h | h <;> simp [writeEdit, h]

theorem writeService_noGroup {r : Request} {t : TableId} (i : Nat) (d : RowData) (listsOk : Bool) {s : State}
    (h : groupOfTable t = none) : writeService r t i d listsOk s = refuse r .wrongState s := by
  simp only [writeService, h]

theorem writeService_activeGroup {r : Request} {t : TableId} {g : Group} (i : Nat) (d : RowData) (listsOk : Bool) {s : State}
    (h : groupOfTable t = some g) (hg : s.prot.pendingGroup ≠ none ∨ s.prot.active = g) :
    writeService r t i d listsOk s = refuse r .activeGroup s := by
  simp only [writeService, h, Option.isSome_iff_ne_none, hg, ↓reduceIte]

theorem writeService_ok {r : Request} {t : TableId} {g : Group} {i : Nat} {d : RowData} {s : State}
    (h : groupOfTable t = some g) (hp : s.prot.pendingGroup = none) (ha : s.prot.active ≠ g)
    (hd : rowStructure (preparedRow s.site.fNom d) = true) (he : serviceElementOk s.tbl (preparedRow s.site.fNom d) = true) :
    writeService r t i d true s = requestWrite ⟨r.src, r.tag, r.kind, wasClamped d⟩
      (setTables (putRow t i (preparedRow s.site.fNom d) s.tbl) s) := by
  simp [writeService, h, hp, ha, hd, he]

theorem writeService_refused {r : Request} {t : TableId} {g : Group} {i : Nat} {d : RowData} {listsOk : Bool} {s : State}
    (h : groupOfTable t = some g) (hp : s.prot.pendingGroup = none) (ha : s.prot.active ≠ g)
    (hd : listsOk = false ∨ rowStructure (preparedRow s.site.fNom d) = false ∨
      serviceElementOk s.tbl (preparedRow s.site.fNom d) = false) :
    writeService r t i d listsOk s = refuse r .badValue s := by
  rcases hd with hd | hd | hd <;> simp [writeService, h, hp, ha, hd]

theorem setTables_tbl {t : Tables} {s : State} (h : s.mgmt.image.isSome = true) : (setTables t s).tbl = t := by
  obtain ⟨im, him⟩ := Option.isSome_iff_exists.1 h
  simp [setTables, State.tbl, him]

/-- Settles O53, by the part state and the group whose table is written. -/
theorem rowWritten : Obligations.RowWritten := by
  unfold Obligations.RowWritten
  intro r rest n i d listsOk t s taken hargs ht s' status group
  have run : exec .writeRow s = .next (settleQueue (actWriteRow r s')) := congrArg Host.Outcome.next (takeKind_taken taken _)
  refine ⟨fun hc => ?_, fun hc => ?_⟩
  · intro e d'
    have inEdit : exec .writeRow s = .next (settleQueue (writeEdit r t i d listsOk s')) := by
      rw [run, actWriteRow, hargs]
      simp only [ht, show s'.inConfig = true from hc, ↓reduceIte]
    refine ⟨fun hl hd => ?_, fun h => by rw [inEdit, writeEdit_refused (s := s') h]⟩
    rw [inEdit, writeEdit_ok (s := s') hl hd, doneStatus_eq, editRow_eq]
    exact ⟨_, rfl, rfl, rfl⟩
  · intro d'
    have inForce : exec .writeRow s = .next (settleQueue (writeService r t i d listsOk s')) := by
      rw [run, actWriteRow, hargs]
      simp [ht, show s'.inConfig = false from hc]
    have hgroup : group = groupOfTable t := by cases t <;> rfl
    rw [hgroup]
    refine ⟨fun h => by rw [inForce, writeService_noGroup i d listsOk h], fun g hg => ⟨fun h => ?_, fun hp ha => ⟨?_, fun h => ?_⟩⟩⟩
    · rw [inForce, writeService_activeGroup i d listsOk (s := s') hg h]
    · intro hl hd he
      rw [inForce, hl, writeService_ok (s := s') hg hp ha hd he]
      exact ⟨_, rfl, rfl, fun him => setTables_tbl him⟩
    · rw [inForce, writeService_refused (s := s') hg hp ha h]

end Sys2Proof.Machine
end

section
/-!
The limits and conversions of the rows, their structural tests, the element checks, and the checks of COMMIT in their order
(O54).
-/

namespace Sys2Proof.Machine

/-! ## Structural tests (R54, R109, R178) -/

theorem noTwice_iff {α : Type} [DecidableEq α] {l : List α} : noTwice l = true ↔ l.Nodup := by
  induction l with
  | nil => simp [noTwice]
  | cons x xs ih => simp [noTwice, ih]

theorem rowStructure_iff (d : RowData) : rowStructure d = true ↔ WellStructured d := by
  cases d with
  | site r => cases h : r.fNom <;> simp [rowStructure, WellStructured, h]
  | chan r => exact Iff.rfl
  | breaker r =>
    cases hv : r.vref <;> cases hl : r.line <;> simp [rowStructure, WellStructured, hv, hl, Nat.lt_succ_iff, and_assoc]
  | curve r => simp [rowStructure, WellStructured]
  | element r =>
    have point : pointInList r.point = pointOk r.point := rfl
    simp [rowStructure, WellStructured, point, Nat.lt_succ_iff, and_assoc]
  | scheme r => exact noTwice_iff
  | manager r => simp [rowStructure, WellStructured]
  | sub r => simp [rowStructure, WellStructured]
  | gen r => simp [rowStructure, WellStructured]
  | par r => simp [rowStructure, WellStructured]

/-! ## Element checks (R57, R58) -/

theorem pointOfKind_iff {r : ElementRow} : pointOfKind r = true ↔ (match r.kind with
    | .toc | .ioc | .rp => ∃ n, r.point = .cur n
    | .uv | .ov | .uf | .ovf => ∃ v, r.point = .volt v) := by
  unfold pointOfKind
  cases r.kind <;> cases r.point <;> simp [currentKind]

theorem overcurrentKind_iff {k : ElemKind} : overcurrentKind k = true ↔ k = .toc ∨ k = .ioc := by
  cases k <;> simp [overcurrentKind]

theorem hasReference_iff {t : Tables} {p : PointId} : hasReference t p = true ↔
    ∃ n v, p = .cur n ∧ (t.breakers.getD n {}).present = true ∧ (t.breakers.getD n {}).vref = some v := by
  cases p with
  | cur n => simp [hasReference, Option.isSome_iff_exists]
  | volt v => simp [hasReference]

theorem elementOk_iff (t : Tables) (r : ElementRow) : elementOk t r = true ↔ ElementOk t r := by
  have parts : elementOk t r = true ↔ pointOfKind r = true ∧ (overcurrentKind r.kind = true ∨ r.scope = .phases) ∧
      (overcurrentKind r.kind = true ∨ r.direction = .none) ∧
      ((overcurrentKind r.kind = true ∧ r.direction ≠ .none) ∨ r.kind = .rp → hasReference t r.point = true) ∧
      (r.kind = .toc → (t.curves.getD r.curve {}).points ≠ []) ∧
      1 ≤ r.trip.length ∧ r.trip.length ≤ 4 ∧ r.trip.Nodup ∧ ∀ n ∈ r.trip, (t.breakers.getD n {}).present = true := by
    simp only [elementOk, Bool.and_eq_true, Bool.or_eq_true, decide_eq_true_eq, Bool.not_eq_true', List.all_eq_true,
      noTwice_iff, and_assoc, ← imp_iff_not_or, ← Bool.not_eq_true, List.isEmpty_iff, ne_eq]
  rw [parts, pointOfKind_iff, hasReference_iff, overcurrentKind_iff]
  constructor
  · rintro ⟨point, scope, direction, reference, curve, trips⟩
    refine ⟨point, fun h1 h2 => ⟨scope.resolve_left (by simp [h1, h2]), direction.resolve_left (by simp [h1, h2])⟩,
      fun h => reference (h.imp_left fun hd => ⟨direction.resolve_right hd, hd⟩), curve, trips⟩
  · rintro ⟨point, plain, reference, curve, trips⟩
    have current : (r.kind = .toc ∨ r.kind = .ioc) ∨ r.scope = .phases ∧ r.direction = .none := by
      by_cases h1 : r.kind = .toc
      · exact .inl (.inl h1)
      · by_cases h2 : r.kind = .ioc
        · exact .inl (.inr h2)
        · exact .inr (plain h1 h2)
    exact ⟨point, current.imp_right And.left, current.imp_right And.right, fun h => reference (h.imp_left And.right), curve, trips⟩

theorem serviceElementOk_iff (t : Tables) (d : RowData) :
    serviceElementOk t d = true ↔ ∀ r, d = .element r → r.enabled = true → ElementOk t r := by
  cases d with
  | element x =>
    simp only [serviceElementOk, Bool.or_eq_true, Bool.not_eq_true', ← Bool.not_eq_true, ← imp_iff_not_or, elementOk_iff]
    exact ⟨fun h r e => by cases e; exact h, fun h => h x rfl⟩
  | _ => simp [serviceElementOk]

/-! ## One table's check of COMMIT -/

/-- `o` is the first row of a table for which its check of COMMIT fails, if there is one. -/
structure FirstFault (t : Tables) (id : TableId) (o : Option Nat) : Prop where
  sound : ∀ i, o = some i → CommitFault t id i ∧ ∀ j, CommitFault t id j → i ≤ j
  complete : o = none → ∀ i, ¬CommitFault t id i

/-- A check that is tested row by row. -/
theorem FirstFault.of_firstBad {t : Tables} {id : TableId} {n : Nat} {bad : Nat → Bool}
    (h : ∀ i, CommitFault t id i ↔ i < n ∧ bad i = true) : FirstFault t id (firstBad n bad) := by
  refine ⟨fun i hi => ?_, fun hn i hf => ?_⟩
  · obtain ⟨hbad, hlt, hfirst⟩ := List.find?_range_eq_some.1 hi
    refine ⟨(h i).2 ⟨List.mem_range.1 hlt, hbad⟩, fun j hj => Nat.not_lt.1 fun hji => ?_⟩
    simpa [((h j).1 hj).2] using hfirst j hji
  · simpa [((h i).1 hf).2] using List.find?_range_eq_none.1 hn i ((h i).1 hf).1

theorem siteBad_iff (t : Tables) (i : Nat) : CommitFault t .site i ↔ i < 1 ∧ siteBad t.site = true := by
  simp [CommitFault, siteBad, or_assoc]

theorem firstFault_site (t : Tables) : FirstFault t .site (if siteBad t.site then some 0 else none) := by
  have one : firstBad 1 (fun _ => siteBad t.site) = if siteBad t.site then some 0 else none := by
    cases siteBad t.site <;> simp [firstBad, List.range_succ]
  exact one ▸ .of_firstBad (siteBad_iff t)

theorem managerRepeats_iff {t : Tables} {i : Nat} : managerRepeats t i ↔ i < 4 ∧ managerBad t i = true := by
  simp [managerRepeats, managerBad, Nat.lt_succ_iff]

theorem noOperator_iff {t : Tables} :
    noOperator t = true ↔ ∀ r ∈ t.managers, r.present = true → r.rights ≠ .operate := by
  simp [noOperator]

/-- R172; log 97: the want of an OPERATE row comes after the rows. -/
theorem firstFault_managers (t : Tables) : FirstFault t .managers
    (match firstBad 4 (managerBad t) with
      | some i => some i
      | none => if noOperator t then some 0 else none) := by
  split
  case h_1 i hi =>
    obtain ⟨hbad, hlt, hfirst⟩ := List.find?_range_eq_some.1 hi
    have repeats : managerRepeats t i := managerRepeats_iff.2 ⟨List.mem_range.1 hlt, hbad⟩
    refine ⟨fun j hj => ?_, fun hn => by cases hn⟩
    cases hj
    refine ⟨.inl repeats, fun j hj => ?_⟩
    rcases hj with hj | ⟨-, hnone, -⟩
    · refine Nat.not_lt.1 fun hji => ?_
      simpa [(managerRepeats_iff.1 hj).2] using hfirst j hji
    · exact absurd repeats (hnone i)
  case h_2 hn =>
    have none_repeats : ∀ j, ¬managerRepeats t j := fun j hj => by
      simpa [(managerRepeats_iff.1 hj).2] using List.find?_range_eq_none.1 hn j (managerRepeats_iff.1 hj).1
    split
    case isTrue h =>
      refine ⟨fun j hj => ?_, fun hn => by cases hn⟩
      cases hj
      exact ⟨.inr ⟨rfl, none_repeats, noOperator_iff.1 h⟩, fun j _ => Nat.zero_le j⟩
    case isFalse h =>
      refine ⟨fun j hj => absurd hj (by simp), fun _ i hf => ?_⟩
      rcases hf with hf | ⟨-, -, hf⟩
      · exact none_repeats i hf
      · exact h (noOperator_iff.2 hf)

theorem subBad_iff (t : Tables) (i : Nat) : CommitFault t .subscriptions i ↔ i < 48 ∧ subBad t i = true := by
  simp [CommitFault, subBad, Nat.lt_succ_iff, and_assoc]

theorem breakerBad_iff (t : Tables) (i : Nat) : CommitFault t .breakers i ↔ i < 25 ∧ breakerBad t i = true := by
  simp only [CommitFault, breakerBad, Bool.and_eq_true, Bool.or_eq_true, decide_eq_true_eq, List.any_eq_true,
    List.mem_range, Option.isSome_iff_exists, Nat.lt_succ_iff]
  refine and_congr_right fun _ => and_congr_right fun _ => or_congr_right ⟨?_, ?_⟩
  · rintro ⟨j, l, hj, hl, hp, hjl⟩
    exact ⟨⟨l, hl⟩, j, hj, hp, hjl.trans hl.symm⟩
  · rintro ⟨⟨l, hl⟩, j, hj, hp, hjl⟩
    exact ⟨j, l, hj, hl, hp, hjl.trans hl⟩

theorem schemeBad_iff (t : Tables) (i : Nat) : CommitFault t .schemes i ↔ i < 2 ∧ schemeBad t i = true := by
  simp [CommitFault, schemeBad]

theorem genBad_iff (t : Tables) (i : Nat) : CommitFault t .generators i ↔ i < 8 ∧ genBad t i = true := by
  simp [CommitFault, genBad, Nat.lt_succ_iff, or_assoc]

theorem ascending_iff {l : List (Nat × Nat)} : ascending l = true ↔ l.Pairwise fun x y => x.1 < y.1 := by
  have step : ∀ l, ascending l = true ↔ l.IsChain fun x y => x.1 < y.1 := fun l => by
    induction l with
    | nil => simp [ascending]
    | cons x l ih =>
      cases l with
      | nil => simp [ascending]
      | cons y l => simp [ascending, ih]
  have trans : Trans (fun x y : Nat × Nat => x.1 < y.1) (fun x y : Nat × Nat => x.1 < y.1) (fun x y : Nat × Nat => x.1 < y.1) := ⟨Nat.lt_trans⟩
  rw [step, List.isChain_iff_pairwise]

theorem curveBad_iff (t : Tables) (i : Nat) : CommitFault t .curves i ↔ i < 8 ∧ curveBad (t.curves.getD i {}) = true := by
  simp only [CommitFault, Nat.lt_succ_iff]
  refine and_congr_right fun _ => ?_
  unfold curveBad
  cases (t.curves.getD i {}).points with
  | nil => simp
  | cons p rest =>
    simp only [Bool.or_eq_true, List.isEmpty_iff, decide_eq_true_eq, Bool.not_eq_true', ← Bool.not_eq_true, ascending_iff,
      or_assoc]
    exact ⟨fun ⟨_, _, e, h⟩ => by cases e; exact h, fun h => ⟨p, rest, rfl, h⟩⟩

theorem elementBad_iff (t : Tables) (l : List ElementRow) (i : Nat) : elementBad t l i = true ↔
    (l.getD i {}).enabled = true ∧ ¬ElementOk t (l.getD i {}) := by
  simp only [elementBad, Bool.and_eq_true, Bool.not_eq_true', ← Bool.not_eq_true, elementOk_iff]

theorem elementBad_iff_a (t : Tables) (i : Nat) : CommitFault t .elementsA i ↔ i < 64 ∧ elementBad t t.elemsA i = true := by
  simp only [CommitFault, elementBad_iff, Nat.lt_succ_iff]

theorem elementBad_iff_b (t : Tables) (i : Nat) : CommitFault t .elementsB i ↔ i < 64 ∧ elementBad t t.elemsB i = true := by
  simp only [CommitFault, elementBad_iff, Nat.lt_succ_iff]

/-! ## The Channel Map (R16) -/

theorem mem_liveChans {t : Tables} {x : Nat × ChanRow} : x ∈ liveChans t ↔ usedChannel t x.1 x.2 := mem_usedRows

theorem liveChans_ascending (t : Tables) : (liveChans t).Pairwise fun x y => x.1 < y.1 := by
  have numbered : (t.chans.zipIdx.map Prod.snd).Pairwise (· < ·) := by
    rw [List.zipIdx_map_snd]
    exact List.pairwise_lt_range' 1
  exact List.pairwise_map.2 ((List.pairwise_map.1 numbered).filter _)

/-- R16: a row of the Channel Map that COMMIT faults. -/
theorem chanBad_iff {t : Tables} {x : Nat × ChanRow} : chanBad t (liveChans t) x = true ↔
    (t.subs.getD (x.1 / 8) {}).count ≤ x.1 % 8 ∨ (∃ v, x.2.point = .volt v ∧ x.2.phase = .n) ∨
      (∃ j y, usedChannel t j y ∧ j ≠ x.1 ∧ y.point = x.2.point ∧ y.phase = x.2.phase ∧ y.role = x.2.role) ∨
      (x.2.role = .check ∧
        ∀ j y, usedChannel t j y → ¬(y.point = x.2.point ∧ y.phase = x.2.phase ∧ y.role = .main)) := by
  have residual : (match x.2.point, x.2.phase with
      | .volt _, .n => true
      | _, _ => false) = true ↔ ∃ v, x.2.point = .volt v ∧ x.2.phase = .n := by
    cases x.2.point <;> cases x.2.phase <;> simp
  have lost : (!(liveChans t).any fun y => decide (y.2.point = x.2.point ∧ y.2.phase = x.2.phase ∧ y.2.role = .main)) = true ↔
      ∀ j y, usedChannel t j y → ¬(y.point = x.2.point ∧ y.phase = x.2.phase ∧ y.role = .main) := by
    simp only [Bool.not_eq_true', List.any_eq_false, decide_eq_true_eq, mem_liveChans, Prod.forall]
  have twice : ((liveChans t).any fun y => decide (y.1 ≠ x.1 ∧ y.2.point = x.2.point ∧ y.2.phase = x.2.phase ∧
      y.2.role = x.2.role)) = true ↔ ∃ j y, usedChannel t j y ∧ j ≠ x.1 ∧ y.point = x.2.point ∧ y.phase = x.2.phase ∧
        y.role = x.2.role := by
    simp only [List.any_eq_true, decide_eq_true_eq, mem_liveChans, Prod.exists]
  rw [← residual, ← lost, ← twice]
  simp only [chanBad, Bool.or_eq_true, Bool.and_eq_true, decide_eq_true_eq, or_assoc] <;> rfl

theorem firstFault_channels (t : Tables) :
    FirstFault t .channels (((liveChans t).find? (chanBad t (liveChans t))).map fun x => x.1) := by
  refine ⟨fun i hi => ?_, fun hn i ⟨r, hr, hbad⟩ => ?_⟩
  · obtain ⟨⟨k, r⟩, hfind, rfl⟩ := Option.map_eq_some_iff.1 hi
    obtain ⟨hbad, before, after, hsplit, hbefore⟩ := List.find?_eq_some_iff_append.1 hfind
    have row : usedChannel t k r := mem_liveChans.1 (List.mem_of_find?_eq_some hfind)
    refine ⟨⟨r, row, chanBad_iff.1 hbad⟩, fun j ⟨y, hy, hbady⟩ => ?_⟩
    have bad : chanBad t (liveChans t) (j, y) = true := chanBad_iff.2 hbady
    have place : (j, y) ∈ before ++ (k, r) :: after := hsplit ▸ mem_liveChans.2 hy
    have order := hsplit ▸ liveChans_ascending t
    rcases List.mem_append.1 place with h | h
    · simpa [bad] using hbefore (j, y) h
    · rcases List.mem_cons.1 h with h | h
      · cases h
        exact Nat.le_refl _
      · exact Nat.le_of_lt ((List.pairwise_cons.1 (List.pairwise_append.1 order).2.1).1 (j, y) h)
  · rw [Option.map_eq_none_iff, List.find?_eq_none] at hn
    exact hn (i, r) (mem_liveChans.2 hr) (chanBad_iff.2 hbad)

/-! ## The tables in their order (R182) -/

/-- The checks of COMMIT: each table with the row its check names, in the order of the tables. -/
def checksOf (t : Tables) : List (TableId × Option Nat) :=
  [(.site, if siteBad t.site then some 0 else none),
    (.managers, match firstBad 4 (managerBad t) with
      | some i => some i
      | none => if noOperator t then some 0 else none),
    (.subscriptions, firstBad 48 (subBad t)),
    (.channels, ((liveChans t).find? (chanBad t (liveChans t))).map fun x => x.1),
    (.breakers, firstBad 25 (breakerBad t)),
    (.schemes, firstBad 2 (schemeBad t)),
    (.generators, firstBad 8 (genBad t)),
    (.curves, firstBad 8 fun i => curveBad (t.curves.getD i {})),
    (.elementsA, firstBad 64 (elementBad t t.elemsA)),
    (.elementsB, firstBad 64 (elementBad t t.elemsB))]

/-- The first table of a list whose check names a row. -/
def firstNamed : List (TableId × Option Nat) → Option (TableId × Nat)
  | [] => none
  | (id, some i) :: _ => some (id, i)
  | (_, none) :: rest => firstNamed rest

theorem commitCheck_eq (t : Tables) : commitCheck t = firstNamed (checksOf t) := by
  unfold commitCheck checksOf
  cases siteBad t.site with
  | true => rfl
  | false =>
  cases firstBad 4 (managerBad t) with
  | some i => rfl
  | none =>
  cases noOperator t with
  | true => rfl
  | false =>
  cases firstBad 48 (subBad t) with
  | some i => rfl
  | none =>
  cases (liveChans t).find? (chanBad t (liveChans t)) with
  | some x => rfl
  | none =>
  cases firstBad 25 (breakerBad t) with
  | some i => rfl
  | none =>
  cases firstBad 2 (schemeBad t) with
  | some i => rfl
  | none =>
  cases firstBad 8 (genBad t) with
  | some i => rfl
  | none =>
  cases firstBad 8 (fun i => curveBad (t.curves.getD i {})) with
  | some i => rfl
  | none =>
  cases firstBad 64 (elementBad t t.elemsA) with
  | some i => rfl
  | none => cases firstBad 64 (elementBad t t.elemsB) <;> rfl

theorem checksOf_firstFault (t : Tables) : ∀ x ∈ checksOf t, FirstFault t x.1 x.2 := by
  simp only [checksOf, List.forall_mem_cons]
  exact ⟨firstFault_site t, firstFault_managers t, .of_firstBad (subBad_iff t), firstFault_channels t,
    .of_firstBad (breakerBad_iff t), .of_firstBad (schemeBad_iff t), .of_firstBad (genBad_iff t),
    .of_firstBad (curveBad_iff t), .of_firstBad (elementBad_iff_a t), .of_firstBad (elementBad_iff_b t), by simp⟩

theorem checksOf_ordered (t : Tables) : (checksOf t).Pairwise fun x y => commitPlace x.1 < commitPlace y.1 := by
  simp [checksOf, commitPlace]

/-- Every table has its check. -/
theorem mem_checksOf (t : Tables) (id : TableId) : ∃ o, (id, o) ∈ checksOf t := by
  cases id <;> simp [checksOf]

theorem firstNamed_eq_none {l : List (TableId × Option Nat)} (h : firstNamed l = none) : ∀ x ∈ l, x.2 = none := by
  induction l with
  | nil => simp
  | cons x l ih =>
    obtain ⟨id, _ | i⟩ := x
    · exact List.forall_mem_cons.2 ⟨rfl, ih h⟩
    · cases h

/-- What the first check to name a row names is a fault before every other. -/
theorem firstNamed_eq_some {t : Tables} {l : List (TableId × Option Nat)} {id : TableId} {i : Nat}
    (hl : l.Pairwise fun x y => commitPlace x.1 < commitPlace y.1) (hf : ∀ x ∈ l, FirstFault t x.1 x.2)
    (h : firstNamed l = some (id, i)) : CommitFault t id i ∧ ∀ x ∈ l, ∀ j, CommitFault t x.1 j →
      commitPlace id < commitPlace x.1 ∨ (id = x.1 ∧ i ≤ j) := by
  induction l with
  | nil => cases h
  | cons x l ih =>
    obtain ⟨later, ordered⟩ := List.pairwise_cons.1 hl
    obtain ⟨head, rest⟩ := List.forall_mem_cons.1 hf
    obtain ⟨id', _ | k⟩ := x
    · obtain ⟨fault, first⟩ := ih ordered rest h
      exact ⟨fault, List.forall_mem_cons.2 ⟨fun j hj => absurd hj (head.complete rfl j), first⟩⟩
    · cases h
      obtain ⟨fault, first⟩ := head.sound _ rfl
      exact ⟨fault, List.forall_mem_cons.2 ⟨fun j hj => .inr ⟨rfl, first j hj⟩, fun y hy j _ => .inl (later y hy)⟩⟩

theorem commitCheck_none {t : Tables} (h : commitCheck t = none) (id : TableId) (i : Nat) : ¬CommitFault t id i := by
  obtain ⟨o, ho⟩ := mem_checksOf t id
  exact (checksOf_firstFault t _ ho).complete (firstNamed_eq_none (commitCheck_eq t ▸ h) _ ho) i

theorem commitCheck_some {t : Tables} {id : TableId} {i : Nat} (h : commitCheck t = some (id, i)) :
    CommitFault t id i ∧ ∀ other j, CommitFault t other j →
      commitPlace id < commitPlace other ∨ (id = other ∧ i ≤ j) := by
  obtain ⟨fault, first⟩ := firstNamed_eq_some (checksOf_ordered t) (checksOf_firstFault t) (commitCheck_eq t ▸ h)
  refine ⟨fault, fun other j hj => ?_⟩
  obtain ⟨o, ho⟩ := mem_checksOf t other
  exact first _ ho j hj

/-- Two faults, each of which comes first, are one. -/
theorem commitCheck_of_first {t : Tables} {id : TableId} {i : Nat} (hf : CommitFault t id i)
    (first : ∀ other j, CommitFault t other j → commitPlace id < commitPlace other ∨ (id = other ∧ i ≤ j)) :
    commitCheck t = some (id, i) := by
  cases h : commitCheck t with
  | none => exact absurd hf (commitCheck_none h id i)
  | some x =>
    obtain ⟨fault, first'⟩ := commitCheck_some h
    rcases first _ _ fault with before | ⟨same, le⟩
    · rcases first' _ _ hf with after | ⟨same, -⟩
      · exact absurd before (Nat.lt_asymm after)
      · exact absurd before (by rw [same]; exact Nat.lt_irrefl _)
    · rcases first' _ _ hf with after | ⟨-, ge⟩
      · exact absurd after (by rw [same]; exact Nat.lt_irrefl _)
      · rw [same, Nat.le_antisymm le ge]

/-- Settles O54: each row's limits as they stand, the tests of a row one by one, and the checks of COMMIT as a list in the
order of the tables, of which the first to name a row answers. -/
theorem tableChecks : Obligations.TableChecks := by
  unfold Obligations.TableChecks
  refine ⟨fun r => rfl, fun r => rfl, fun r => rfl, fun r => rfl, fun r => rfl, fun r => rfl, fun r => ?_, fun r => rfl,
    fun r => rfl, fun r => rfl, fun f d => ?_, rowStructure_iff, elementOk_iff, serviceElementOk_iff,
    fun t => ⟨commitCheck_none, fun h => ?_⟩, fun t id i => ⟨commitCheck_some, fun ⟨hf, first⟩ => commitCheck_of_first hf first⟩⟩
  · cases hk : r.kind <;> simp only [clampRow, clampElement, clampPickup, hk] <;> rfl
  · cases d <;> rfl
  · cases hc : commitCheck t with
    | none => rfl
    | some x => exact absurd (commitCheck_some hc).1 (h _ _)

end Sys2Proof.Machine
end

section
/-!
Disturbance records (O48): a trigger that is merged or makes a record, the entering of a slot, the reports of the other blocks,
and the completion of a record.
-/

namespace Sys2Proof.Machine

/-! ## Acts on the records -/

/-- `t` is `s` but for its records, and takes back no notice. -/
structure OnRecords (s t : State) : Prop where
  frame : t = { s with records := t.records }
  notices : ∀ c ∈ s.records.pendingNotices, c ∈ t.records.pendingNotices

theorem OnRecords.trans {s t u : State} (h : OnRecords s t) (k : OnRecords t u) : OnRecords s u :=
  ⟨by rw [k.frame, h.frame], fun c hc => k.notices c (h.notices c hc)⟩

theorem OnRecords.siteInForce {s t : State} (h : OnRecords s t) : t.siteInForce = s.siteInForce := by rw [h.frame]; rfl

theorem OnRecords.noticeEnabled {s t : State} (h : OnRecords s t) (c : NoticeClass) :
    noticeEnabled t c = noticeEnabled s c := by rw [h.frame]; rfl

/-- A notice changes the pending set only. -/
theorem note_records (c : NoticeClass) (s : State) :
    (note c s).records = { s.records with pendingNotices := (note c s).records.pendingNotices } := by
  unfold note
  split <;> rfl

theorem note_onRecords (c : NoticeClass) (s : State) : OnRecords s (note c s) := by
  unfold note
  split
  · exact ⟨rfl, fun x hx => List.mem_append_left _ hx⟩
  · exact ⟨rfl, fun x hx => hx⟩

/-- R163, R166, R167: what a reported change of the RECORD condition leaves. -/
structure EventNoted (n : Nat) (ev : RecEvent) (s t : State) : Prop extends OnRecords s t where
  records : t.records = { s.records with lastEvent := some (n, ev), pendingNotices := t.records.pendingNotices }
  noted : s.siteInForce = true → noticeEnabled s .record = true → .record ∈ t.records.pendingNotices

theorem recordEvent_noted (n : Nat) (ev : RecEvent) (s : State) : EventNoted n ev s (recordEvent n ev s) := by
  have told := note_onRecords .record (s.modRecords fun r => { r with lastEvent := some (n, ev) })
  refine ⟨⟨told.frame, told.notices⟩, note_records .record (s.modRecords fun r => { r with lastEvent := some (n, ev) }),
    fun hs hc => ?_⟩
  exact mem_pending_note (s := s.modRecords fun r => { r with lastEvent := some (n, ev) }) hs hc

/-! ## Completion (R166) -/

/-- R166: an OPEN record whose conditions hold. -/
def recordReady (s : State) (r : Record) : Bool := !r.complete && readyToComplete s r

/-- R166: a record after the test of its conditions. -/
def settled (s : State) (r : Record) : Record := if recordReady s r then completeRecord r else r

theorem recordReady_congr {s t : State} (h : t.records.bfView = s.records.bfView) : recordReady t = recordReady s := by
  funext r
  simp only [recordReady, readyToComplete, h]

theorem readyToComplete_iff {s : State} {r : Record} : readyToComplete s r = true ↔ r.awaited = [] ∧
    ∀ n, n ∈ r.entered ∨ (∃ b ∈ r.brks, b.slot = n) → s.records.bfView.getD n .idle ≠ .timing ∧
      (s.records.bfView.getD n .idle = .operated → ∃ e ∈ r.bfPart, e.slot = n) := by
  have slots : ∀ n, n ∈ slotsOf r ↔ n ∈ r.entered ∨ ∃ b ∈ r.brks, b.slot = n := fun n => by
    simp only [slotsOf, List.mem_append, List.mem_map, or_comm]
  have one : ∀ n, (match s.records.bfView.getD n .idle with
      | .idle => true
      | .timing => false
      | .operated => r.bfPart.any fun e => decide (e.slot = n)) = true ↔ s.records.bfView.getD n .idle ≠ .timing ∧
        (s.records.bfView.getD n .idle = .operated → ∃ e ∈ r.bfPart, e.slot = n) := fun n => by
    cases s.records.bfView.getD n .idle <;> simp
  simp only [← one, ← slots, readyToComplete, Bool.and_eq_true, List.isEmpty_iff, List.all_eq_true] <;> rfl

theorem cleared_iff {b : BrkEntry} : cleared b = true ↔ b.outcome = .done ∨ b.outcome = .noChange := by
  unfold cleared
  cases b.outcome <;> simp [carriesIndex]

theorem clearanceOf_no_entry {r : Record} (h : r.brks = []) : clearanceOf r = none := by
  simp [clearanceOf, h]

theorem clearanceOf_not_cleared {r : Record}
    (h : (∃ b ∈ r.brks, ¬(b.outcome = .done ∨ b.outcome = .noChange)) ∨ r.truncated = true) : clearanceOf r = none := by
  refine if_neg fun ⟨all, whole⟩ => ?_
  rcases h with ⟨b, hb, bad⟩ | cut
  · exact bad (cleared_iff.1 (List.all_eq_true.1 all b hb))
  · simp [whole] at cut

/-- R166: the clearance index is the largest completion index. -/
theorem clearanceOf_cleared {r : Record} (hne : r.brks ≠ [])
    (hgood : ∀ b ∈ r.brks, (b.outcome = .done ∨ b.outcome = .noChange) ∧ b.completion ≠ none) (hwhole : r.truncated = false) :
    ∃ m, clearanceOf r = some m ∧ (∃ b ∈ r.brks, b.completion = some m) ∧
      ∀ b ∈ r.brks, ∀ x, b.completion = some x → x ≤ m := by
  have all : r.brks.all cleared = true := List.all_eq_true.2 fun b hb => cleared_iff.2 (hgood b hb).1
  have largest : clearanceOf r = (r.brks.filterMap fun b => b.completion).max? := if_pos ⟨all, hwhole⟩
  obtain ⟨b, hb⟩ := List.exists_mem_of_ne_nil _ hne
  obtain ⟨x, hx⟩ := Option.ne_none_iff_exists'.1 (hgood b hb).2
  have mem : x ∈ r.brks.filterMap fun b => b.completion := List.mem_filterMap.2 ⟨b, hb, hx⟩
  obtain ⟨m, hm⟩ : ∃ m, (r.brks.filterMap fun b => b.completion).max? = some m :=
    Option.ne_none_iff_exists'.1 fun h => List.ne_nil_of_mem mem (List.max?_eq_none_iff.1 h)
  obtain ⟨hmem, hmax⟩ := List.max?_eq_some_iff.1 hm
  obtain ⟨c, hc, hcm⟩ := List.mem_filterMap.1 hmem
  exact ⟨m, largest.trans hm, ⟨c, hc, hcm⟩, fun b hb x hx => hmax x (List.mem_filterMap.2 ⟨b, hb, hx⟩)⟩

/-- R166: what the test of every record leaves. -/
structure RecordsTested (s t : State) : Prop extends OnRecords s t where
  queue : t.records.queue = s.records.queue.map (settled s)
  lastEvent : t.records.lastEvent = match (s.records.queue.filter (recordReady s)).getLast? with
    | some r => some (r.number, .completed)
    | none => s.records.lastEvent
  nextNumber : t.records.nextNumber = s.records.nextNumber
  bfView : t.records.bfView = s.records.bfView

theorem testRecords_tested (s : State) : RecordsTested s (testRecords s) := by
  have test : testRecords s = (match (s.records.queue.filter (recordReady s)).getLast? with
      | none => s
      | some last => recordEvent last.number .completed
          (s.modRecords fun x => { x with queue := x.queue.map (settled s) })) := rfl
  cases h : (s.records.queue.filter (recordReady s)).getLast? with
  | none =>
    have same : testRecords s = s := by rw [test, h]
    have idle : ∀ r ∈ s.records.queue, settled s r = r := fun r hr =>
      if_neg (List.filter_eq_nil_iff.1 (List.getLast?_eq_none_iff.1 h) r hr)
    rw [same]
    refine ⟨⟨rfl, fun _ hc => hc⟩, ?_, by rw [h], rfl, rfl⟩
    exact ((List.map_congr_left idle).trans (List.map_id _)).symm
  | some last =>
    rw [test, h]
    have told := recordEvent_noted last.number .completed
      (s.modRecords fun x => { x with queue := x.queue.map (settled s) })
    exact ⟨⟨told.frame, told.notices⟩, by rw [told.records]; rfl, by rw [told.records, h], by rw [told.records]; rfl,
      by rw [told.records]; rfl⟩

/-! ## What a trigger adds (R164) -/

theorem addPeaks_get (phases : Four Bool) (peaks : Four Nat) (r : Record) (ph : Phase) :
    (addPeaks phases peaks r).phases.get ph = (r.phases.get ph || phases.get ph) ∧
      (addPeaks phases peaks r).peaks.get ph =
        if (addPeaks phases peaks r).phases.get ph then max (r.peaks.get ph) (peaks.get ph) else 0 := by
  cases ph <;> exact ⟨rfl, rfl⟩

theorem addElement_eq (e : ElemEntry) (r : Record) :
    addElement e r = { r with elems := (addElement e r).elems, truncated := (addElement e r).truncated } := by
  unfold addElement
  split
  · rfl
  · split <;> rfl

theorem addElement_held {e : ElemEntry} {r : Record} (h : ∃ x ∈ r.elems, x.group = e.group ∧ x.row = e.row) :
    addElement e r = r := if_pos (List.any_eq_true.2 (by simpa using h))

theorem addElement_joins {e : ElemEntry} {r : Record} (h : ¬∃ x ∈ r.elems, x.group = e.group ∧ x.row = e.row)
    (hl : r.elems.length < 8) : addElement e r = { r with elems := r.elems ++ [e] } := by
  rw [addElement, if_neg (by simpa using h), if_pos hl]

theorem addElement_full {e : ElemEntry} {r : Record} (h : ¬∃ x ∈ r.elems, x.group = e.group ∧ x.row = e.row)
    (hl : 8 ≤ r.elems.length) : addElement e r = { r with truncated := true } := by
  rw [addElement, if_neg (by simpa using h), if_neg (Nat.not_lt.2 hl)]

/-- R164: an ELEMENT trigger, with its peaks and phases. -/
theorem addTrigger_element (e : ElemEntry) (trip : List Nat) (phases : Four Bool) (peaks : Four Nat) (pickup : Nat)
    (r : Record) : addTrigger (.element e trip phases peaks pickup) r =
      { addPeaks phases peaks r with
        elems := (addElement e r).elems, truncated := (addElement e r).truncated, pickupIdx := min r.pickupIdx pickup
        operIdx := min r.operIdx e.operIdx, latest := r.latest ++ [(e.group, e.row)] } := by
  simp only [addTrigger]
  rw [addElement_eq]
  rfl

theorem addTrigger_number (t : Trigger) (r : Record) : (addTrigger t r).number = r.number := by
  cases t with
  | element e trip phases peaks pickup => rw [addTrigger_element]; rfl
  | bf e => unfold addTrigger; dsimp only; split <;> rfl
  | overrun o => unfold addTrigger; dsimp only; split <;> rfl

/-! ## Entering a slot (R162, R165) -/

/-- R162, R165: a record that enters slot `n` with an entry, and awaits what `waits` says. -/
def joinEntry (n : Nat) (b : BrkEntry) (waits : List (Nat × Option Nat)) (r : Record) : Record :=
  { r with
    brks := if r.brks.length < 8 then r.brks ++ [b] else r.brks
    truncated := if r.brks.length < 8 then r.truncated else true
    awaited := r.awaited ++ waits
    entered := if n ∈ r.entered then r.entered else r.entered ++ [n] }

/-- R165: the slot stands in the record already. -/
def slotHeld (n : Nat) (r : Record) : Prop := (∃ x ∈ r.awaited, x.1 = n) ∨ ∃ b ∈ r.brks, b.slot = n

theorem slotHeld_iff {n : Nat} {r : Record} : (r.awaited.any (fun x => decide (x.1 = n)) ||
    r.brks.any (fun b => decide (b.slot = n))) = true ↔ slotHeld n r := by
  simp only [slotHeld, Bool.or_eq_true, List.any_eq_true, decide_eq_true_eq]

theorem addBreaker_joins (n : Nat) (b : BrkEntry) (r : Record) :
    addBreaker b { r with entered := if n ∈ r.entered then r.entered else r.entered ++ [n] } = joinEntry n b [] r := by
  unfold addBreaker joinEntry
  dsimp only
  split <;> rw [List.append_nil]

theorem awaitSlot_joins (n : Nat) (b : BrkEntry) (tag : Option Nat) (r : Record) :
    awaitSlot n tag (addBreaker b { r with entered := if n ∈ r.entered then r.entered else r.entered ++ [n] }) =
      joinEntry n b [(n, tag)] r := by
  rw [addBreaker_joins]
  simp only [awaitSlot, joinEntry, List.append_nil]

/-- R165: the entry of a slot that a trigger names, from its last result. -/
def entryOfLast (s : State) (n : Nat) (l : LastResult) : BrkEntry :=
  ⟨n, some l.tag, outcomeOfLast s.free l.result,
    if carriesIndex (outcomeOfLast s.free l.result) then some s.intake.count else none⟩

theorem entryOfLast_eq {s : State} {n : Nat} {x : LastResult} {o : Told} (h : x.result = o) : entryOfLast s n x =
    ⟨n, some x.tag, outcomeOfLast s.free o, if carriesIndex (outcomeOfLast s.free o) then some s.intake.count else none⟩ := by
  rw [← h]
  rfl

section
variable {s : State} {r : Record} {n : Nat}

theorem enterSlot_held (h : slotHeld n r) : enterSlot s r n = r := if_pos (slotHeld_iff.2 h)

theorem enterSlot_open {o : Order} (h : ¬slotHeld n r) (ho : (s.slot n).order = some o) (ht : o.type = .opn) :
    enterSlot s r n = joinEntry n ⟨n, some o.tag, .pending, none⟩ [(n, some o.tag)] r := by
  rw [enterSlot, if_neg (mt slotHeld_iff.1 h)]
  simp only [ho, ht, awaitSlot_joins]

theorem enterSlot_close {o : Order} (h : ¬slotHeld n r) (ho : (s.slot n).order = some o) (ht : o.type = .close) :
    enterSlot s r n = joinEntry n ⟨n, none, .pending, none⟩ [(n, none)] r := by
  rw [enterSlot, if_neg (mt slotHeld_iff.1 h)]
  simp only [ho, ht, awaitSlot_joins]

theorem enterSlot_isOpen (h : ¬slotHeld n r) (ho : (s.slot n).order = none) (hp : s.pos n = .opn) :
    enterSlot s r n = joinEntry n ⟨n, none, .noChange, some s.intake.count⟩ [] r := by
  rw [enterSlot, if_neg (mt slotHeld_iff.1 h)]
  simp only [ho, hp, ↓reduceIte, addBreaker_joins]

theorem enterSlot_abandoned (h : ¬slotHeld n r) (ho : (s.slot n).order = none) (hp : s.pos n ≠ .opn)
    (hl : (s.slot n).lastResult = none) : enterSlot s r n = joinEntry n ⟨n, none, .abandoned, none⟩ [] r := by
  rw [enterSlot, if_neg (mt slotHeld_iff.1 h)]
  simp only [ho, hp, ↓reduceIte, hl, addBreaker_joins]

theorem enterSlot_last {l : LastResult} (h : ¬slotHeld n r) (ho : (s.slot n).order = none) (hp : s.pos n ≠ .opn)
    (hl : (s.slot n).lastResult = some l) : enterSlot s r n = joinEntry n (entryOfLast s n l) [] r := by
  rw [enterSlot, if_neg (mt slotHeld_iff.1 h)]
  simp only [ho, hp, ↓reduceIte, hl, addBreaker_joins, entryOfLast]

theorem enterSlot_cases : enterSlot s r n = r ∨ ∃ b waits, enterSlot s r n = joinEntry n b waits r := by
  by_cases h : slotHeld n r
  · exact .inl (enterSlot_held h)
  refine .inr ?_
  cases ho : (s.slot n).order with
  | some o =>
    cases ht : o.type with
    | opn => exact ⟨_, _, enterSlot_open h ho ht⟩
    | close => exact ⟨_, _, enterSlot_close h ho ht⟩
  | none =>
    by_cases hp : s.pos n = .opn
    · exact ⟨_, _, enterSlot_isOpen h ho hp⟩
    · cases hl : (s.slot n).lastResult with
      | none => exact ⟨_, _, enterSlot_abandoned h ho hp hl⟩
      | some l => exact ⟨_, _, enterSlot_last h ho hp hl⟩

end

/-- A free outcome is one of the six. -/
theorem freeOutcome_ne_pending (n : Nat) : freeOutcome n ≠ .pending := by
  unfold freeOutcome
  split <;> decide

theorem outcomeOfLast_ne_pending (free : Nat) (t : Told) : outcomeOfLast free t ≠ .pending := by
  unfold outcomeOfLast
  split
  · decide
  · decide
  · decide
  · decide
  · exact freeOutcome_ne_pending _

theorem mergeTrigger_number (s : State) (t : Trigger) (r : Record) : (mergeTrigger s t r).number = r.number := by
  have entered : ∀ (l : List Nat) (x : Record), (l.foldl (enterSlot s) x).number = x.number := fun l => by
    induction l with
    | nil => exact fun _ => rfl
    | cons n l ih =>
      intro x
      rw [List.foldl_cons, ih]
      rcases enterSlot_cases (s := s) (r := x) (n := n) with h | ⟨b, waits, h⟩ <;> rw [h]
      rfl
  exact (entered _ _).trans (addTrigger_number t r)

/-! ## The record a trigger takes (R163) -/

theorem holdsSlot_iff {t : Trigger} {r : Record} : holdsSlot t r = true ↔ r.complete = false ∧ ∃ e, t = .bf e ∧
    ((∃ x ∈ r.awaited, x.1 = e.slot) ∨ ∃ b ∈ r.brks, b.slot = e.slot) := by
  unfold holdsSlot
  cases t <;> simp

theorem inWindow_iff {s : State} {r : Record} :
    inWindow s r = true ↔ r.complete = false ∧ s.now ≤ r.firstTime + 1000000 := by
  rw [inWindow, Bool.and_eq_true, Bool.not_eq_true', decide_eq_true_iff]
  rfl

theorem mayTake_iff {s : State} {t : Trigger} {r : Record} (hr : r ∈ s.records.queue) : mayTake s t r = true ↔
    holdsSlot t r = true ∨ ((∀ y ∈ s.records.queue, ¬holdsSlot t y = true) ∧ inWindow s r = true) := by
  unfold mayTake
  split
  case isTrue h =>
    obtain ⟨y, hy, held⟩ := List.any_eq_true.1 h
    exact ⟨.inl, fun c => c.resolve_right fun c => c.1 y hy held⟩
  case isFalse h =>
    have noneHeld : ∀ y ∈ s.records.queue, ¬holdsSlot t y = true := fun y hy held => h (List.any_eq_true.2 ⟨y, hy, held⟩)
    exact ⟨fun c => .inr ⟨noneHeld, c⟩, fun c => (c.resolve_left (noneHeld r hr)).2⟩

/-- The note of the latest triggers has no part in the choice of the record. -/
theorem mayTake_leaveElement (s : State) (t : Trigger) (r : Record) : mayTake s t (leaveElement t r) = mayTake s t r := by
  cases t with
  | element e trip phases peaks pickup => unfold mayTake; split <;> rfl
  | bf e => rfl
  | overrun o => rfl

theorem modLast_of_last {α : Type} {p : α → Bool} (f : α → α) {before after : List α} {x : α} (hx : p x = true)
    (ha : ∀ y ∈ after, ¬p y = true) : modLast p f (before ++ x :: after) = before ++ f x :: after := by
  induction before with
  | nil =>
    have quiet : after.any p = false := by simpa using ha
    simp [modLast, quiet, hx]
  | cons y l ih => simp [modLast, hx, ih]

theorem getLast?_filter_of_last {α : Type} {p : α → Bool} {before after : List α} {x : α} (hx : p x = true)
    (ha : ∀ y ∈ after, ¬p y = true) : ((before ++ x :: after).filter p).getLast? = some x := by
  simp [List.filter_append, hx, List.filter_eq_nil_iff.2 ha]

/-- R163: what a full queue gives up. -/
structure RoomMade (s t : State) : Prop extends OnRecords s t where
  queue : t.records.queue = if s.records.queue.length = 16 then s.records.queue.tail else s.records.queue
  nextNumber : t.records.nextNumber = s.records.nextNumber
  bfView : t.records.bfView = s.records.bfView

theorem makeRoom_made {s : State} (h : s.records.queue.length ≤ 16) : RoomMade s (makeRoom s) := by
  have same : s.records.queue.length ≠ 16 → RoomMade s s := fun hn =>
    ⟨⟨rfl, fun _ hc => hc⟩, (if_neg hn).symm, rfl, rfl⟩
  unfold makeRoom
  split
  case isTrue hfull =>
    split
    case h_1 e => exact same (by simp [e])
    case h_2 r rest e =>
      have told := recordEvent_noted r.number .removedOverflow (s.modRecords fun x => { x with queue := rest })
      have sixteen : s.records.queue.length = 16 := Nat.le_antisymm h hfull
      refine ⟨⟨told.frame, told.notices⟩, ?_, by rw [told.records]; rfl, by rw [told.records]; rfl⟩
      rw [told.records, if_pos sixteen, e]
      rfl
  case isFalse hroom => exact same (by omega)

/-- R163 to R166: the records once a trigger stands among `grown` as record `n`: those that are ready are COMPLETE, and the last
event is theirs, or else the trigger's own (log 52). -/
structure TriggerPlaced (v : State) (grown : List Record) (n : Nat) (ev : RecEvent) (u : State) : Prop where
  frame : u = { v with records := u.records }
  queue : u.records.queue = grown.map (settled v)
  lastEvent : u.records.lastEvent = some (match (grown.filter (recordReady v)).getLast? with
    | some r => (r.number, .completed)
    | none => (n, ev))
  noted : v.siteInForce = true → noticeEnabled v .record = true → .record ∈ u.records.pendingNotices

/-- A queue is put in place, its event reported, and every record tested. -/
theorem placed_of_queue {v w : State} (hw : OnRecords v w) (hb : w.records.bfView = v.records.bfView) (f : Rec → Rec)
    (hf : (f w.records).bfView = w.records.bfView) (hn : (f w.records).pendingNotices = w.records.pendingNotices) (n : Nat)
    (ev : RecEvent) : TriggerPlaced v (f w.records).queue n ev (testRecords (recordEvent n ev (w.modRecords f))) ∧
      (testRecords (recordEvent n ev (w.modRecords f))).records.nextNumber = (f w.records).nextNumber := by
  have changed : OnRecords w (w.modRecords f) := ⟨rfl, fun c hc => by rw [State.modRecords_records, hn]; exact hc⟩
  have told := recordEvent_noted n ev (w.modRecords f)
  have tested := testRecords_tested (recordEvent n ev (w.modRecords f))
  have view : (recordEvent n ev (w.modRecords f)).records.bfView = v.records.bfView := by
    rw [told.records]
    exact hf.trans hb
  have queue : (recordEvent n ev (w.modRecords f)).records.queue = (f w.records).queue := by rw [told.records]; rfl
  have ready := recordReady_congr view
  have settledSame : settled (recordEvent n ev (w.modRecords f)) = settled v := by
    funext r
    simp only [settled, ready]
  have whole := (hw.trans changed).trans told.toOnRecords
  refine ⟨⟨(whole.trans tested.toOnRecords).frame, ?_, ?_, fun hs hc => ?_⟩, ?_⟩
  · rw [tested.queue, queue, settledSame]
  · rw [tested.lastEvent, queue, ready, told.records]
    cases ((f w.records).queue.filter (recordReady v)).getLast? <;> rfl
  · have moved := hw.trans changed
    exact tested.notices _ (told.noted (moved.siteInForce.trans hs) ((moved.noticeEnabled _).trans hc))
  · rw [tested.nextNumber, told.records]
    rfl

/-- The state in which a trigger is taken: a free value is used up where an outcome needs one (log 5). -/
def freed (t : Trigger) (s : State) : State := if (triggerSlots t).any (usesFree s) then s.useFree else s

theorem freed_cases (t : Trigger) (s : State) : freed t s = s ∨ freed t s = s.useFree := by
  unfold freed
  split
  · exact .inr rfl
  · exact .inl rfl

theorem freed_records (t : Trigger) (s : State) : (freed t s).records = s.records := by
  rcases freed_cases t s with h | h <;> rw [h]
  rfl

/-- R163: the record a trigger is merged into grows in its place. -/
theorem takeTrigger_merged {t : Trigger} {s : State} {before after : List Record} {r : Record}
    (hq : (freed t s).records.queue = before ++ r :: after) (hr : mayTake (freed t s) t r = true)
    (ha : ∀ y ∈ after, ¬mayTake (freed t s) t y = true) :
    TriggerPlaced (freed t s) (before.map (leaveElement t) ++ mergeTrigger (freed t s) t (leaveElement t r) ::
        after.map (leaveElement t)) r.number .merged (takeTrigger t s) ∧
      (takeTrigger t s).records.nextNumber = (freed t s).records.nextNumber := by
  have target : mergeTarget (freed t s) t = some r := by
    rw [mergeTarget, hq]
    exact getLast?_filter_of_last hr ha
  have taken : takeTrigger t s = testRecords (recordEvent r.number .merged ((freed t s).modRecords fun x =>
      { x with queue := modLast (mayTake (freed t s) t) (mergeTrigger (freed t s) t) (x.queue.map (leaveElement t)) })) := by
    have split : takeTrigger t s = (match mergeTarget (freed t s) t with
        | some r => testRecords <| recordEvent r.number .merged <| (freed t s).modRecords fun x =>
            { x with queue := modLast (mayTake (freed t s) t) (mergeTrigger (freed t s) t) (x.queue.map (leaveElement t)) }
        | none => _) := rfl
    rw [split, target]
  have grown : modLast (mayTake (freed t s) t) (mergeTrigger (freed t s) t)
      ((freed t s).records.queue.map (leaveElement t)) =
      before.map (leaveElement t) ++ mergeTrigger (freed t s) t (leaveElement t r) :: after.map (leaveElement t) := by
    rw [hq, List.map_append, List.map_cons]
    refine modLast_of_last _ (by rw [mayTake_leaveElement]; exact hr) fun y hy => ?_
    obtain ⟨x, hx, rfl⟩ := List.mem_map.1 hy
    rw [mayTake_leaveElement]
    exact ha x hx
  have placed := placed_of_queue (v := freed t s) ⟨rfl, fun _ hc => hc⟩ rfl
    (fun x => { x with queue := modLast (mayTake (freed t s) t) (mergeTrigger (freed t s) t) (x.queue.map (leaveElement t)) })
    rfl rfl r.number .merged
  rw [← taken, grown] at placed
  exact placed

/-- R163 case 3: a trigger that no record takes makes one at the tail. -/
theorem takeTrigger_created {t : Trigger} {s : State} (hl : (freed t s).records.queue.length ≤ 16)
    (hn : ∀ y ∈ (freed t s).records.queue, ¬mayTake (freed t s) t y = true) :
    let kept := if (freed t s).records.queue.length = 16 then (freed t s).records.queue.tail else (freed t s).records.queue
    TriggerPlaced (freed t s) (kept.map (leaveElement t) ++ [mergeTrigger (freed t s) t (newRecord (freed t s) t)])
        (newRecord (freed t s) t).number .created (takeTrigger t s) ∧
      (takeTrigger t s).records.nextNumber = nextRecordNumber (freed t s).records.nextNumber := by
  intro kept
  have target : mergeTarget (freed t s) t = none := by
    rw [mergeTarget, List.filter_eq_nil_iff.2 hn]
    rfl
  have taken : takeTrigger t s = testRecords (recordEvent (mergeTrigger (freed t s) t (newRecord (freed t s) t)).number
      .created ((makeRoom (freed t s)).modRecords fun x =>
        { x with queue := x.queue.map (leaveElement t) ++ [mergeTrigger (freed t s) t (newRecord (freed t s) t)]
                 nextNumber := nextRecordNumber x.nextNumber })) := by
    have split : takeTrigger t s = (match mergeTarget (freed t s) t with
        | some r => _
        | none => testRecords (recordEvent (mergeTrigger (freed t s) t (newRecord (freed t s) t)).number
            .created ((makeRoom (freed t s)).modRecords fun x =>
              { x with queue := x.queue.map (leaveElement t) ++ [mergeTrigger (freed t s) t (newRecord (freed t s) t)]
                       nextNumber := nextRecordNumber x.nextNumber }))) := rfl
    rw [split, target]
  have room := makeRoom_made hl
  have placed := placed_of_queue (v := freed t s) room.toOnRecords room.bfView
    (fun x => { x with
      queue := x.queue.map (leaveElement t) ++ [mergeTrigger (freed t s) t (newRecord (freed t s) t)]
      nextNumber := nextRecordNumber x.nextNumber }) rfl rfl
    (mergeTrigger (freed t s) t (newRecord (freed t s) t)).number .created
  rw [← taken, room.queue, room.nextNumber, mergeTrigger_number] at placed
  exact placed

/-! ## Reports from the other blocks (R165, R166, R73) -/

theorem awaits_iff {n tag : Nat} {r : Record} : awaits n tag r = true ↔
    r.complete = false ∧ ∃ x ∈ r.awaited, x.1 = n ∧ (x.2 = none ∨ x.2 = some tag) := by
  simp only [awaits, Bool.and_eq_true, Bool.not_eq_true', List.any_eq_true, decide_eq_true_eq]

/-- R165: an entry of slot `n` takes the outcome of a report. -/
def settleEntry (n count : Nat) (t : Told) (b : BrkEntry) : BrkEntry :=
  if b.slot = n then
    { b with outcome := outcomeOfReport t
             completion := if carriesIndex (outcomeOfReport t) then some count else b.completion }
  else b

/-- R165: a record that awaits the report of slot `n` takes it. -/
def takeReport (n count : Nat) (t : Told) (r : Record) : Record :=
  { r with brks := r.brks.map (settleEntry n count t), awaited := r.awaited.filter fun x => decide (x.1 ≠ n) }

theorem settleEntry_other {n count : Nat} {t : Told} {b : BrkEntry} (h : b.slot ≠ n) : settleEntry n count t b = b :=
  if_neg h

theorem settleEntry_same {n count : Nat} {t : Told} {b : BrkEntry} (h : b.slot = n) :
    ∃ c, settleEntry n count t b = { b with outcome := outcomeOfReport t, completion := c } ∧
      (t = .done → c = some count) := by
  refine ⟨_, if_pos h, fun ht => ?_⟩
  rw [ht]
  rfl

theorem reportOpenEnd_eq (n tag : Nat) (t : Told) (s : State) : reportOpenEnd n tag t s =
    testRecords (s.modRecords fun x =>
      { x with queue := x.queue.map fun r => if awaits n tag r then takeReport n s.intake.count t r else r }) := rfl

/-- R165: each record after the report of slot `n`. -/
theorem reportOpenEnd_queue {n tag : Nat} {t : Told} {s : State} {i : Nat} {r : Record}
    (hr : s.records.queue[i]? = some r) : (reportOpenEnd n tag t s).records.queue[i]? =
      some (settled s (if awaits n tag r then takeReport n s.intake.count t r else r)) := by
  rw [reportOpenEnd_eq, (testRecords_tested _).queue]
  simp only [State.modRecords_records, List.getElem?_map, hr, Option.map_some]
  rfl

theorem holdsLatest_iff {g : Group} {row : Nat} {r : Record} : holdsLatest g row r = true ↔
    r.complete = false ∧ (g, row) ∈ r.latest ∧ ∃ e ∈ r.elems, e.group = g ∧ e.row = row := by
  simp only [holdsLatest, Bool.and_eq_true, Bool.not_eq_true', List.any_eq_true, decide_eq_true_eq, and_assoc]

theorem finalPeaks_queue {g : Group} {row : Nat} {phases : Four Bool} {peaks : Four Nat} {s : State} {i : Nat} {r : Record}
    (hr : s.records.queue[i]? = some r) : (finalPeaks g row phases peaks s).records.queue[i]? =
      some (if holdsLatest g row r then addPeaks phases peaks r else r) := by
  simp only [finalPeaks, State.modRecords_records, List.getElem?_map, hr, Option.map_some]

theorem modAt_const {α : Type} (l : List α) (i : Nat) (x : α) : modAt l i (fun _ => x) = l.set i x := by
  induction l generalizing i with
  | nil => rfl
  | cons y l ih =>
    cases i with
    | zero => rfl
    | succ i => simp [modAt, ih]

/-! ## The parts of O48 -/

/-- R163: which record a trigger joins, or the one it makes. -/
theorem trigger_merged_or_created (t : Trigger) (s : State) (hlen : s.records.queue.length ≤ 16) :
    let fits := fun (r : Record) => holdsSlot t r = true ∨
      ((∀ y ∈ s.records.queue, ¬holdsSlot t y = true) ∧ inWindow s r = true)
    (∀ before r after, s.records.queue = before ++ r :: after → fits r → (∀ y ∈ after, ¬fits y) →
      TriggerPlaced (freed t s) (before.map (leaveElement t) ++ mergeTrigger (freed t s) t (leaveElement t r) ::
          after.map (leaveElement t)) r.number .merged (takeTrigger t s) ∧
        (takeTrigger t s).records.nextNumber = s.records.nextNumber) ∧
    ((∀ r ∈ s.records.queue, ¬fits r) →
      let kept := if s.records.queue.length = 16 then s.records.queue.tail else s.records.queue
      TriggerPlaced (freed t s) (kept.map (leaveElement t) ++ [mergeTrigger (freed t s) t (newRecord (freed t s) t)])
          (newRecord (freed t s) t).number .created (takeTrigger t s) ∧
        (takeTrigger t s).records.nextNumber = nextRecordNumber s.records.nextNumber) := by
  intro fits
  have records := freed_records t s
  have now : (freed t s).now = s.now := by rcases freed_cases t s with h | h <;> rw [h]; rfl
  have window : inWindow (freed t s) = inWindow s := by
    funext r
    simp only [inWindow, now]
  have take : ∀ r ∈ s.records.queue, (mayTake (freed t s) t r = true ↔ fits r) := fun r hr => by
    have link := mayTake_iff (s := freed t s) (t := t) (r := r) (records ▸ hr)
    rw [records, window] at link
    exact link
  refine ⟨fun before r after hq hr ha => ?_, fun hn => ?_⟩
  · have placed := takeTrigger_merged (t := t) (s := s) (records ▸ hq) ((take r (by simp [hq])).2 hr)
      fun y hy hm => ha y hy ((take y (by simp [hq, hy])).1 hm)
    rw [records] at placed
    exact placed
  · have placed := takeTrigger_created (t := t) (s := s) (by rw [records]; exact hlen)
      fun y hy hm => hn y (records ▸ hy) ((take y (records ▸ hy)).1 hm)
    rw [records] at placed
    exact placed

/-- R163, R164: the new record of a trigger. -/
theorem newRecord_eq (t : Trigger) (s : State) :
    let indices := match t with
      | .element e _ _ _ pickup => (TrigKind.element, pickup, e.operIdx)
      | .bf e => (.bf, e.operIdx, e.operIdx)
      | .overrun o => (.overrun, o.index, o.index)
    newRecord s t =
      { number := s.records.nextNumber, kind := indices.1, firstTime := s.now, pickupIdx := indices.2.1
        operIdx := indices.2.2, seq1 := s.seqs.seq1.state, seq2 := s.seqs.seq2.state, mode := s.mgmt.mode } := by
  cases t <;> rfl

theorem newRecord_freed (t u : Trigger) (s : State) : newRecord (freed u s) t = newRecord s t := by
  rcases freed_cases u s with h | h <;> rw [h]
  cases t <;> rfl

theorem exists_last_of_mem {α : Type} {p : α → Bool} {l : List α} (h : ∃ x ∈ l, p x = true) :
    ∃ before x after, l = before ++ x :: after ∧ p x = true ∧ ∀ y ∈ after, ¬p y = true := by
  induction l with
  | nil => obtain ⟨x, hx, -⟩ := h; cases hx
  | cons y l ih =>
    by_cases later : ∃ x ∈ l, p x = true
    · obtain ⟨before, x, after, e, hx, ha⟩ := ih later
      exact ⟨y :: before, x, after, by rw [e]; rfl, hx, ha⟩
    · obtain ⟨x, hx, hp⟩ := h
      rcases List.mem_cons.1 hx with rfl | hx
      · exact ⟨[], x, l, rfl, hp, fun z hz hp => later ⟨z, hz, hp⟩⟩
      · exact absurd ⟨x, hx, hp⟩ later

/-- R163: either way the trigger stands among the records. -/
theorem takeTrigger_placed (t : Trigger) {s : State} (hlen : s.records.queue.length ≤ 16) :
    ∃ grown n ev, TriggerPlaced (freed t s) grown n ev (takeTrigger t s) := by
  by_cases h : ∃ y ∈ (freed t s).records.queue, mayTake (freed t s) t y = true
  · obtain ⟨before, r, after, hq, hr, ha⟩ := exists_last_of_mem h
    exact ⟨_, _, _, (takeTrigger_merged hq hr ha).1⟩
  · exact ⟨_, _, _, (takeTrigger_created (freed_records t s ▸ hlen) fun y hy hm => h ⟨y, hy, hm⟩).1⟩

theorem takeTrigger_free (t : Trigger) {s : State} (hlen : s.records.queue.length ≤ 16) :
    (takeTrigger t s).free = (freed t s).free := by
  obtain ⟨grown, n, ev, placed⟩ := takeTrigger_placed t hlen
  rw [placed.frame]

theorem takeTrigger_frame (t : Trigger) {s : State} (hlen : s.records.queue.length ≤ 16) :
    takeTrigger t s = { s with records := (takeTrigger t s).records, free := (takeTrigger t s).free } := by
  obtain ⟨grown, n, ev, placed⟩ := takeTrigger_placed t hlen
  rw [takeTrigger_free t hlen]
  conv_lhs => rw [placed.frame]
  rcases freed_cases t s with h | h <;> simp only [h]
  rfl

/-- R162, R165: what entering a slot leaves of its record. -/
theorem joinEntry_enters (n : Nat) (b : BrkEntry) (waits : List (Nat × Option Nat)) (r : Record) :
    let u := joinEntry n b waits r
    u = { r with brks := u.brks, truncated := u.truncated, awaited := r.awaited ++ waits, entered := u.entered } ∧
      (∀ m, m ∈ u.entered ↔ m = n ∨ m ∈ r.entered) ∧
      (r.brks.length < 8 → u.brks = r.brks ++ [b] ∧ u.truncated = r.truncated) ∧
      (8 ≤ r.brks.length → u.brks = r.brks ∧ u.truncated = true) := by
  refine ⟨rfl, fun m => ?_, fun h => ⟨if_pos h, if_pos h⟩, fun h => ⟨if_neg (Nat.not_lt.2 h), if_neg (Nat.not_lt.2 h)⟩⟩
  unfold joinEntry
  dsimp only
  split
  case isTrue h => exact ⟨.inr, fun c => c.elim (fun e => e ▸ h) id⟩
  case isFalse h => rw [List.mem_append, List.mem_singleton, or_comm]

/-- Settles O48: the record a trigger takes is the one `mayTake` finds last, each way to enter a slot is one `joinEntry`, and every
report ends with the test of the records. -/
theorem triggersTaken : Obligations.TriggersTaken := by
  unfold Obligations.TriggersTaken
  refine ⟨?_, ?_, ?_, ?_, ?_, ?_, ?_, ?_, ?_⟩
  · intro t s hlen l u holds fits slots indices fresh
    have fit : ∀ r, fits r ↔ (holdsSlot t r = true ∨ ((∀ y ∈ s.records.queue, ¬holdsSlot t y = true) ∧ inWindow s r = true)) :=
      fun r => by simp only [fits, holds, l, holdsSlot_iff, inWindow_iff]
    obtain ⟨merged, created⟩ := trigger_merged_or_created t s hlen
    obtain ⟨grown, n, ev, placed⟩ := takeTrigger_placed t hlen
    have noticed : s.siteInForce = true → noticeEnabled s .record = true → .record ∈ u.records.pendingNotices := by
      rcases freed_cases t s with h | h <;> rw [h] at placed <;> exact placed.noted
    have free : u.free = (freed t s).free := takeTrigger_free t hlen
    refine ⟨takeTrigger_frame t hlen, noticed, freed t s, freed_cases t s, free, ?_⟩
    intro joined ready placed
    have same : ∀ r, joined r = mergeTrigger (freed t s) t r := fun r => by cases t <;> rfl
    refine ⟨fun before r after hq hr ha => ?_, fun hn => ?_⟩
    · obtain ⟨put, next⟩ := merged before r after hq ((fit r).1 hr) fun y hy hf => ha y hy ((fit y).2 hf)
      rw [same]
      exact ⟨next, put.queue, put.lastEvent⟩
    · intro kept
      obtain ⟨put, next⟩ := created fun r hr hf => hn r hr ((fit r).2 hf)
      have new : newRecord (freed t s) t = fresh := (newRecord_freed t t s).trans (newRecord_eq t s)
      rw [new] at put
      rw [same]
      exact ⟨next, put.queue, put.lastEvent⟩
  · intro e trip phases peaks pickup r u held
    have hu : u = _ := addTrigger_element e trip phases peaks pickup r
    refine ⟨?_, fun h => ?_, fun h hl => ?_, fun h hl => ?_, fun ph => ?_⟩
    · rw [hu]
      rfl
    · rw [hu, addElement_held h]
      exact ⟨rfl, rfl⟩
    · rw [hu, addElement_joins h hl]
      exact ⟨rfl, rfl⟩
    · rw [hu, addElement_full h hl]
      exact ⟨rfl, rfl⟩
    · rw [hu]
      exact addPeaks_get phases peaks r ph
  · intro e r grown
    refine ⟨fun h => ?_, fun h => ?_⟩
    · simp only [addTrigger, h, ↓reduceIte, grown]
    · simp only [addTrigger, Nat.not_lt.2 h, ↓reduceIte, grown]
  · intro o r grown
    refine ⟨fun h => ?_, fun h => ?_⟩
    · simp only [addTrigger, h, Option.isNone_none, ↓reduceIte, grown]
    · simp only [addTrigger, Option.isNone_iff_eq_none, h, ↓reduceIte, grown]
  · intro s r n u held enters
    have joins : ∀ b waits, u = joinEntry n b waits r → enters b waits := fun b waits h => by
      simp only [enters]
      rw [h]
      exact joinEntry_enters n b waits r
    refine ⟨fun h => enterSlot_held h, fun h => ⟨fun o ho ht => joins _ _ (enterSlot_open h ho ht),
      fun o ho ht => joins _ _ (enterSlot_close h ho ht), fun ho hp => joins _ _ (enterSlot_isOpen h ho hp),
      fun ho hp => ⟨fun hl => joins _ _ (enterSlot_abandoned h ho hp hl), fun x hl => ?_⟩⟩⟩
    have last : enters (entryOfLast s n x) [] := joins _ _ (enterSlot_last h ho hp hl)
    refine ⟨fun hx => ?_, fun hx => ?_, fun hx => ?_, fun hx => ?_, _, _, outcomeOfLast_ne_pending s.free x.result, ?_, last⟩
    · exact entryOfLast_eq hx ▸ last
    · exact entryOfLast_eq hx ▸ last
    · exact entryOfLast_eq hx ▸ last
    · exact entryOfLast_eq hx ▸ last
    · split
      · exact .inr rfl
      · exact .inl rfl
  · intro n tag t s u outcome settle
    have tested := testRecords_tested (s.modRecords fun x =>
      { x with queue := x.queue.map fun r => if awaits n tag r then takeReport n s.intake.count t r else r })
    refine ⟨tested.frame, ?_, fun i r hr => ?_⟩
    · rw [show u = _ from reportOpenEnd_eq n tag t s, tested.queue]
      simp
    · intro takes
      have entry : u.records.queue[i]? = some (settled s (if awaits n tag r then takeReport n s.intake.count t r else r)) :=
        reportOpenEnd_queue hr
      refine ⟨fun h => ?_, fun h => ?_⟩
      · rw [entry, if_neg (mt awaits_iff.1 h)]
        rfl
      · rw [entry, if_pos (awaits_iff.2 h)]
        refine ⟨takeReport n s.intake.count t r, rfl, rfl, fun x => ?_, List.length_map _, fun j b hb => ⟨fun hn => ?_, fun hn => ?_⟩⟩
        · simp only [takeReport, List.mem_filter, decide_eq_true_eq]
        · simp only [takeReport, List.getElem?_map, hb, Option.map_some, settleEntry_other hn]
        · obtain ⟨c, hc, hdone⟩ := settleEntry_same (count := s.intake.count) (t := t) hn
          refine ⟨c, ?_, hdone⟩
          simp only [takeReport, List.getElem?_map, hb, Option.map_some, hc]
          rfl
  · intro s r view
    exact ⟨readyToComplete_iff, rfl, clearanceOf_no_entry, clearanceOf_not_cleared, clearanceOf_cleared⟩
  · intro n b s hlen hn u v
    have noted := note_onRecords .breakerFailure (s.modRecords fun x => { x with bfView := modAt x.bfView n fun _ => b })
    have changed := note_records .breakerFailure (s.modRecords fun x => { x with bfView := modAt x.bfView n fun _ => b })
    have tested := testRecords_tested
      (note .breakerFailure (s.modRecords fun x => { x with bfView := modAt x.bfView n fun _ => b }))
    have view : (note .breakerFailure (s.modRecords fun x => { x with bfView := modAt x.bfView n fun _ => b })).records.bfView =
        v.records.bfView := by
      rw [changed]
      exact modAt_const _ _ _
    refine ⟨(noted.trans tested.toOnRecords).frame, tested.bfView.trans view, fun hs hc => ?_, ?_⟩
    · exact tested.notices _ (mem_pending_note
        (s := s.modRecords fun x => { x with bfView := modAt x.bfView n fun _ => b }) hs hc)
    · have queue := tested.queue
      rw [changed] at queue
      refine queue.trans (List.map_congr_left fun r _ => ?_)
      simp only [settled, recordReady_congr view]
      rfl
  · intro g row phases peaks s u
    refine ⟨rfl, List.length_map _, fun i r hr => ?_⟩
    intro takes
    have entry : u.records.queue[i]? = some (if holdsLatest g row r then addPeaks phases peaks r else r) := finalPeaks_queue hr
    refine ⟨fun h => ?_, fun h => ?_⟩
    · rw [entry, if_neg (mt holdsLatest_iff.1 h)]
    · rw [entry, if_pos (holdsLatest_iff.2 h)]
      exact ⟨_, rfl, rfl, fun ph => addPeaks_get phases peaks r ph⟩

end Sys2Proof.Machine
end

section
/-!
An element that operates (O26): what the acts on one breaker's order leave of the other slots and of the lockouts, when a
slot holds an open of PROT, and what the acts of R71 leave of the rest of the state.
-/

namespace Sys2Proof.Machine

/-! ## Folds -/

/-- A property that one act of a fold makes, from a condition that every act keeps, holds at the end. -/
theorem foldl_establishes {f : State → Nat → State} {pre post : State → Prop} {n : Nat} {l : List Nat}
    (keep : ∀ s m, pre s → pre (f s m)) (stay : ∀ s m, post s → post (f s m)) (make : ∀ s, pre s → post (f s n))
    (hn : n ∈ l) {s : State} (hs : pre s) : post (l.foldl f s) := by
  have stays : ∀ (l : List Nat) {s : State}, post s → post (l.foldl f s) := fun l => by
    induction l with
    | nil => exact id
    | cons m ms ih => exact fun h => ih (stay _ m h)
  induction l generalizing s with
  | nil => cases hn
  | cons m ms ih =>
    rcases List.mem_cons.1 hn with rfl | hn
    · exact stays ms (make s hs)
    · exact ih hn (keep s m hs)

/-! ## Acts on the order of one slot -/

/-- A reading of a slot that an update keeps is the same in every slot. -/
theorem State.modSlot_slot_reading {β : Type} (r : ArbSlot → β) {f : ArbSlot → ArbSlot} (hf : ∀ a, r (f a) = r a) (s : State)
    (n m : Nat) : r ((s.modSlot n f).slot m) = r (s.slot m) := modAt_getD_reading r hf _ n m {}

theorem State.slot_of_arb {s t : State} (h : t.arb = s.arb) (n : Nat) : t.slot n = s.slot n := by
  unfold State.slot
  rw [h]

theorem busLock_of_arb {s t : State} (h : t.arb = s.arb) (b : Bus) : t.busLock b = s.busLock b := by
  unfold State.busLock
  rw [h]

/-- A slot that holds something is one of the part's. -/
theorem slot_lt_of_order {s : State} {n : Nat} {o : Order} (h : (s.slot n).order = some o) : n < s.arb.slots.length := by
  by_contra out
  rw [State.slot, List.getD_eq_default _ _ (Nat.le_of_not_lt out)] at h
  cases h

/-- `t` comes from `s` by acts on slot `n`'s order and acts beside the Arbiter's slots and lockouts. -/
structure OrderActs (n : Nat) (s t : State) : Prop where
  others : ∀ m, m ≠ n → t.slot m = s.slot m
  lock : (t.slot n).lock = (s.slot n).lock
  buses : ∀ b, t.busLock b = s.busLock b

theorem OrderActs.refl (n : Nat) (s : State) : OrderActs n s s := ⟨fun _ _ => rfl, rfl, fun _ => rfl⟩

theorem OrderActs.trans {n : Nat} {s t u : State} (h : OrderActs n s t) (k : OrderActs n t u) : OrderActs n s u :=
  ⟨fun m hm => (k.others m hm).trans (h.others m hm), k.lock.trans h.lock, fun b => (k.buses b).trans (h.buses b)⟩

theorem OrderActs.ite {n : Nat} {s t u : State} {c : Prop} [Decidable c] (ht : OrderActs n s t) (hu : OrderActs n s u) :
    OrderActs n s (if c then t else u) := by
  split
  · exact ht
  · exact hu

theorem OrderActs.of_arb {s t : State} (h : t.arb = s.arb) (n : Nat) : OrderActs n s t := by
  exact ⟨fun m _ => State.slot_of_arb h m, by rw [State.slot_of_arb h], busLock_of_arb h⟩

theorem OrderActs.modSlot (n : Nat) {f : ArbSlot → ArbSlot} (s : State) (hf : ∀ a, (f a).lock = a.lock := by intro _; rfl) :
    OrderActs n s (s.modSlot n f) :=
  ⟨fun m hm => State.modSlot_slot_other s n m f hm, State.modSlot_slot_reading ArbSlot.lock hf s n n, fun _ => rfl⟩

theorem sendFrame_arb (n : Nat) (c : OrderCode) (tag : Nat) (x : Source) (s : State) : (sendFrame n c tag x s).arb = s.arb := by
  have one : ∀ p q f u, (enqueue p q f u).arb = u.arb := fun p q f u => by
    unfold enqueue
    split <;> rfl
  unfold sendFrame originate
  split
  · split
    · rfl
    · rw [one, one]
  · rfl

theorem sendOrder_arb (n : Nat) (s : State) : (sendOrder n s).arb = s.arb := by
  unfold sendOrder
  split
  · exact sendFrame_arb _ _ _ _ _
  · rfl

theorem setMove_arb (n : Nat) (t : OrdType) (s : State) : (setMove n t s).arb = s.arb := by
  unfold setMove
  split <;> rfl

theorem reportBf_arb (n : Nat) (b : BFState) (s : State) : (reportBf n b s).arb = s.arb :=
  (((BesideArb.modRecords s _).trans (.note _ _)).trans (.testRecords _)).arb

theorem leaveService_none {n : Nat} {s : State} (t : Told) (ho : (s.slot n).order = none) : leaveService n t s = s := by
  unfold leaveService
  rw [ho]

theorem OrderActs.leaveService (n : Nat) (t : Told) (s : State) : OrderActs n s (leaveService n t s) := by
  cases ho : (s.slot n).order with
  | none => rw [leaveService_none t ho]; exact .refl n s
  | some o =>
    have left := leaveService_left t (slot_lt_of_order ho) ho
    obtain ⟨others, bus1, bus2, gbus⟩ := left.acts.slots
    refine ⟨others, by rw [left.slot]; rfl, fun b => ?_⟩
    cases b
    · exact bus1
    · exact bus2
    · exact gbus

theorem OrderActs.startWithdraw (n tag : Nat) (c : Source) (s : State) : OrderActs n s (startWithdraw n tag c s) :=
  (OrderActs.modSlot n s).trans (.of_arb (sendFrame_arb _ _ _ _ _) n)

theorem OrderActs.endClose (n : Nat) (t : Told) (s : State) : OrderActs n s (endClose n t s) := by
  unfold Machine.endClose
  split
  · split
    · exact .refl n s
    · refine (OrderActs.leaveService n t s).trans ?_
      split
      · exact .startWithdraw _ _ _ _
      · exact .refl n _
  · exact .refl n s

theorem OrderActs.startProtective (n : Nat) (x : Source) (s : State) : OrderActs n s (startProtective n x s) := by
  have bf : OrderActs n s (startBf n s) := .ite ((OrderActs.modSlot n s).trans (.of_arb (reportBf_arb _ _ _) n)) (.refl n s)
  have line : ∀ u, OrderActs n u (energizeLine n u) := fun u => .ite (.modSlot n u) (.refl n u)
  exact .ite (bf.trans (line _)) (.refl n s)

theorem OrderActs.issue (n : Nat) (s : State) : OrderActs n s (issue n s) := by
  unfold Machine.issue
  split
  · exact .refl n s
  · exact ((OrderActs.modSlot n s).trans (.of_arb (setMove_arb _ _ _) n)).trans (.of_arb (sendOrder_arb _ _) n)

theorem OrderActs.putOpen (n : Nat) (x : Source) (r : Requester) (s : State) : OrderActs n s (putOpen n x r s) :=
  (((OrderActs.modSlot n s).trans (.of_arb (BesideArb.note _ _).arb n)).trans (.issue n _)).trans (.startProtective n x _)

theorem OrderActs.joinOpen (n : Nat) (o : Order) (x : Source) (r : Requester) (s : State) :
    OrderActs n s (joinOpen n o x r s) :=
  .ite (.modSlot n s) ((OrderActs.modSlot n s).trans (.startProtective n x _))

/-! ## The open request of the Protection Unit -/

section
variable {n : Nat} {s : State}

/-- R89: a PROT request meets neither a local control nor an operator window. -/
theorem raiseOpen_prot_of_present (hp : (s.brk n).present = true) : (raiseOpen .prot .prot n s).1 =
    match (s.slot n).order with
    | some o =>
      match o.type with
      | .opn => joinOpen n o .prot .prot s
      | .close => putOpen n .prot .prot (endClose n .preempted s)
    | none => if s.pos n = .opn then s else putOpen n .prot .prot s := by
  have window : windowConflict s n .prot = false := rfl
  unfold raiseOpen
  simp only [hp, Bool.true_eq_false, ↓reduceIte, reduceCtorEq, or_self, and_false, window, Bool.false_eq_true, setWindow]
  cases (s.slot n).order with
  | none => by_cases h : s.pos n = .opn <;> simp only [h, ↓reduceIte]
  | some o =>
    dsimp only
    cases o.type <;> rfl

theorem raiseOpen_absent (hp : (s.brk n).present = false) : (raiseOpen .prot .prot n s).1 = s := by
  unfold raiseOpen
  rw [if_pos hp]

theorem raiseOpen_joins {o : Order} (hp : (s.brk n).present = true) (ho : (s.slot n).order = some o) (ht : o.type = .opn) :
    (raiseOpen .prot .prot n s).1 = joinOpen n o .prot .prot s := by
  rw [raiseOpen_prot_of_present hp, ho]
  dsimp only
  rw [ht]

theorem raiseOpen_preempts {o : Order} (hp : (s.brk n).present = true) (ho : (s.slot n).order = some o)
    (ht : o.type = .close) : (raiseOpen .prot .prot n s).1 = putOpen n .prot .prot (endClose n .preempted s) := by
  rw [raiseOpen_prot_of_present hp, ho]
  dsimp only
  rw [ht]

theorem raiseOpen_isOpen (hp : (s.brk n).present = true) (ho : (s.slot n).order = none) (h : s.pos n = .opn) :
    (raiseOpen .prot .prot n s).1 = s := by
  rw [raiseOpen_prot_of_present hp, ho]
  exact if_pos h

theorem raiseOpen_puts (hp : (s.brk n).present = true) (ho : (s.slot n).order = none) (h : s.pos n ≠ .opn) :
    (raiseOpen .prot .prot n s).1 = putOpen n .prot .prot s := by
  rw [raiseOpen_prot_of_present hp, ho]
  exact if_neg h

end

theorem OrderActs.raiseOpen (n : Nat) (s : State) : OrderActs n s (raiseOpen .prot .prot n s).1 := by
  cases hp : (s.brk n).present with
  | false => rw [raiseOpen_absent hp]; exact .refl n s
  | true =>
    cases ho : (s.slot n).order with
    | none =>
      by_cases h : s.pos n = .opn
      · rw [raiseOpen_isOpen hp ho h]; exact .refl n s
      · rw [raiseOpen_puts hp ho h]; exact .putOpen _ _ _ _
    | some o =>
      cases ht : o.type with
      | opn => rw [raiseOpen_joins hp ho ht]; exact .joinOpen _ _ _ _ _
      | close => rw [raiseOpen_preempts hp ho ht]; exact (OrderActs.endClose _ _ _).trans (.putOpen _ _ _ _)

/-! ## A slot with an open of PROT in service -/

/-- R71: an open is in service on slot `n` with PROT among its causes. -/
def Tripped (n : Nat) (s : State) : Prop := ∃ o, (s.slot n).order = some o ∧ o.type = .opn ∧ .prot ∈ o.causes

theorem Tripped.of_order {n : Nat} {s t : State} (h : Tripped n s) (e : (t.slot n).order = (s.slot n).order) : Tripped n t := by
  unfold Tripped
  rw [e]
  exact h

theorem startProtective_order (n : Nat) (x : Source) (s : State) :
    ((startProtective n x s).slot n).order = (s.slot n).order := by
  have kept : ∀ {u : State} {f : ArbSlot → ArbSlot}, (∀ a, (f a).order = a.order) →
      ((u.modSlot n f).slot n).order = (u.slot n).order := fun hf => State.modSlot_slot_reading ArbSlot.order hf _ n n
  have bf : ∀ u, ((startBf n u).slot n).order = (u.slot n).order := fun u => by
    unfold startBf
    split
    · simp only [State.slot, reportBf_arb]
      exact kept fun _ => rfl
    · rfl
  have line : ∀ u, ((energizeLine n u).slot n).order = (u.slot n).order := fun u => by
    unfold energizeLine
    split
    · exact kept fun _ => rfl
    · rfl
  unfold startProtective
  split
  · rw [line, bf]
  · rfl

theorem issue_tripped {n : Nat} {s : State} (h : Tripped n s) : Tripped n (issue n s) := by
  obtain ⟨o, ho, type, cause⟩ := h
  refine ⟨{ o with phase := .issued, issueTime := some s.now, nextRepeat := s.now + ms 10 }, ?_, type, cause⟩
  unfold issue
  rw [ho]
  simp only [State.slot, sendOrder_arb, setMove_arb]
  exact congrArg ArbSlot.order (State.modSlot_slot_same s n _ (slot_lt_of_order ho))

theorem putOpen_tripped {n : Nat} {s : State} (hn : n < s.arb.slots.length) : Tripped n (putOpen n .prot .prot s) := by
  have put : Tripped n (putOrder n .opn .prot .prot s) := by
    unfold putOrder Tripped
    rw [(BesideArb.note _ _).slot, State.modSlot_slot_same _ _ _ hn]
    exact ⟨_, rfl, rfl, List.mem_singleton_self _⟩
  exact (issue_tripped put).of_order (startProtective_order _ _ _)

theorem joinOpen_tripped {n : Nat} {o : Order} {s : State} (ho : (s.slot n).order = some o) (ht : o.type = .opn) :
    Tripped n (joinOpen n o .prot .prot s) := by
  have cause : Source.prot ∈ if .prot ∈ o.causes then o.causes else o.causes ++ [.prot] := by
    split
    case isTrue h => exact h
    case isFalse => exact List.mem_append_right _ (List.mem_singleton_self _)
  have joined : ∀ f : ArbSlot → ArbSlot, (∀ a, (f a).order = some { o with
      causes := if .prot ∈ o.causes then o.causes else o.causes ++ [.prot], requesters := o.requesters ++ [.prot] }) →
      Tripped n (s.modSlot n f) := fun f hf =>
    ⟨_, (congrArg ArbSlot.order (State.modSlot_slot_same s n f (slot_lt_of_order ho))).trans (hf _), ht, cause⟩
  unfold joinOpen
  dsimp only
  split
  · exact joined _ fun _ => rfl
  · exact (joined _ fun _ => rfl).of_order (startProtective_order _ _ _)

/-- R89, R90: an open of PROT stays in service with PROT among its causes while others are requested. -/
theorem raiseOpen_keeps_tripped {n : Nat} (m : Nat) {s : State} (h : Tripped n s) : Tripped n (raiseOpen .prot .prot m s).1 := by
  by_cases hm : n = m
  · subst hm
    obtain ⟨o, ho, ht, cause⟩ := h
    cases hp : (s.brk n).present with
    | false => rw [raiseOpen_absent hp]; exact ⟨o, ho, ht, cause⟩
    | true => rw [raiseOpen_joins hp ho ht]; exact joinOpen_tripped ho ht
  · exact h.of_order (by rw [(OrderActs.raiseOpen m s).others n hm])

/-- R89 to R91: the request of a present breaker that is not OPEN leaves an open of PROT in service. -/
theorem raiseOpen_trips {n : Nat} {s : State} (hn : n < s.arb.slots.length) (hp : (s.brk n).present = true)
    (h : s.pos n ≠ .opn) : Tripped n (raiseOpen .prot .prot n s).1 := by
  cases ho : (s.slot n).order with
  | none => rw [raiseOpen_puts hp ho h]; exact putOpen_tripped hn
  | some o =>
    cases ht : o.type with
    | opn => rw [raiseOpen_joins hp ho ht]; exact joinOpen_tripped ho ht
    | close => rw [raiseOpen_preempts hp ho ht]; exact putOpen_tripped (by rw [(Internal.endClose _ _ _).slots]; exact hn)

/-! ## Lockouts stay set -/

/-- Every lockout that is set in `s` is set in `t`. -/
structure LocksStay (s t : State) : Prop where
  slots : ∀ n, (s.slot n).lock.isSet = true → (t.slot n).lock.isSet = true
  buses : ∀ b, (s.busLock b).isSet = true → (t.busLock b).isSet = true

theorem LocksStay.refl (s : State) : LocksStay s s := ⟨fun _ => id, fun _ => id⟩

theorem LocksStay.trans {s t u : State} (h : LocksStay s t) (k : LocksStay t u) : LocksStay s u :=
  ⟨fun n hn => k.slots n (h.slots n hn), fun b hb => k.buses b (h.buses b hb)⟩

theorem LocksStay.foldl {α : Type} {f : State → α → State} (hf : ∀ s x, LocksStay s (f s x)) (l : List α) (s : State) :
    LocksStay s (l.foldl f s) := by
  induction l generalizing s with
  | nil => exact .refl s
  | cons x xs ih => exact (hf s x).trans (ih _)

theorem LocksStay.of_arb {s t : State} (h : t.arb = s.arb) : LocksStay s t :=
  ⟨fun n hn => State.slot_of_arb h n ▸ hn, fun b hb => busLock_of_arb h b ▸ hb⟩

theorem OrderActs.locksStay {n : Nat} {s t : State} (h : OrderActs n s t) : LocksStay s t := by
  refine ⟨fun m hm => ?_, fun b hb => h.buses b ▸ hb⟩
  by_cases e : m = n
  · subst e
    rwa [h.lock]
  · rwa [h.others m e]

theorem lockoutChanged_arb (s : State) : (lockoutChanged s).arb = s.arb := (BesideArb.note _ _).arb

/-- R103: a lockout with a setter is set, and its slot holds it before the close on the slot ends. -/
theorem setSlotLockout_sets (n : Nat) (x : Setter) {s : State} (hn : n < s.arb.slots.length) :
    ((setSlotLockout n x s).slot n).lock.isSet = true := by
  unfold setSlotLockout
  dsimp only
  rw [(OrderActs.endClose n .lockout _).lock]
  split
  case isTrue h => rw [← h]; rfl
  case isFalse =>
    simp only [State.slot, lockoutChanged_arb]
    exact congrArg (fun a : ArbSlot => a.lock.isSet) (State.modSlot_slot_same s n _ hn)

theorem LocksStay.setSlotLockout (n : Nat) (x : Setter) (s : State) : LocksStay s (setSlotLockout n x s) := by
  refine LocksStay.trans ?_ (OrderActs.endClose n .lockout _).locksStay
  split
  · exact .refl s
  · refine LocksStay.trans (t := s.modSlot n fun a => { a with lock := addSetter x a.lock }) ⟨fun m hm => ?_, fun b => id⟩
      (.of_arb (lockoutChanged_arb _))
    by_cases e : m = n
    · subst e
      by_cases lt : m < s.arb.slots.length
      · rw [State.modSlot_slot_same _ _ _ lt]
        rfl
      · rw [State.slot, List.getD_eq_default _ _ (Nat.le_of_not_lt lt)] at hm
        cases hm
    · rwa [State.modSlot_slot_other _ _ _ _ e]

theorem setBusLockout_sets (b : Bus) (x : Setter) (s : State) : ((setBusLockout b x s).busLock b).isSet = true := by
  unfold setBusLockout
  dsimp only
  have posted : ∀ (c : Bool) (u : State), ((if c then u else u.post (.busLockSet b)).busLock b) = u.busLock b :=
    fun c u => by cases c <;> rfl
  rw [posted]
  refine (LocksStay.foldl (fun u n => ?_) _ _).buses b ?_
  · split
    · exact (OrderActs.endClose n .busLockout u).locksStay
    · exact .refl u
  · split
    case isTrue h => rw [← h]; rfl
    case isFalse =>
      simp only [State.busLock, lockoutChanged_arb]
      exact congrArg Lockout.isSet (State.setBusLock_busLock s b (addSetter x (s.busLock b)))

/-! ## What the acts of R71 leave alone -/

/-- `t` comes from `s` by acts that an operated element raises before its target: clocks, intake, measurement, protection,
sequencers, mode, tables and positions stand. -/
structure OutsideTrip (s t : State) : Prop where
  now : t.now = s.now
  intake : t.intake = s.intake
  meas : t.meas = s.meas
  prot : t.prot = s.prot
  seqs : t.seqs = s.seqs
  mode : t.mgmt.mode = s.mgmt.mode
  image : t.mgmt.image = s.mgmt.image
  slots : t.arb.slots.length = s.arb.slots.length
  pos : ∀ n, t.pos n = s.pos n

theorem OutsideTrip.refl (s : State) : OutsideTrip s s := ⟨rfl, rfl, rfl, rfl, rfl, rfl, rfl, rfl, fun _ => rfl⟩

theorem OutsideTrip.trans {s t u : State} (h : OutsideTrip s t) (k : OutsideTrip t u) : OutsideTrip s u :=
  ⟨k.now.trans h.now, k.intake.trans h.intake, k.meas.trans h.meas, k.prot.trans h.prot, k.seqs.trans h.seqs,
    k.mode.trans h.mode, k.image.trans h.image, k.slots.trans h.slots, fun n => (k.pos n).trans (h.pos n)⟩

theorem OutsideTrip.ite {s t u : State} {c : Prop} [Decidable c] (ht : OutsideTrip s t) (hu : OutsideTrip s u) :
    OutsideTrip s (if c then t else u) := by
  split
  · exact ht
  · exact hu

theorem OutsideTrip.foldl {α : Type} {f : State → α → State} (hf : ∀ s x, OutsideTrip s (f s x)) (l : List α) (s : State) :
    OutsideTrip s (l.foldl f s) := by
  induction l generalizing s with
  | nil => exact .refl s
  | cons x xs ih => exact (hf s x).trans (ih _)

theorem Internal.outsideTrip {s t : State} (h : Internal s t) (k : Quiet s t) : OutsideTrip s t :=
  ⟨h.outside.now, h.outside.intake, h.outside.meas, h.outside.prot, k.seqs, h.outside.mode, h.outside.image, h.slots, k.pos⟩

theorem OutsideTrip.endClose (n : Nat) (t : Told) (s : State) : OutsideTrip s (endClose n t s) :=
  (Internal.endClose n t s).outsideTrip (.endClose n t s)

theorem OutsideTrip.note (c : NoticeClass) (s : State) : OutsideTrip s (note c s) :=
  (Internal.note c s).outsideTrip (.note c s)

theorem OutsideTrip.lockoutChanged (s : State) : OutsideTrip s (lockoutChanged s) :=
  have write : OutsideTrip s (writeLockouts s) := ⟨rfl, rfl, rfl, rfl, rfl, rfl, rfl, rfl, fun _ => rfl⟩
  write.trans (.note .lockout _)

theorem OutsideTrip.setSlotLockout (n : Nat) (x : Setter) (s : State) : OutsideTrip s (setSlotLockout n x s) := by
  refine OutsideTrip.trans (.ite (.refl s) (OutsideTrip.trans ?_ (.lockoutChanged _))) (.endClose n .lockout _)
  exact ⟨rfl, rfl, rfl, rfl, rfl, rfl, rfl, by simp, (Quiet.modSlot s n).pos⟩

theorem OutsideTrip.setBusLock (b : Bus) (l : Lockout) (s : State) : OutsideTrip s (s.setBusLock b l) := by
  cases b <;> exact ⟨rfl, rfl, rfl, rfl, rfl, rfl, rfl, rfl, fun _ => rfl⟩

theorem OutsideTrip.setBusLockout (b : Bus) (x : Setter) (s : State) : OutsideTrip s (setBusLockout b x s) := by
  have set : OutsideTrip s (if addSetter x (s.busLock b) = s.busLock b then s
      else Machine.lockoutChanged (s.setBusLock b (addSetter x (s.busLock b)))) :=
    .ite (.refl s) ((OutsideTrip.setBusLock b _ s).trans (.lockoutChanged _))
  have closes := set.trans (.foldl (f := fun u n => if b ∈ u.busSides n then Machine.endClose n .busLockout u else u)
    (fun u n => .ite (.endClose n .busLockout u) (.refl u)) allSlots _)
  exact .ite closes (closes.trans ((Internal.post _ _).outsideTrip (.post _ _)))

theorem OutsideTrip.handLockout (g : Group) (i : Nat) (row : ElementRow) (s : State) :
    OutsideTrip s (handLockout g i row s) := by
  unfold Machine.handLockout
  split
  · exact .refl s
  · exact .foldl (fun u n => .setSlotLockout _ _ u) _ _
  · exact .setBusLockout _ _ _

theorem OutsideTrip.raiseOpen (n : Nat) (s : State) : OutsideTrip s (raiseOpen .prot .prot n s).1 :=
  (Internal.raiseOpen .prot .prot n s).outsideTrip (.raiseOpen .prot .prot n s)

theorem OutsideTrip.brk {s t : State} (h : OutsideTrip s t) (n : Nat) : t.brk n = s.brk n := by
  simp only [State.brk, State.tbl, h.image]

/-! ## The lockouts and opens of an element -/

/-- R71: the state in which the target is latched: the lockouts are handed over and the opens requested. -/
def tripsRaised (g : Group) (i : Nat) (row : ElementRow) (s : State) : State :=
  row.trip.foldl (fun s n => (raiseOpen .prot .prot n s).1) (handLockout g i row s)

theorem OutsideTrip.tripsRaised (g : Group) (i : Nat) (row : ElementRow) (s : State) :
    OutsideTrip s (tripsRaised g i row s) :=
  (OutsideTrip.handLockout g i row s).trans (.foldl (fun u n => .raiseOpen n u) _ _)

theorem tripsRaised_locksStay (g : Group) (i : Nat) (row : ElementRow) (s : State) :
    LocksStay (handLockout g i row s) (tripsRaised g i row s) :=
  .foldl (fun u n => (OrderActs.raiseOpen n u).locksStay) _ _

theorem tripsRaised_tripped {g : Group} {i : Nat} {row : ElementRow} {s : State} {n : Nat} (hn : n < s.arb.slots.length)
    (mem : n ∈ row.trip) (hp : (s.brk n).present = true) (h : s.pos n ≠ .opn) : Tripped n (tripsRaised g i row s) := by
  have outside := OutsideTrip.handLockout g i row s
  refine foldl_establishes (pre := fun u => OutsideTrip s u) (post := Tripped n)
    (fun u m hu => hu.trans (.raiseOpen m u)) (fun u m hu => raiseOpen_keeps_tripped m hu) (fun u hu => ?_) mem outside
  exact raiseOpen_trips (hu.slots ▸ hn) (hu.brk n ▸ hp) (hu.pos n ▸ h)

theorem tripsRaised_busLock {g : Group} {i : Nat} {row : ElementRow} {s : State} {b : Bus} (h : row.lockout = .bus b) :
    ((tripsRaised g i row s).busLock b).isSet = true := by
  refine (tripsRaised_locksStay g i row s).buses b ?_
  unfold handLockout
  rw [h]
  exact setBusLockout_sets b _ s

theorem tripsRaised_lock {g : Group} {i : Nat} {row : ElementRow} {s : State} {n : Nat} (h : row.lockout = .breaker)
    (mem : n ∈ row.trip) (hn : n < s.arb.slots.length) : ((tripsRaised g i row s).slot n).lock.isSet = true := by
  refine (tripsRaised_locksStay g i row s).slots n ?_
  unfold handLockout
  rw [h]
  exact foldl_establishes (pre := fun u => n < u.arb.slots.length) (post := fun u => (u.slot n).lock.isSet = true)
    (fun u m hu => (OutsideTrip.setSlotLockout m _ u).slots ▸ hu) (fun u m hu => (LocksStay.setSlotLockout m _ u).slots n hu)
    (fun u hu => setSlotLockout_sets n _ hu) mem hn

/-! ## The target, the trigger and the outputs -/

theorem modAt_getElem? {α : Type} (l : List α) (i : Nat) (f : α → α) : (modAt l i f)[i]? = l[i]?.map f := by
  induction l generalizing i with
  | nil => rfl
  | cons x xs ih =>
    cases i with
    | zero => rfl
    | succ i => exact ih i

/-- R72: the targets of a group. -/
def targetsOf (g : Group) (s : State) : List (Option Target) :=
  match g with
  | .a => s.prot.targetsA
  | .b => s.prot.targetsB

/-- R72: latching a target changes the targets of its group, and the notices. -/
theorem latchTarget_targets (g : Group) (i : Nat) (s : State) :
    targetsOf g (latchTarget g i s) = modAt (targetsOf g s) i fun _ => some ⟨s.intake.count, s.intake.count⟩ := by
  unfold latchTarget
  obtain ⟨r, e⟩ := note_eq .protection (s.modProt _)
  dsimp only
  rw [e]
  cases g <;> rfl

theorem latchTarget_frame (g : Group) (i : Nat) (s : State) : ∃ a b r,
    latchTarget g i s = { s with prot := { s.prot with targetsA := a, targetsB := b }, records := r } := by
  unfold latchTarget
  dsimp only
  obtain ⟨r, e⟩ := note_eq .protection (s.modProt _)
  rw [e]
  cases g
  · exact ⟨_, _, r, rfl⟩
  · exact ⟨_, _, r, rfl⟩

/-- R71: the trigger of an element that operates, from the peaks and phases of its slot. -/
def operateTrigger (g : Group) (i : Nat) (row : ElementRow) (s : State) : Trigger :=
  .element ⟨g, i, row.kind, s.intake.count⟩ row.trip (s.rtSlot i).phases (s.rtSlot i).peaks
    ((s.rtSlot i).pickupIdx.getD s.intake.count)

/-- R65, R69: the slot enters OPERATED with its operate index. -/
def operatedSlot (i : Nat) (s : State) : State :=
  (s.modRt i fun x => { x with state := .operated }).modRt i fun x =>
    { x with operIdx := some s.intake.count, operGroup := some s.prot.active }

/-- R71: the state in which the trigger is taken. -/
def targetLatched (i : Nat) (s : State) : State :=
  latchTarget s.prot.active i (tripsRaised s.prot.active i (s.elemRow s.prot.active i) (operatedSlot i s))

theorem enterOperated_eq (i : Nat) (s : State) : enterOperated i s = publishOutputs
    (takeTrigger (operateTrigger s.prot.active i (s.elemRow s.prot.active i) (targetLatched i s)) (targetLatched i s)) := rfl

theorem operatedSlot_same {i : Nat} {s : State} (hi : i < s.prot.slots.length) : (operatedSlot i s).rtSlot i =
    { s.rtSlot i with state := .operated, operIdx := some s.intake.count, operGroup := some s.prot.active } := by
  unfold operatedSlot
  rw [State.modRt_rtSlot_same _ _ _ (lt_of_lt_of_eq hi (modAt_length _ _ _).symm), State.modRt_rtSlot_same _ _ _ hi]

theorem operatedSlot_other {i j : Nat} (h : j ≠ i) (s : State) : (operatedSlot i s).rtSlot j = s.rtSlot j := by
  unfold operatedSlot
  rw [State.modRt_rtSlot_other _ _ _ _ h, State.modRt_rtSlot_other _ _ _ _ h]

theorem targetLatched_keeps (i : Nat) (s : State) : Keeps s (targetLatched i s) := by
  have operated : Keeps s (operatedSlot i s) := (Keeps.modRt s _ _).trans (.modRt _ _ _)
  have raised := (Keeps.handLockout s.prot.active i (s.elemRow s.prot.active i) (operatedSlot i s)).trans
    (.foldl (fun u n => (Internal.raiseOpen .prot .prot n u).keeps) (s.elemRow s.prot.active i).trip _)
  exact (operated.trans raised).trans (.latchTarget _ _ _)

/-- R71: what stands as the trigger of an element that has operated is taken: `w` is the state with its opens requested. -/
structure Latched (i : Nat) (s w v : State) : Prop where
  arb : v.arb = w.arb
  now : v.now = s.now
  intake : v.intake = s.intake
  meas : v.meas = s.meas
  seqs : v.seqs = s.seqs
  mode : v.mgmt.mode = s.mgmt.mode
  slots : v.prot.slots = (operatedSlot i s).prot.slots
  active : v.prot.active = s.prot.active

theorem targetLatched_latched (i : Nat) (s : State) :
    Latched i s (tripsRaised s.prot.active i (s.elemRow s.prot.active i) (operatedSlot i s)) (targetLatched i s) := by
  have outside := OutsideTrip.tripsRaised s.prot.active i (s.elemRow s.prot.active i) (operatedSlot i s)
  unfold targetLatched
  generalize tripsRaised s.prot.active i (s.elemRow s.prot.active i) (operatedSlot i s) = w at outside
  obtain ⟨a, b, r, frame⟩ := latchTarget_frame s.prot.active i w
  rw [frame]
  have slots : w.prot.slots = (operatedSlot i s).prot.slots := by rw [outside.prot]
  have active : w.prot.active = (operatedSlot i s).prot.active := by rw [outside.prot]
  exact ⟨rfl, outside.now, outside.intake, outside.meas, outside.seqs, outside.mode, slots, active⟩

theorem targetLatched_targets (i : Nat) (s : State) : targetsOf s.prot.active (targetLatched i s) =
    modAt (targetsOf s.prot.active s) i fun _ => some ⟨s.intake.count, s.intake.count⟩ := by
  have outside := OutsideTrip.tripsRaised s.prot.active i (s.elemRow s.prot.active i) (operatedSlot i s)
  have targets : ∀ g, targetsOf g (tripsRaised s.prot.active i (s.elemRow s.prot.active i) (operatedSlot i s)) =
      targetsOf g s := fun g => by
    unfold targetsOf
    rw [outside.prot]
    rfl
  unfold targetLatched
  rw [latchTarget_targets, targets, outside.intake]
  rfl

/-- R71, R74, R75: past its target, an element that operates touches the records and the outputs only. -/
theorem enterOperated_frame (i : Nat) {s : State} (safe : s.Safe) : ∃ b1 b2 ops r x,
    r.queue = (takeTrigger (operateTrigger s.prot.active i (s.elemRow s.prot.active i) (targetLatched i s))
      (targetLatched i s)).records.queue ∧
    enterOperated i s =
      { targetLatched i s with
        prot := { (targetLatched i s).prot with block1 := b1, block2 := b2, operated := ops }, records := r, free := x } := by
  rw [enterOperated_eq, takeTrigger_frame _ (targetLatched_keeps i s safe).records]
  exact ⟨_, _, _, _, _, rfl, rfl⟩

/-- R65, R67, R69: an element whose operation is due enters OPERATED. -/
theorem exec_operate {c : Instr} {i : Nat} {s : State} (hs : s.inService = true)
    (he : (s.elemRow s.prot.active i).enabled = true) (ht : (s.rtSlot i).state = .timing)
    (hc : c = .tocOperate i ∧ (s.elemRow s.prot.active i).kind = .toc ∧ (s.rtSlot i).acc = 1000000 ∨
      c = .definiteTimeOperate i ∧ (s.elemRow s.prot.active i).kind ≠ .toc ∧
        delayOf s (s.elemRow s.prot.active i) ≤ (s.rtSlot i).acc) : exec c s = .next (finish (enterOperated i s)) := by
  rcases hc with ⟨rfl, hk, ha⟩ | ⟨rfl, hk, ha⟩
  · have due : tocOperateDue s i = true := by
      simp only [tocOperateDue, hs, he, ht, hk, ha, fullScale, decide_true, Bool.and_self]
    exact congrArg Host.Outcome.next (if_pos due)
  · have due : definiteOperateDue s i = true := by
      simp only [definiteOperateDue, hs, he, ht, hk, ha, ne_eq, not_false_eq_true, decide_true, Bool.and_self]
    exact congrArg Host.Outcome.next (if_pos due)

/-- Settles O26: the lockouts are set before the opens are requested and stay set through them, each open stays in service
through the requests after it, and neither the target, the trigger nor the outputs touch the Arbiter. -/
theorem elementOperates : Obligations.ElementOperates := by
  unfold Obligations.ElementOperates
  refine ⟨fun c i s safe hi hs he ht hc => ⟨enterOperated i s, exec_operate hs he ht hc, ?_⟩, fun i s safe hi hr ha => ?_⟩
  · have latched := targetLatched_latched i s
    have entry : (targetsOf s.prot.active (targetLatched i s))[i]? =
        (targetsOf s.prot.active s)[i]?.map fun _ => some ⟨s.intake.count, s.intake.count⟩ := by
      rw [targetLatched_targets, modAt_getElem?]
    have rt : ∀ j, (targetLatched i s).rtSlot j = (operatedSlot i s).rtSlot j := fun j => by
      simp only [State.rtSlot, latched.slots]
    have same := operatedSlot_same (s := s) (safe.elements ▸ hi)
    have trigger : operateTrigger s.prot.active i (s.elemRow s.prot.active i) (targetLatched i s) =
        .element ⟨s.prot.active, i, (s.elemRow s.prot.active i).kind, s.intake.count⟩ (s.elemRow s.prot.active i).trip
          (s.rtSlot i).phases (s.rtSlot i).peaks ((s.rtSlot i).pickupIdx.getD s.intake.count) := by
      unfold operateTrigger
      rw [rt, same, latched.intake]
    have size : ∀ n, n < 25 → n < (operatedSlot i s).arb.slots.length := fun n hn => lt_of_lt_of_eq hn safe.slots.symm
    obtain ⟨b1, b2, ops, r, x, queue, frame⟩ := enterOperated_frame i safe
    rw [trigger] at queue
    rw [frame]
    refine ⟨(rt i).trans same, fun j hj => (rt j).trans (operatedSlot_other hj s), latched.active, entry,
      fun n mem hn hp h => ?_, fun b hb => ?_, fun hb n mem hn => ?_, latched.intake, latched.meas, latched.seqs,
      targetLatched i s, rfl, latched.seqs, latched.intake, latched.now, latched.mode, queue⟩
    · exact (tripsRaised_tripped (size n hn) mem hp h).of_order (congrArg ArbSlot.order (State.slot_of_arb latched.arb n))
    · exact (congrArg Lockout.isSet (busLock_of_arb latched.arb b)).trans (tripsRaised_busLock hb)
    · exact (congrArg (fun a : ArbSlot => a.lock.isSet) (State.slot_of_arb latched.arb n)).trans
        (tripsRaised_lock hb mem (size n hn))
  · have due : resetEndDue s i = true := by simp only [resetEndDue, hr, ha, decide_true, Bool.and_self]
    have same : (s.modRt i fun _ => {}).rtSlot i = {} := State.modRt_rtSlot_same s i _ (safe.elements ▸ hi)
    refine ⟨s.modRt i fun _ => {}, congrArg Host.Outcome.next (if_pos due), rfl, ?_, ?_, ?_,
      fun j hj => State.modRt_rtSlot_other s i j _ hj, rfl⟩ <;> rw [same]

end Sys2Proof.Machine
end

section
/-!
ENTER_CONFIG (O55): what parking, the end of the closes, the grant and the unload each leave, and that nothing after them
undoes it.
-/

namespace Sys2Proof.Machine

/-! ## The part states -/

theorem inService_iff {s : State} : s.inService = true ↔ ∃ starting, s.mgmt.part = .service starting := by
  unfold State.inService
  cases s.mgmt.part <;> simp

theorem inConfig_iff {s : State} : s.inConfig = true ↔ ∃ fromService, s.mgmt.part = .config fromService := by
  unfold State.inConfig
  cases s.mgmt.part <;> simp

/-- Internal acts end STARTING and change no other part state. -/
theorem Internal.part {s t : State} (h : Internal s t) {c : Bool} (hc : s.mgmt.part = .config c) :
    t.mgmt.part = .config c := by
  rcases h.outside.part with e | ⟨e, _⟩
  · exact e.trans hc
  · rw [hc] at e
    cases e

theorem setPart_frame (p : PartState) (s : State) :
    ∃ r, setPart p s = { s with mgmt := { s.mgmt with part := p }, records := r } := note_eq _ _

/-! ## The Protection Unit -/

theorem handCleared_frame (g : Group) (c : Nat → Bool) (s : State) : ∃ r, handCleared g c s = { s with records := r } := by
  have all : ∀ (l : List Nat) (s : State), ∃ r, l.foldl (fun s i =>
      if c i && indicates (s.rtSlot i) then handPeaks g i (s.rtSlot i) s else s) s = { s with records := r } := fun l => by
    induction l with
    | nil => exact fun s => ⟨_, rfl⟩
    | cons i l ih =>
      intro s
      rw [List.foldl_cons]
      split
      · exact ih (handPeaks g i (s.rtSlot i) s)
      · exact ih s
  exact all _ s

/-- R80: the Protection Unit as CONFIG is entered, and the records. -/
theorem protConfig_frame (s : State) : ∃ r, protConfig s =
    { s with
      prot := { clearSlots s.prot with active := s.prot.pendingGroup.getD s.prot.active, pendingGroup := none }
      records := r } := by
  obtain ⟨r, cleared⟩ := handCleared_frame s.prot.active (fun _ => true) s
  unfold protConfig
  rw [cleared]
  dsimp only
  split
  · exact note_eq _ _
  · exact ⟨r, rfl⟩

/-! ## The sequencers are parked -/

/-- R134, R138: `t` comes from `s` by acts of sequencer `q` that take no claim. -/
structure SeqActs (q : SeqId) (s t : State) : Prop where
  other : onlySeq q s t
  claim : t.seqs.claim = s.seqs.claim ∨ t.seqs.claim = none

theorem SeqActs.refl (q : SeqId) (s : State) : SeqActs q s s := ⟨rfl, .inl rfl⟩

theorem SeqActs.trans {q : SeqId} {s t u : State} (h : SeqActs q s t) (k : SeqActs q t u) : SeqActs q s u := by
  refine ⟨Eq.trans k.other h.other, ?_⟩
  rcases k.claim with e | e
  · rw [e]
    exact h.claim
  · exact .inr e

theorem State.seq_of_seqs {s t : State} (h : t.seqs = s.seqs) (q : SeqId) : t.seq q = s.seq q := by
  unfold State.seq
  rw [h]

theorem SeqActs.of_seqs {s t : State} (q : SeqId) (h : t.seqs = s.seqs) : SeqActs q s t :=
  ⟨State.seq_of_seqs h _, .inl (by rw [h])⟩

theorem SeqActs.modSeq (q : SeqId) (f : Seq → Seq) (s : State) : SeqActs q s (s.modSeq q f) :=
  ⟨State.modSeq_seq_other s q f, .inl (State.modSeq_claim s q f)⟩

theorem SeqActs.note (q : SeqId) (c : NoticeClass) (s : State) : SeqActs q s (note c s) :=
  .of_seqs q (BesideArb.note c s).seqs

theorem SeqActs.when {q : SeqId} {s t : State} {c : Prop} [Decidable c] (h : SeqActs q s t) :
    SeqActs q s (if c then s else t) := by
  split
  · exact .refl q s
  · exact h

theorem SeqActs.withdrawSeqClose (q : SeqId) (s : State) : SeqActs q s (withdrawSeqClose q s) := by
  unfold Machine.withdrawSeqClose
  dsimp only
  refine SeqActs.trans ?_ (.modSeq q _ _)
  split
  · split
    · exact .of_seqs q (Quiet.withdrawOwn _ _ _).seqs
    · exact .refl q s
  · exact .refl q s

theorem SeqActs.enterParked (q : SeqId) (s : State) : SeqActs q s (enterParked q s) :=
  ((((SeqActs.withdrawSeqClose q s).trans (.when ((SeqActs.modSeq q _ _).trans (.note q _ _)))).trans (.modSeq q _ _)).trans
    (.when ((SeqActs.modSeq q _ _).trans (.note q _ _)))).trans (.when ((SeqActs.modSeq q _ _).trans (.note q _ _)))

theorem setPendingPark_seq (q : SeqId) (b : Bool) (s : State) : ((setPendingPark q b s).seq q).pendingPark = b := by
  unfold setPendingPark
  split
  case isTrue h => exact h
  case isFalse =>
    rw [State.seq_of_seqs (BesideArb.note _ _).seqs]
    cases q <;> rfl

theorem setSeqState_seq (q : SeqId) (st : SeqState) (s : State) :
    ((setSeqState q st s).seq q).state = st ∧ ((setSeqState q st s).seq q).pendingPark = (s.seq q).pendingPark := by
  unfold setSeqState
  split
  case isTrue h => exact ⟨h, rfl⟩
  case isFalse =>
    rw [State.seq_of_seqs (BesideArb.note _ _).seqs]
    cases q <;> exact ⟨rfl, rfl⟩

theorem enterParked_seq (q : SeqId) (s : State) :
    ((enterParked q s).seq q).state = .parked ∧ ((enterParked q s).seq q).pendingPark = false := by
  obtain ⟨state, park⟩ := setSeqState_seq q .parked (setPendingPark q false
    ((setReady q false (withdrawSeqClose q s)).modSeq q fun x => { stopTimers x with inhibitHold := false }))
  exact ⟨state, park.trans (setPendingPark_seq q false _)⟩

theorem releaseClaim_seqs (q : SeqId) (s : State) : (releaseClaim q s).seqs.claim ≠ some q ∧
    ((releaseClaim q s).seqs.claim = s.seqs.claim ∨ (releaseClaim q s).seqs.claim = none) ∧
    ∀ p, (releaseClaim q s).seq p = s.seq p := by
  unfold releaseClaim
  split
  case isTrue =>
    have seqs := (BesideArb.note .sequencer (s.modSeqs fun x => { x with claim := none })).seqs
    refine ⟨by rw [seqs]; exact nofun, .inr (by rw [seqs]; rfl), fun p => (State.seq_of_seqs seqs p).trans ?_⟩
    cases p <;> rfl
  case isFalse h => exact ⟨h, .inl rfl, fun _ => rfl⟩

/-! ## The end of the unload -/

theorem BesideArb.endUnload (s : State) : BesideArb s (endUnload s) := by
  unfold Machine.endUnload
  split
  · exact .refl s
  · refine ((BesideArb.modPar s _).trans (.note _ _)).trans (.foldl (fun u k => ?_) _ _)
    exact .ite (.setGenState _ _ u) (.refl u)

theorem BesideArb.endUnloadOf (q : SeqId) (s : State) : BesideArb s (endUnloadOf q s) := by
  unfold Machine.endUnloadOf
  split
  · exact .ite (.endUnload s) (.refl s)
  · exact .refl s

theorem note_par (c : NoticeClass) (s : State) : (note c s).par = s.par := by
  obtain ⟨r, e⟩ := note_eq c s
  rw [e]

/-- A generator's state is not among what the grant and the unload hold. -/
theorem setGenState_par (k : Nat) (st : GenState) (s : State) :
    (setGenState k st s).par.grant = s.par.grant ∧ (setGenState k st s).par.unload = s.par.unload := by
  unfold setGenState
  split
  · exact ⟨rfl, rfl⟩
  · rw [note_par]
    unfold State.modGen
    split
    · exact ⟨rfl, rfl⟩
    · exact ⟨rfl, rfl⟩

/-- R158: the end of the unload leaves no unload and the grant as it was. -/
theorem endUnload_par (s : State) : (endUnload s).par.unload = none ∧ (endUnload s).par.grant = s.par.grant := by
  have all : ∀ (l : List Nat) (u : State),
      (l.foldl (fun s k => if (s.gen k).state = .unloading then setGenState k .online s else s) u).par.grant = u.par.grant ∧
      (l.foldl (fun s k => if (s.gen k).state = .unloading then setGenState k .online s else s) u).par.unload =
        u.par.unload := fun l => by
    induction l with
    | nil => exact fun u => ⟨rfl, rfl⟩
    | cons k l ih =>
      intro u
      rw [List.foldl_cons]
      obtain ⟨grant, unload⟩ := ih (if (u.gen k).state = .unloading then setGenState k .online u else u)
      rw [grant, unload]
      split
      · exact setGenState_par k .online u
      · exact ⟨rfl, rfl⟩
  unfold endUnload
  split
  case h_1 h => exact ⟨h, rfl⟩
  case h_2 =>
    dsimp only
    generalize allGens = l
    obtain ⟨grant, unload⟩ := all l (note .generator (s.modPar fun p => { p with unload := none }))
    exact ⟨unload.trans (by rw [note_par]; rfl), grant.trans (by rw [note_par]; rfl)⟩

theorem releaseGrant_grant (s : State) : (releaseGrant s).par.grant = none := by
  unfold releaseGrant
  split
  case isTrue h => exact Option.isNone_iff_eq_none.1 h
  case isFalse => rw [note_par]; rfl

theorem BesideArb.releaseGrant (s : State) : BesideArb s (releaseGrant s) :=
  .ite (.refl s) ((BesideArb.modPar s _).trans (.note _ _))

/-! ## Both sequencers -/

/-- R138: a sequencer that CONFIG forces to PARKED. -/
structure ForcedPark (q : SeqId) (s t : State) : Prop where
  acts : SeqActs q s t
  state : (t.seq q).state = .parked
  pendingPark : (t.seq q).pendingPark = false
  released : t.seqs.claim ≠ some q

theorem configPark_forced (q : SeqId) (s : State) : ForcedPark q s (configPark q s) := by
  obtain ⟨state, park⟩ := enterParked_seq q s
  obtain ⟨released, claim, kept⟩ := releaseClaim_seqs q (enterParked q s)
  have seqs : (configPark q s).seqs = (releaseClaim q (enterParked q s)).seqs := (BesideArb.endUnloadOf q _).seqs
  have seq : (configPark q s).seq q = (enterParked q s).seq q := (State.seq_of_seqs seqs q).trans (kept q)
  refine ⟨((SeqActs.enterParked q s).trans ⟨kept _, claim⟩).trans (.of_seqs q seqs), ?_, ?_, ?_⟩
  · rw [seq]
    exact state
  · rw [seq]
    exact park
  · rw [seqs]
    exact released

/-- R138: both sequencers are PARKED, with no park pending and the claim released. -/
theorem parkBoth_seqs (s : State) : (∀ q, ((parkBoth s).seq q).state = .parked ∧ ((parkBoth s).seq q).pendingPark = false) ∧
    (parkBoth s).seqs.claim = none := by
  have one := configPark_forced .seq1 s
  have two : ForcedPark .seq2 (configPark .seq1 s) (parkBoth s) := configPark_forced .seq2 _
  have kept : (parkBoth s).seq .seq1 = (configPark .seq1 s).seq .seq1 := two.acts.other
  refine ⟨fun q => ?_, ?_⟩
  · cases q with
    | seq1 => rw [kept]; exact ⟨one.state, one.pendingPark⟩
    | seq2 => exact ⟨two.state, two.pendingPark⟩
  · rcases two.acts.claim with e | e
    · cases hc : (parkBoth s).seqs.claim with
      | none => rfl
      | some q =>
        cases q with
        | seq1 => exact absurd (e.symm.trans hc) one.released
        | seq2 => exact absurd hc two.released
    · exact e

/-! ## The closes leave service -/

/-- R108: no close is in service on slot `n`. -/
def NoClose (n : Nat) (s : State) : Prop := ∀ o, (s.slot n).order = some o → o.type = .opn

/-- R91: a close that ends leaves its slot without an order. -/
theorem endClose_noClose (n : Nat) (t : Told) (s : State) : NoClose n (endClose n t s) := by
  cases ho : (s.slot n).order with
  | none =>
    have same : endClose n t s = s := by
      unfold endClose
      rw [ho]
    rw [same]
    exact fun o h => absurd (ho.symm.trans h) nofun
  | some o =>
    unfold endClose
    rw [ho]
    dsimp only
    split
    case h_1 ht => exact fun x h => Option.some.inj (ho.symm.trans h) ▸ ht
    case h_2 =>
      have gone : ((leaveService n t s).slot n).order = none := by
        rw [(leaveService_left t (slot_lt_of_order ho) ho).slot]
        rfl
      split
      · have sent : ((startWithdraw n o.tag (causeOf o.causes) (leaveService n t s)).slot n).order = none := by
          unfold startWithdraw
          rw [State.slot_of_arb (sendFrame_arb _ _ _ _ _)]
          refine (State.modSlot_slot_reading ArbSlot.order ?_ _ n n).trans gone
          exact fun _ => rfl
        exact fun x h => absurd (sent.symm.trans h) nofun
      · exact fun x h => absurd (gone.symm.trans h) nofun

theorem withdrawAllCloses_noClose {n : Nat} {s : State} (hn : n < 25) : NoClose n (withdrawAllCloses s) := by
  refine foldl_establishes (pre := fun _ => True) (post := NoClose n) (fun _ _ _ => trivial) (fun u m h => ?_)
    (fun u _ => endClose_noClose n .withdrawn u) (mem_allSlots.2 hn) trivial
  by_cases e : n = m
  · exact e ▸ endClose_noClose n .withdrawn u
  · unfold NoClose
    rw [(OrderActs.endClose m .withdrawn u).others n e]
    exact h

theorem withdrawAllCloses_seqs (s : State) : (withdrawAllCloses s).seqs = s.seqs :=
  (Quiet.foldl (fun u n => .endClose n .withdrawn u) allSlots s).seqs

/-! ## Entry to CONFIG -/

/-- R80, R181: the state of an entry from SERVICE before the sequencers are parked. -/
def configBegun (s : State) : State :=
  protConfig (setPart (.config true) (s.modMgmt fun m => { m with edit := some s.tbl }))

/-- R181: the state of an entry from SERVICE before its messages are delivered. -/
def configEntry (s : State) : State := endUnload (releaseGrant (withdrawAllCloses (parkBoth (configBegun s))))

theorem configBegun_frame (s : State) : ∃ r, configBegun s =
    { s with
      mgmt := { s.mgmt with edit := some s.tbl, part := .config true }
      prot := { clearSlots s.prot with active := s.prot.pendingGroup.getD s.prot.active, pendingGroup := none }
      records := r } := by
  obtain ⟨r, part⟩ := setPart_frame (.config true) (s.modMgmt fun m => { m with edit := some s.tbl })
  unfold configBegun
  rw [part]
  exact protConfig_frame _

theorem configEntry_internal (s : State) : Internal (configBegun s) (configEntry s) :=
  (((Internal.parkBoth _).trans (.withdrawAllCloses _)).trans (.releaseGrant _)).trans (.endUnload _)

theorem configEntry_beside (s : State) : BesideArb (withdrawAllCloses (parkBoth (configBegun s))) (configEntry s) :=
  (BesideArb.releaseGrant _).trans (.endUnload _)

theorem configEntry_seqs (s : State) : (configEntry s).seqs = (parkBoth (configBegun s)).seqs :=
  (configEntry_beside s).seqs.trans (withdrawAllCloses_seqs _)

theorem configEntry_noClose {s : State} (hlen : s.arb.slots.length = 25) (n : Nat) : NoClose n (configEntry s) := by
  intro o ho
  have size : (configEntry s).arb.slots.length = 25 := by
    obtain ⟨r, frame⟩ := configBegun_frame s
    rw [(configEntry_internal s).slots, frame]
    exact hlen
  refine withdrawAllCloses_noClose (s := parkBoth (configBegun s)) (n := n) (size ▸ slot_lt_of_order ho) o ?_
  rw [← (configEntry_beside s).slot]
  exact ho

theorem configEntry_par (s : State) : (configEntry s).par.grant = none ∧ (configEntry s).par.unload = none := by
  unfold configEntry
  obtain ⟨unload, grant⟩ := endUnload_par (releaseGrant (withdrawAllCloses (parkBoth (configBegun s))))
  exact ⟨grant.trans (releaseGrant_grant _), unload⟩

theorem enterConfig_inConfig {s : State} (h : s.inConfig = true) : enterConfig s = s := by
  obtain ⟨c, hc⟩ := inConfig_iff.1 h
  unfold enterConfig
  rw [hc]

theorem enterConfig_unconfigured {s : State} (h : s.mgmt.part = .unconfigured) : enterConfig s = finish (parkBoth
    (setPart (.config false) (s.modMgmt fun m => { m with edit := some Tables.fresh }))) := by
  unfold enterConfig
  rw [h]
  rfl

theorem enterConfig_inService {s : State} (h : s.inService = true) : enterConfig s = finish (configEntry s) := by
  obtain ⟨b, hb⟩ := inService_iff.1 h
  unfold enterConfig
  rw [hb]
  rfl

/-- Settles O55, by the part state: each effect is made by one act of the entry and kept by those after it. -/
theorem configEntered : Obligations.ConfigEntered := by
  unfold Obligations.ConfigEntered
  intro r rest s safe taken s'
  have run : exec .enterConfig s = .next (settleQueue (answerDone r (enterConfig s'))) :=
    congrArg Host.Outcome.next (takeKind_taken taken _)
  refine ⟨fun h => ?_, fun h => ?_, fun h => ?_⟩
  · rw [run, enterConfig_inConfig (s := s') h]
  · obtain ⟨records, part⟩ := setPart_frame (.config false) (s'.modMgmt fun m => { m with edit := some Tables.fresh })
    have parked := Internal.parkBoth (setPart (.config false) (s'.modMgmt fun m => { m with edit := some Tables.fresh }))
    rw [run, enterConfig_unconfigured (s := s') h]
    rw [part] at parked ⊢
    exact ⟨_, rfl, parked.part rfl, congrArg Mgmt.edit parked.outside.mgmt, parked.outside.nv, parked.outside.station⟩
  · obtain ⟨records, frame⟩ := configBegun_frame s'
    obtain ⟨seqs, claim⟩ := parkBoth_seqs (configBegun s')
    have entered := configEntry_internal s'
    have kept := configEntry_seqs s'
    obtain ⟨grant, unload⟩ := configEntry_par s'
    rw [frame] at entered
    have image : (configEntry s').mgmt.image = s.mgmt.image := entered.outside.image
    refine ⟨configEntry s', by rw [run, enterConfig_inService (s := s') h], entered.part rfl,
      congrArg Mgmt.edit entered.outside.mgmt, ?_, entered.outside.mode, fun q => ?_, ?_,
      configEntry_noClose (s := s') safe.slots,
      grant, unload, ?_, congrArg Prot.pendingGroup entered.outside.prot,
      congrArg Prot.active entered.outside.prot, entered.outside.intake, entered.outside.meas, entered.outside.nv⟩
    · unfold State.tbl
      rw [image]
    · rw [State.seq_of_seqs kept]
      exact seqs q
    · rw [kept]
      exact claim
    · rw [entered.outside.prot]
      exact fun x hx => congrArg RtSlot.state (List.eq_of_mem_replicate hx)

end Sys2Proof.Machine
end

section
/-!
The times of a slot (O28, O30): what a frame changes, and each repeat and each expiry by the one slot it concerns.
-/

namespace Sys2Proof.Machine

/-! ## What a frame changes -/

/-- R8: a frame directed to a port changes the Link Unit, by what the Link Unit holds. -/
theorem enqueue_of_link {s t : State} (h : t.link = s.link) (p : Port) (q : Egress) (f : QFrame) :
    enqueue p q f t = { t with link := (enqueue p q f s).link } := by
  unfold enqueue
  rw [h]
  split
  · simp only [State.modLink, h]
  · rw [← h]

/-- R10: so does a frame that the part originates. -/
theorem originate_of_link {s t : State} (h : t.link = s.link) (d : Nat) (x : OwnPayload) :
    originate d x t = { t with link := (originate d x s).link } := by
  unfold originate
  rw [h]
  split
  · rw [← h]
  · rw [enqueue_of_link (s := enqueue .p1 _ _ s) (by rw [enqueue_of_link h]), enqueue_of_link h]

theorem brk_of_image {s t : State} (h : t.mgmt.image = s.mgmt.image) (n : Nat) : t.brk n = s.brk n := by
  simp only [State.brk, State.tbl, h]

/-- R88: after internal acts that send nothing, an ORDER frame does to the Link Unit what it would have done before them. -/
theorem sendFrame_after {s t : State} (h : Internal s t) (link : t.link = s.link) (n : Nat) (c : OrderCode) (tag : Nat)
    (x : Source) : sendFrame n c tag x t = { t with link := (sendFrame n c tag x s).link } := by
  unfold sendFrame
  rw [h.outside.mode, brk_of_image h.outside.image]
  split
  · exact originate_of_link link _ _
  · rw [← link]

theorem sendOrder_of_order {n : Nat} {o : Order} {s : State} (h : (s.slot n).order = some o) :
    sendOrder n s = sendFrame n (codeOf o.type) o.tag (causeOf o.causes) s := by
  unfold sendOrder
  rw [h]

/-! ## Repeats (R88, R97) -/

/-- R97: a withdraw in progress after one more of its sends. -/
def sentAgain (w : Withdraw) : Option Withdraw :=
  if w.remaining ≤ 1 then none else some { w with remaining := w.remaining - 1, next := w.next + 10000 }

theorem resendWithdraw_eq {n : Nat} {w : Withdraw} {s : State} (h : (s.slot n).withdraw = some w) : resendWithdraw n s =
    sendFrame n .withdraw w.tag w.cause (s.modSlot n fun a => { a with withdraw := sentAgain w }) := by
  unfold resendWithdraw
  rw [h]
  rfl

/-- Settles O28: the repeat moves on the time of the order or of the withdraw, and the frame is built after it. -/
theorem ordersAndWithdrawsRepeat : Obligations.OrdersAndWithdrawsRepeat := by
  refine ⟨fun n o s safe hn ho hi hd => ?_, fun n w s safe hn hw hd => ?_⟩
  · have slot := State.modSlot_slot_same s n
      (fun a => { a with order := a.order.map fun o => { o with nextRepeat := o.nextRepeat + ms 10 } }) (safe.slots ▸ hn)
    have order := (congrArg ArbSlot.order slot).trans (congrArg (Option.map _) ho)
    refine ⟨_, order, (SlotActs.modSlot n _ s).slots, rfl, congrArg Host.Outcome.next ?_⟩
    refine (if_pos (repeatDue_iff.2 ⟨o, ho, hi, hd⟩)).trans ((sendOrder_of_order order).trans ?_)
    rfl
  · exact ⟨_, rfl, (SlotActs.modSlot n _ s).slots, State.modSlot_slot_same s n _ (safe.slots ▸ hn),
      congrArg Host.Outcome.next ((if_pos (withdrawDue_iff.2 ⟨w, hw, hd⟩)).trans (resendWithdraw_eq hw))⟩

/-! ## The times of a position, a window and a line (R86, R98, R106) -/

theorem exec_whenDue {due : Bool} {act : State → State} {s : State} (h : due = true) :
    whenDue due act s = finish (act s) := if_pos h

theorem SlotActs.silencePosition (n : Nat) (s : State) : SlotActs n s (silencePosition n s) :=
  ((SlotActs.setRealPos n .unknown s).trans (.ite ((BesideArb.note _ _).slotActs n) (.refl n _))).trans (.modSlot n _ _)

theorem silencePosition_slot {n : Nat} {s : State} (hn : n < s.arb.slots.length) : (silencePosition n s).slot n =
    { s.slot n with
      position := .unknown, prevPair := none, acceptedPair := none, lastFrame := none, travelAt := none
      localCtl := false, ready := false } := by
  have size : n < (setRealPos n .unknown s).arb.slots.length := by rw [(Internal.setRealPos n .unknown s).slots]; exact hn
  have noted : BesideArb (setRealPos n .unknown s) (if (s.slot n).localCtl = true ∨ (s.slot n).ready = true then
      note .position (setRealPos n .unknown s) else setRealPos n .unknown s) := .ite (.note _ _) (.refl _)
  unfold silencePosition
  dsimp only
  rw [State.modSlot_slot_same _ _ _ (noted.arb ▸ size), noted.slot, setRealPos_slot hn]
  unfold movedTo
  split
  case isTrue h => rw [← h]
  case isFalse => rfl

/-- Settles O30: each expiry acts on its own slot where its time has come, and nowhere before. -/
theorem slotTimesExpire : Obligations.SlotTimesExpire := by
  refine ⟨fun n t s safe hn => ?_, fun n t s safe hn => ?_⟩ <;> have size : n < s.arb.slots.length := safe.slots ▸ hn
  · refine ⟨fun hp ht hd => ?_, fun hp hf hd => ?_⟩
    · refine ⟨_, congrArg Host.Outcome.next (exec_whenDue (travelDue_iff.2 ⟨hp, t, ht, hd⟩)),
        (SlotActs.setRealPos n .faulty s).slots, (Internal.setRealPos n .faulty s).outside, ?_⟩
      rw [setRealPos_slot size]
      exact if_neg (by rw [hp]; decide)
    · exact ⟨_, congrArg Host.Outcome.next (exec_whenDue (silenceDue_iff.2 ⟨hp, t, hf, hd⟩)),
        (SlotActs.silencePosition n s).slots, (Internal.silencePosition n s).outside, silencePosition_slot size⟩
  · refine ⟨fun k hw => ⟨fun hd => ?_, fun hd => ?_⟩, fun hl => ⟨fun hd hq => ?_, fun hb => ?_⟩⟩
    · exact ⟨_, congrArg Host.Outcome.next (if_pos (windowDue_iff.2 ⟨k, t, hw, hd⟩)), rfl, (SlotActs.modSlot n _ s).slots,
        State.modSlot_slot_same s n _ size⟩
    · refine congrArg Host.Outcome.next (if_neg fun h => ?_)
      obtain ⟨k', t', hw', hd'⟩ := windowDue_iff.1 h
      cases hw.symm.trans hw'
      exact absurd hd' (Nat.not_le.2 hd)
    · exact ⟨_, congrArg Host.Outcome.next (if_pos (lineReleasable_iff.2 ⟨t, hl, hd, hq⟩)), rfl,
        (SlotActs.modSlot n _ s).slots, State.modSlot_slot_same s n _ size⟩
    · refine congrArg Host.Outcome.next (if_neg fun h => ?_)
      obtain ⟨t', hl', hd', hq⟩ := lineReleasable_iff.1 h
      cases hl.symm.trans hl'
      rcases hb with early | ⟨o, ho, ht, cause⟩
      · exact absurd hd' (Nat.not_le.2 early)
      · obtain ⟨noProt, noBft⟩ := hq o ho ht
        exact cause.elim noProt noBft

end Sys2Proof.Machine
end

section
/-!
RESET_LOCKOUT (O34): when a setter is active, and what a reported change of a lockout leaves.
-/

namespace Sys2Proof.Machine

/-! ## RESET_LOCKOUT (R105) -/

theorem setterActive_iff {s : State} {x : Setter} : setterActive s x = true ↔ (match x with
    | .element _ row => (s.prot.operated.getD row none).isSome = true
    | .bf m => (s.slot m).bf = .timing ∨ (s.slot m).bf = .operated) := by
  cases x with
  | element g row => exact Iff.rfl
  | bf m => simp only [setterActive, decide_eq_true_eq]; cases (s.slot m).bf <;> decide

theorem anyActive_iff {s : State} {l : Lockout} : anyActive s l = true ↔ ∃ x ∈ l.setters, setterActive s x = true :=
  List.any_eq_true

/-- R104: a changed lockout is being written, or waits for the write in progress. -/
theorem writeLockouts_written (s : State) :
    (writeLockouts s).nv.storeWrite = some (lockoutsInForce s) ∨ (writeLockouts s).nv.storeWaiting = true := by
  unfold writeLockouts
  simp only [State.modNv_nv]
  split
  · exact .inr rfl
  · exact .inl rfl

/-- R103, R104: what a reported change of a lockout leaves besides the lockouts. -/
structure ChangeReported (s t : State) : Prop where
  frame : t = { s with nv := t.nv, records := t.records }
  written : t.nv.storeWrite = some (lockoutsInForce t) ∨ t.nv.storeWaiting = true
  noticed : s.siteInForce = true → noticeEnabled s .lockout = true → .lockout ∈ t.records.pendingNotices

theorem lockoutChanged_reported (s : State) : ChangeReported s (lockoutChanged s) := by
  have noticed := mem_pending_note (c := .lockout) (s := writeLockouts s)
  have written := writeLockouts_written s
  unfold lockoutChanged
  obtain ⟨r, e⟩ := note_eq .lockout (writeLockouts s)
  rw [e] at noticed ⊢
  exact ⟨rfl, written, noticed⟩

/-- R105: a reset finds the lockout not set, held by an active setter, or free to be cleared. -/
theorem resetSlotLockout_cases (r : Request) (n : Nat) (s : State) :
    ((s.slot n).lock.isSet = false → resetSlotLockout r n s = answerDone r s) ∧
    ((s.slot n).lock.isSet = true → anyActive s (s.slot n).lock = true → resetSlotLockout r n s = refuse r .busy s) ∧
    ((s.slot n).lock.isSet = true → anyActive s (s.slot n).lock = false →
      resetSlotLockout r n s = answerDone r (lockoutChanged (s.modSlot n fun a => { a with lock := {} }))) := by
  unfold resetSlotLockout
  dsimp only
  refine ⟨fun h => if_pos h, fun h ha => ?_, fun h ha => ?_⟩
  · rw [h, ha]; rfl
  · rw [h, ha]; rfl

theorem resetBusLockout_cases (r : Request) (b : Bus) (s : State) :
    ((s.busLock b).isSet = false → resetBusLockout r b s = answerDone r s) ∧
    ((s.busLock b).isSet = true → anyActive s (s.busLock b) = true → resetBusLockout r b s = refuse r .busy s) ∧
    ((s.busLock b).isSet = true → anyActive s (s.busLock b) = false → resetBusLockout r b s =
      answerDone r (finish ((lockoutChanged (s.setBusLock b {})).post (.busLockCleared b)))) := by
  unfold resetBusLockout
  dsimp only
  refine ⟨fun h => if_pos h, fun h ha => ?_, fun h ha => ?_⟩
  · rw [h, ha]; rfl
  · rw [h, ha]; rfl

theorem setBusLock_frame (s : State) (b : Bus) (l : Lockout) : ∃ a, s.setBusLock b l = { s with arb := a } := by
  cases b <;> exact ⟨_, rfl⟩

/-- Settles O34: the three cases of a reset, and what the clearing of a lockout changes. -/
theorem resetLockoutBySetters : Obligations.ResetLockoutBySetters := by
  refine ⟨fun p => by rcases p with _ | _ | c | c <;> simp [takenNow, takenIn], fun r rest s safe taken => ?_⟩
  intro s' active written
  have run : ∀ {t}, actResetLockout r s' = t → exec .resetLockout s = .next (settleQueue t) := fun h =>
    congrArg Host.Outcome.next ((takeKind_taken taken _).trans (congrArg settleQueue h))
  have held : ∀ {l : Lockout}, anyActive s' l = true ↔ ∃ x ∈ l.setters, active x := anyActive_iff.trans
    (exists_congr fun x => and_congr_right fun _ => setterActive_iff (s := s').trans (by cases x <;> exact Iff.rfl))
  have free : ∀ {l : Lockout}, (∀ x ∈ l.setters, ¬active x) → anyActive s' l = false := fun h =>
    Bool.eq_false_iff.2 fun ha => by
      obtain ⟨x, hx, hactive⟩ := held.1 ha
      exact h x hx hactive
  refine ⟨fun n harg => ?_, fun b harg => ?_⟩
  · have act : actResetLockout r s' = resetSlotLockout r n s' := by unfold actResetLockout; rw [harg]
    obtain ⟨unset, busy, clears⟩ := resetSlotLockout_cases r n s'
    have hn : n < s.arb.slots.length := by
      have := taken.numbered
      rw [harg] at this
      exact safe.slots ▸ of_decide_eq_true this
    refine ⟨fun h => run (act.trans (unset h)), fun h ha => run (act.trans (busy h (held.2 ha))), fun h ha => ?_⟩
    refine ⟨_, run (act.trans (clears h (free ha))), ?_⟩
    have changed := lockoutChanged_reported (s'.modSlot n fun a => { a with lock := {} })
    have slots := (SlotActs.modSlot n (fun a => { a with lock := {} }) s').slots
    have slot := State.modSlot_slot_same s' n (fun a => { a with lock := {} }) hn
    generalize lockoutChanged (s'.modSlot n fun a => { a with lock := {} }) = u at changed
    obtain ⟨frame, stored, noticed⟩ := changed
    refine ⟨?_, ?_, ?_, stored, noticed⟩
    · rw [frame]; exact slots
    · rw [frame]; exact slot
    · rw [frame]; rfl
  · have act : actResetLockout r s' = resetBusLockout r b s' := by unfold actResetLockout; rw [harg]
    obtain ⟨unset, busy, clears⟩ := resetBusLockout_cases r b s'
    refine ⟨fun h => run (act.trans (unset h)), fun h ha => run (act.trans (busy h (held.2 ha))), fun h ha => ?_⟩
    refine ⟨_, run (act.trans (clears h (free ha))), ?_⟩
    have same := State.setBusLock_busLock s' b {}
    have other := State.setBusLock_busLock_other s' b
    have slots := State.setBusLock_slots s' b {}
    have changed := lockoutChanged_reported (s'.setBusLock b {})
    obtain ⟨a, cleared⟩ := setBusLock_frame s' b {}
    rw [cleared] at changed same slots ⊢
    generalize lockoutChanged { s' with arb := a } = u at changed
    obtain ⟨frame, stored, noticed⟩ := changed
    refine ⟨?_, fun c hc => ?_, ?_, ?_, stored, noticed⟩
    · rw [frame]; exact same
    · have := other c {} hc
      rw [cleared] at this
      rw [frame]; exact this
    · rw [frame]; exact slots
    · exact List.mem_append_right _ (List.mem_singleton_self _)

end Sys2Proof.Machine
end

section
/-!
The reads (O51) and the ends of non-volatile writes (O60): a view of the state, a bank with its held answers, a copy of the
lockout store with the restore that waited.
-/

namespace Sys2Proof.Machine

/-! ## Reads (R177) -/

/-- R177: a read that passes the tests is answered DONE with its view of the state from which its request is gone. -/
theorem readRequest_taken {k : Kind} {r : Request} {rest : List Request} {s : State} (h : Taken k r rest s)
    (view : State → Args → AnswerPayload) : readRequest k view s =
      settleQueue (answerTo r .done (view (setRequests rest s) r.args) (setRequests rest s)) := takeKind_taken h _

/-- Settles O51: what each read views; no view but that of READ_STATUS shows the request queue. -/
theorem readsAnswered : Obligations.ReadsAnswered := by
  intro r rest s s' done
  have run : ∀ {k view p}, Taken k r rest s → view s' r.args = p →
      Host.Outcome.next (readRequest k view s) = (done p : Host.Outcome State Fault Refusal) := fun h e =>
    congrArg Host.Outcome.next (e ▸ readRequest_taken h _)
  refine ⟨fun h => run h rfl, fun pt h e => run h ?_, fun n h e => run h ?_, fun g i h e => run h ?_,
    fun k h e => run h ?_, fun n i t h e row => run h ?_, fun h => run h rfl⟩
  · rw [e]; cases pt <;> rfl
  · rw [e]; rfl
  · rw [e]; rfl
  · rw [e]; rfl
  · rw [e]; simp only [viewRow, row]; rfl

/-! ## The settings memory (R185) -/

theorem bankValid_bankHolding (gen : Nat) (im : Image) : bankValid (bankHolding gen im) = some (gen, im) := by
  simp [bankValid, bankHolding]

/-- R185: the bank a write leaves, by its read-back check. -/
theorem bankValid_written (ok : Bool) (gen : Nat) (im : Image) :
    bankValid (if ok then bankHolding gen im else .damaged gen) = if ok then some (gen, im) else none := by
  cases ok
  · rfl
  · exact bankValid_bankHolding gen im

/-- R175: held answers change the Link Unit, by what it holds. -/
theorem answers_of_link {s t : State} (h : t.link = s.link) (l : List HeldAnswer) :
    l.foldl answerHeld t = { t with link := (l.foldl answerHeld s).link } := by
  induction l generalizing s t with
  | nil => rw [List.foldl_nil, List.foldl_nil, ← h]
  | cons a l ih =>
    have one : answerHeld t a = { t with link := (answerHeld s a).link } := originate_of_link h _ _
    rw [List.foldl_cons, List.foldl_cons, ih (s := answerHeld s a) (by rw [one]), one]

/-- R185: the memories and the Management Unit as the write `w` has ended, before anything that waits is written. -/
def writeEnded (ok : Bool) (w : Writing) (s : State) : State :=
  (putBank w.bank (if ok then bankHolding w.gen w.image else .damaged w.gen) s).modMgmt fun m =>
    { m with write := none, fault := !ok, goodBank := if ok then some w.bank else m.goodBank }

theorem endWrite_eq {ok : Bool} {w : Writing} {s : State} (h : s.mgmt.write = some w) : endWrite ok s =
    let t := { writeEnded ok w s with link := (w.held.foldl answerHeld s).link }
    if w.waiting then beginWrite w.waitHeld t else t := by
  have link : (writeEnded ok w s).link = s.link := rfl
  unfold endWrite
  rw [h]
  dsimp only
  rw [← writeEnded, answers_of_link link]

theorem putBank_nv (one : Bool) (b : Bank) (s : State) : (putBank one b s).nv.copy0 = s.nv.copy0 ∧
    (putBank one b s).nv.copy1 = s.nv.copy1 ∧
    (one = false → (putBank one b s).nv.bank1 = s.nv.bank1 ∧ (putBank one b s).nv.bank0 = b) ∧
    (one = true → (putBank one b s).nv.bank0 = s.nv.bank0 ∧ (putBank one b s).nv.bank1 = b) := by
  cases one
  · exact ⟨rfl, rfl, fun _ => ⟨rfl, rfl⟩, nofun⟩
  · exact ⟨rfl, rfl, nofun, fun _ => ⟨rfl, rfl⟩⟩

/-- R185: a write goes to the bank that does not stand good. -/
theorem goodBank_ne_targetBank (m : Mgmt) : m.goodBank ≠ some (targetBank m) := by
  unfold targetBank
  cases m.goodBank with
  | none => simp
  | some b => cases b <;> decide

theorem settingsWrite_ends {ok : Bool} {w : Writing} {s : State} (h : s.mgmt.write = some w) :
    let t := endWrite ok s
    t = { s with link := t.link, mgmt := t.mgmt, nv := t.nv } ∧ t.nv = (writeEnded ok w s).nv ∧
      t.link = (w.held.foldl answerHeld s).link ∧ t.mgmt.fault = !ok ∧
      t.mgmt.goodBank = (if ok then some w.bank else s.mgmt.goodBank) ∧ (w.waiting = false → t.mgmt.write = none) ∧
      (w.waiting = true → ∃ x, t.mgmt.write = some x ∧ x.gen = s.mgmt.lastGen + 1 ∧ x.image = currentImage s ∧
        x.held = w.waitHeld ∧ t.mgmt.goodBank ≠ some x.bank) := by
  intro t
  have eq : t = _ := endWrite_eq h
  clear_value t
  cases hw : w.waiting with
  | false =>
    rw [hw] at eq
    subst eq
    exact ⟨rfl, rfl, rfl, rfl, rfl, fun _ => rfl, nofun⟩
  | true =>
    rw [hw] at eq
    subst eq
    exact ⟨rfl, rfl, rfl, rfl, rfl, nofun, fun _ => ⟨_, rfl, rfl, rfl, rfl, goodBank_ne_targetBank _⟩⟩

/-! ## The lockout store (R104) -/

theorem copyValid_holds (g : Nat) (c : LockoutSet) :
    copyValid (.holds g c (crc32 (Config.lockoutBytes g c))) = some (g, c) := by simp [copyValid]

/-- R104: the copy written is whole, the other stands, and one of them is taken at a restore. -/
theorem storeCopy_copies (x : LockoutSet) (v : NonVol) :
    (v.nextCopy = false → (storeCopy x v).copy1 = v.copy1 ∧ copyValid (storeCopy x v).copy0 = some (v.storeGen + 1, x)) ∧
    (v.nextCopy = true → (storeCopy x v).copy0 = v.copy0 ∧ copyValid (storeCopy x v).copy1 = some (v.storeGen + 1, x)) := by
  refine ⟨fun h => ?_, fun h => ?_⟩ <;> simp [storeCopy, h, copyValid_holds]

theorem takenCopy_storeCopy (x : LockoutSet) (v : NonVol) : ∃ g c one, takenCopy (storeCopy x v) = some (g, c, one) := by
  obtain ⟨first, second⟩ := storeCopy_copies x v
  have valid : copyValid (storeCopy x v).copy0 ≠ none ∨ copyValid (storeCopy x v).copy1 ≠ none := by
    cases h : v.nextCopy with
    | false => exact .inl (by rw [(first h).2]; exact nofun)
    | true => exact .inr (by rw [(second h).2]; exact nofun)
  unfold takenCopy
  cases h0 : copyValid (storeCopy x v).copy0 <;> cases h1 : copyValid (storeCopy x v).copy1 <;> dsimp only
  · simp [h0, h1] at valid
  · exact ⟨_, _, _, rfl⟩
  · exact ⟨_, _, _, rfl⟩
  · split
    · exact ⟨_, _, _, rfl⟩
    · exact ⟨_, _, _, rfl⟩

/-- R104: the slots of a set put in force. -/
theorem applyLockouts_slot (x : LockoutSet) (s : State) (n : Nat) :
    (applyLockouts x s).slot n = { s.slot n with lock := ((applyLockouts x s).slot n).lock } ∧
      (n < s.arb.slots.length → ((applyLockouts x s).slot n).lock = x.slots.getD n {}) := by
  simp only [State.slot, applyLockouts, State.modArb_arb, List.getD_eq_getElem?_getD, List.getElem?_mapIdx]
  by_cases h : n < s.arb.slots.length
  · simp [h]
  · simp [h]

theorem applyLockouts_busLock (x : LockoutSet) (s : State) (b : Bus) : (applyLockouts x s).busLock b = (match b with
    | .bus1 => x.bus1
    | .bus2 => x.bus2
    | .gbus => x.gbus) := by cases b <;> rfl

/-- R104: the lockouts restored from copy `c`, which a restore takes in `s`; a change they undergo is reported. -/
structure RestoredFrom (g : Nat) (c : LockoutSet) (one : Bool) (s t : State) : Prop where
  frame : t = { s with arb := t.arb, nv := t.nv, records := t.records }
  arb : t.arb = (applyLockouts c s).arb
  nv : t.nv = { s.nv with storeGen := g, nextCopy := !one, restoreWait := false }
  same : lockoutsInForce t = lockoutsInForce s → t.records = s.records
  changed : lockoutsInForce t ≠ lockoutsInForce s → s.siteInForce = true → noticeEnabled s .lockout = true →
    .lockout ∈ t.records.pendingNotices

theorem restoreNow_from {g : Nat} {c : LockoutSet} {one : Bool} {s : State} (h : takenCopy s.nv = some (g, c, one)) :
    RestoredFrom g c one s (restoreNow s) := by
  have read : readStore s =
      applyLockouts c (s.modNv fun v => { v with storeGen := g, nextCopy := !one, restoreWait := false }) := by
    unfold readStore
    rw [h]
  unfold restoreNow
  split
  case isTrue e =>
    rw [read] at e ⊢
    exact ⟨rfl, rfl, rfl, fun _ => rfl, fun he => absurd e he⟩
  case isFalse e =>
    have noticed := mem_pending_note (c := .lockout) (s := readStore s)
    obtain ⟨r, noted⟩ := note_eq .lockout (readStore s)
    rw [noted] at noticed ⊢
    rw [read] at noticed e ⊢
    exact ⟨rfl, rfl, rfl, fun he => absurd he e, fun _ => noticed⟩

theorem endStoreWrite_cases {x : LockoutSet} {s : State} (h : s.nv.storeWrite = some x) :
    (s.nv.storeWaiting = true → endStoreWrite s = { s with
      nv := { storeCopy x s.nv with storeWrite := some (lockoutsInForce s), storeWaiting := false } }) ∧
    (s.nv.storeWaiting = false → s.nv.restoreWait = false → endStoreWrite s =
      { s with nv := { storeCopy x s.nv with storeWrite := none } }) ∧
    (s.nv.storeWaiting = false → s.nv.restoreWait = true → endStoreWrite s =
      restoreNow { s with nv := { storeCopy x s.nv with storeWrite := none } }) := by
  unfold endStoreWrite
  rw [h]
  dsimp only
  have waiting : (s.modNv (storeCopy x)).nv.storeWaiting = s.nv.storeWaiting := rfl
  have restore : ((s.modNv (storeCopy x)).modNv fun v => { v with storeWrite := none }).nv.restoreWait =
      s.nv.restoreWait := rfl
  rw [waiting, restore]
  refine ⟨fun hw => ?_, fun hw hr => ?_, fun hw hr => ?_⟩
  · rw [hw]; rfl
  · rw [hw, hr]; rfl
  · rw [hw, hr]; rfl

/-- Settles O60: the write leaves its bank or copy, what waits is begun, and a restore that waited is made from the copies as
they then stand. -/
theorem nonVolatileWritesEnd : Obligations.NonVolatileWritesEnd := by
  refine ⟨fun ok w s hw => ?_, fun x s hw => ?_⟩
  · obtain ⟨frame, nv, link, fault, good, idle, next⟩ := settingsWrite_ends (ok := ok) hw
    obtain ⟨copy0, copy1, first, second⟩ := putBank_nv w.bank (if ok then bankHolding w.gen w.image else .damaged w.gen) s
    refine ⟨_, rfl, frame, fun h => ?_, fun h => ?_, ?_, ?_, fault, good, link, idle, next⟩
    · rw [nv, ← bankValid_written]
      exact ⟨(first h).1, congrArg bankValid (first h).2⟩
    · rw [nv, ← bankValid_written]
      exact ⟨(second h).1, congrArg bankValid (second h).2⟩
    · rw [nv]; exact copy0
    · rw [nv]; exact copy1
  · obtain ⟨first, second⟩ := storeCopy_copies x s.nv
    obtain ⟨waits, idle, restores⟩ := endStoreWrite_cases hw
    refine ⟨_, rfl, ?_⟩
    cases hq : s.nv.storeWaiting with
    | true =>
      rw [waits hq]
      exact ⟨first, second, rfl, rfl, fun _ => ⟨rfl, rfl, rfl, rfl⟩, nofun, nofun, nofun⟩
    | false =>
      cases hr : s.nv.restoreWait with
      | false =>
        rw [idle hq hr]
        exact ⟨first, second, rfl, rfl, nofun, fun _ => ⟨rfl, hq, hr⟩, fun _ _ => rfl, nofun⟩
      | true =>
        rw [restores hq hr]
        obtain ⟨g, c, one, taken⟩ := takenCopy_storeCopy x s.nv
        obtain ⟨frame, arb, nv, same, changed⟩ :=
          restoreNow_from (s := { s with nv := { storeCopy x s.nv with storeWrite := none } }) taken
        generalize restoreNow { s with nv := { storeCopy x s.nv with storeWrite := none } } = t at *
        have slot : ∀ n, t.slot n = (applyLockouts c s).slot n := State.slot_of_arb arb
        refine ⟨?_, ?_, ?_, ?_, nofun, fun _ => ?_, nofun, fun _ _ => ⟨frame, fun n => ?_, fun hlen => ?_, same, changed⟩⟩
        · rw [nv]; exact first
        · rw [nv]; exact second
        · rw [nv]; rfl
        · rw [nv]; rfl
        · rw [nv]; exact ⟨rfl, hq, rfl⟩
        · rw [slot]
          exact (applyLockouts_slot c s n).1
        · refine ⟨g, c, one, ?_, by rw [nv], by rw [nv], fun n hn => ?_, fun b => ?_⟩
          · rw [nv]; exact taken
          · rw [slot]
            exact (applyLockouts_slot c s n).2 (hlen ▸ hn)
          · exact (busLock_of_arb arb b).trans ((applyLockouts_busLock c s b).trans (by cases b <;> rfl))

end Sys2Proof.Machine
end


section
/-!
A close that leaves service (O29, O45): the place or the grant it gives up, its WITHDRAW, the order that becomes ISSUED,
and the sync channels that fire or time out.
-/

namespace Sys2Proof.Machine

/-! ## Channels (R151, R153) -/

theorem modAt_eq_set {α : Type} {l : List α} {i : Nat} {x : α} (h : l[i]? = some x) (f : α → α) :
    modAt l i f = l.set i (f x) := by
  induction l generalizing i with
  | nil => cases h
  | cons y ys ih =>
    cases i with
    | zero => cases h; rfl
    | succ i => exact congrArg (y :: ·) (ih h)

theorem modGen_par (s : State) (k : Nat) (f : Gen → Gen) : ∃ g, (s.modGen k f).par = { s.par with gens := g } := by
  unfold State.modGen
  split <;> exact ⟨_, rfl⟩

theorem readyToClosing_par (k : Nat) (s : State) : ∃ g, (readyToClosing k s).par = { s.par with gens := g } := by
  unfold readyToClosing setGenState
  split
  · split
    · exact ⟨_, rfl⟩
    · rw [note_par]
      exact modGen_par s k _
  · exact ⟨_, rfl⟩

theorem assignChannel_par (i : Nat) (r : SyncReq) (s : State) : ∃ g, (assignChannel i r s).par =
    { s.par with channels := s.par.channels.set i (some (channelFor r)), gens := g } := by
  have taken : ∀ u, ∃ g, (channelTaken r.slot u).par = { u.par with gens := g } := fun u => by
    unfold channelTaken
    split
    · exact readyToClosing_par _ u
    · exact ⟨_, rfl⟩
  obtain ⟨g, e⟩ := taken (s.modPar fun p => { p with channels := modAt p.channels i fun _ => some (channelFor r) })
  refine ⟨g, ?_⟩
  unfold assignChannel
  rw [note_par, e, ← modAt_const]
  rfl

theorem channelOf_lt {s : State} {n i : Nat} (h : channelOf s n = some i) : i < s.par.channels.length := by
  have holds := List.find?_some h
  by_contra out
  rw [List.getD_eq_default _ _ (Nat.le_of_not_lt out)] at holds
  cases holds

theorem channelOf_of_channels {s t : State} (h : t.par.channels = s.par.channels) (n : Nat) :
    channelOf t n = channelOf s n := by
  unfold channelOf
  rw [h]

/-- R153: a freed channel takes the oldest queued request. -/
theorem refillChannel_par (i : Nat) (s : State) : (s.par.queue = [] → refillChannel i s = s) ∧
    ∀ r rest, s.par.queue = r :: rest → ∃ g, (refillChannel i s).par =
      { s.par with channels := s.par.channels.set i (some (channelFor r)), queue := rest, gens := g } := by
  unfold refillChannel
  refine ⟨fun h => by rw [h], fun r rest h => ?_⟩
  rw [h]
  exact assignChannel_par i r _

/-- R153: what becomes of the place of slot `n` in the channels and the queue. -/
structure PlaceFreed (n : Nat) (s u : State) : Prop where
  channel : ∀ i, channelOf s n = some i → ChannelRefilled i s u
  queue : channelOf s n = none →
    u.par.channels = s.par.channels ∧ u.par.queue = s.par.queue.filter fun x => decide (x.slot ≠ n)

theorem dropPlace_freed (n : Nat) (s : State) : PlaceFreed n s (dropPlace n s) := by
  unfold dropPlace
  refine ⟨fun i h => ?_, fun h => ?_⟩ <;> rw [h] <;> dsimp only
  · have lt := channelOf_lt h
    obtain ⟨empty, oldest⟩ :=
      refillChannel_par i (note .generator (s.modPar fun p => { p with channels := modAt p.channels i fun _ => none }))
    have par : (note .generator (s.modPar fun p => { p with channels := modAt p.channels i fun _ => none })).par =
        { s.par with channels := s.par.channels.set i none } := by
      rw [note_par, ← modAt_const]
      rfl
    rw [par] at empty oldest
    have others : ∀ x, ∀ j, j ≠ i → (s.par.channels.set i x)[j]? = s.par.channels[j]? := fun x j hj =>
      List.getElem?_set_ne (Ne.symm hj)
    unfold ChannelRefilled
    cases hq : s.par.queue with
    | nil =>
      rw [empty hq, par]
      exact ⟨others none, fun _ => ⟨List.getElem?_set_self lt, hq⟩, nofun⟩
    | cons r rest =>
      obtain ⟨g, e⟩ := oldest r rest hq
      rw [e, List.set_set]
      refine ⟨others _, nofun, fun x l h => ?_⟩
      cases h
      exact ⟨rfl, List.getElem?_set_self lt⟩
  · split
    case isTrue => exact ⟨rfl, rfl⟩
    case isFalse hq =>
      refine ⟨rfl, (List.filter_eq_self.2 fun x hx => ?_).symm⟩
      rw [decide_eq_true_eq]
      exact fun e => hq (List.any_eq_true.2 ⟨x, hx, decide_eq_true e⟩)

theorem dropPlace_grant (n : Nat) (s : State) : (dropPlace n s).par.grant = s.par.grant := by
  have refill : ∀ i u, (refillChannel i u).par.grant = u.par.grant := fun i u => by
    obtain ⟨empty, oldest⟩ := refillChannel_par i u
    cases hq : u.par.queue with
    | nil => rw [empty hq]
    | cons r rest =>
      obtain ⟨g, e⟩ := oldest r rest hq
      rw [e]
  unfold dropPlace
  split
  · rw [refill, note_par]
    rfl
  · split <;> rfl

theorem releaseGrant_par (s : State) : (releaseGrant s).par = { s.par with grant := none } := by
  unfold releaseGrant
  split
  case isTrue h => rw [← Option.isNone_iff_eq_none.1 h]
  case isFalse => rw [note_par]; rfl

/-- R148, R153: the end of a close frees its place, and the grant it held. -/
theorem closeEnded_par (n : Nat) (r : Requester) (held : Bool) (t : Told) (s : State) : (closeEnded n r held t s).par =
    if held then { (dropPlace n s).par with grant := none } else (dropPlace n s).par := by
  have posted : ∀ (c : Prop) [Decidable c] (u : State) (m : Msg), (if c then u.post m else u).par = u.par :=
    fun c _ u m => by split <;> rfl
  unfold closeEnded
  dsimp only
  rw [posted]
  split
  · exact releaseGrant_par _
  · rfl

/-! ## A close leaves service (R87, R95, R97) -/

theorem removeOrder_par (n : Nat) (o : Order) (t : Told) (s : State) : (removeOrder n o t s).par = s.par := by
  unfold removeOrder cancelMove
  rw [note_par]
  split <;> rfl

theorem tellAll_par (n : Nat) (o : Order) (t : Told) (s : State) : (tellAll n o t s).par = s.par := by
  unfold tellAll
  generalize o.requesters = l
  induction l generalizing s with
  | nil => rfl
  | cons r l ih => exact ih (s.post (.told r n o.type (some o.tag) t))

theorem leaveService_close {n : Nat} {o : Order} {s : State} (t : Told) (ho : (s.slot n).order = some o)
    (ht : o.type = .close) : leaveService n t s =
      closeEnded n (o.requesters.headD .prot) o.grantHeld t (tellAll n o t (removeOrder n o t s)) := by
  unfold leaveService
  rw [ho]
  dsimp only
  unfold afterService
  rw [ht]

/-- A slot after its close `o` has left service at a moment, with a WITHDRAW in progress where one is started. -/
def afterClose (now : Nat) (o : Order) (t : Told) (withdrawn : Bool) (a : ArbSlot) : ArbSlot :=
  { a with
    order := none, lastResult := some ⟨.close, o.tag, o.causes, t⟩
    withdraw := if withdrawn then some ⟨o.tag, causeOf o.causes, 2, now + 10000⟩ else a.withdraw }

/-- R87, R95, R97, R153: `u` is `s` once the close `o` of slot `n` has left service. -/
structure CloseEnded (n : Nat) (o : Order) (t : Told) (withdrawn : Bool) (s u : State) : Prop where
  slots : onlySlot n s u
  slot : u.slot n = afterClose s.now o t withdrawn (s.slot n)
  link : u.link = (if withdrawn then sendFrame n .withdraw o.tag (causeOf o.causes) s else s).link
  seqs : u.seqs = s.seqs
  told : ∀ r ∈ o.requesters, .told r n .close (some o.tag) t ∈ u.mail
  place : PlaceFreed n s u
  grant : u.par.grant = if o.grantHeld then none else s.par.grant

theorem leaveService_closeEnded {n : Nat} {o : Order} {s : State} (t : Told) (ho : (s.slot n).order = some o)
    (ht : o.type = .close) : CloseEnded n o t false s (leaveService n t s) := by
  have left := leaveService_left t (slot_lt_of_order ho) ho
  have par : (tellAll n o t (removeOrder n o t s)).par = s.par := (tellAll_par _ _ _ _).trans (removeOrder_par _ _ _ _)
  have ended := closeEnded_par n (o.requesters.headD .prot) o.grantHeld t (tellAll n o t (removeOrder n o t s))
  have freed := dropPlace_freed n (tellAll n o t (removeOrder n o t s))
  have grant := dropPlace_grant n (tellAll n o t (removeOrder n o t s))
  rw [← leaveService_close t ho ht] at ended
  generalize tellAll n o t (removeOrder n o t s) = w at par ended freed grant
  have kept : (leaveService n t s).par.channels = (dropPlace n w).par.channels ∧
      (leaveService n t s).par.queue = (dropPlace n w).par.queue := by
    rw [ended]
    split <;> exact ⟨rfl, rfl⟩
  have channel : channelOf w n = channelOf s n := channelOf_of_channels (congrArg Par.channels par) n
  refine ⟨left.acts.slots, ?_, left.acts.link, left.acts.seqs, fun r hr => ht ▸ left.told r hr,
    ⟨fun i hi => ?_, fun hi => ?_⟩, ?_⟩
  · rw [left.slot]
    simp only [withoutOrder, ht, afterClose, Bool.false_eq_true, ↓reduceIte]
  · have := freed.channel i (channel.trans hi)
    unfold ChannelRefilled at this ⊢
    rwa [par, ← kept.1, ← kept.2] at this
  · have := freed.queue (channel.trans hi)
    rwa [par, ← kept.1, ← kept.2] at this
  · rw [ended]
    split
    · rfl
    · rw [grant, par]

/-- R97: a WITHDRAW started after internal acts that send nothing. -/
theorem startWithdraw_after {s t : State} (h : Internal s t) (link : t.link = s.link) (n tag : Nat) (c : Source) :
    startWithdraw n tag c t =
      { t.modSlot n (fun a => { a with withdraw := some ⟨tag, c, 2, s.now + 10000⟩ }) with
        link := (sendFrame n .withdraw tag c s).link } := by
  unfold startWithdraw
  rw [h.outside.now]
  exact sendFrame_after
    (h.trans (.modSlot t n (fun a => { a with withdraw := some ⟨tag, c, 2, s.now + 10000⟩ }) fun _ => .inl rfl)) link _ _ _ _

theorem CloseEnded.startWithdraw {n : Nat} {o : Order} {t : Told} {s v : State} (h : CloseEnded n o t false s v)
    (hv : Internal s v) (hn : n < s.arb.slots.length) :
    CloseEnded n o t true s (startWithdraw n o.tag (causeOf o.causes) v) := by
  obtain ⟨⟨others, bus1, bus2, gbus⟩, slot, link, seqs, told, ⟨channel, queue⟩, grant⟩ := h
  rw [startWithdraw_after hv link]
  refine ⟨⟨fun m hm => ?_, bus1, bus2, gbus⟩, ?_, rfl, seqs, told, ⟨channel, queue⟩, grant⟩
  · exact (State.modSlot_slot_other v n m _ hm).trans (others m hm)
  · refine (State.modSlot_slot_same v n _ (hv.slots ▸ hn)).trans ?_
    rw [slot]
    rfl

/-- R91, R95: a close that ends without completing; a WITHDRAW is started where it was ISSUED. -/
theorem endClose_closeEnded {n : Nat} {o : Order} {s : State} (t : Told) (ho : (s.slot n).order = some o)
    (ht : o.type = .close) : CloseEnded n o t (decide (o.phase = .issued)) s (endClose n t s) := by
  have left := leaveService_closeEnded t ho ht
  unfold endClose
  rw [ho]
  dsimp only
  rw [ht]
  cases hp : o.phase with
  | issued => exact left.startWithdraw (.leaveService n t s) (slot_lt_of_order ho)
  | syncWait => exact left

theorem CloseEnded.closeLeft {n : Nat} {o : Order} {t : Told} {s u : State}
    (h : CloseEnded n o t (decide (o.phase = .issued)) s u) : CloseLeft n o t s u := by
  obtain ⟨_, slot, link, _, told, place, grant⟩ := h
  refine ⟨by rw [slot]; exact ⟨rfl, rfl⟩, told, fun hp => ?_, fun hp => ?_, fun hg => ?_, place.channel, place.queue⟩
  · rw [slot, link, hp]
    exact ⟨rfl, rfl⟩
  · rw [slot, link, hp]
    exact ⟨rfl, rfl⟩
  · rw [grant, hg]
    rfl

/-! ## Orders past their limits (R96) -/

theorem failClose_eq {n : Nat} {o : Order} {s : State} (ho : (s.slot n).order = some o) : failClose n s =
    if s.mgmt.mode = .blocked then leaveService n .blocked s
    else startWithdraw n o.tag (causeOf o.causes) (leaveService n .fail s) := by
  unfold failClose
  rw [ho]

/-- R96, R97, R188: a close past its limit. -/
theorem failClose_closeEnded {n : Nat} {o : Order} {s : State} (ho : (s.slot n).order = some o) (ht : o.type = .close) :
    CloseEnded n o (if s.mgmt.mode = .blocked then .blocked else .fail) (decide (s.mgmt.mode ≠ .blocked)) s
      (failClose n s) := by
  rw [failClose_eq ho]
  by_cases hm : s.mgmt.mode = .blocked
  · simp only [hm, ↓reduceIte, ne_eq, not_true_eq_false, decide_false]
    exact leaveService_closeEnded .blocked ho ht
  · simp only [hm, ↓reduceIte, ne_eq, not_false_eq_true, decide_true]
    exact (leaveService_closeEnded .fail ho ht).startWithdraw (.leaveService n .fail s) (slot_lt_of_order ho)

/-- Settles O29: an open leaves service and no more; a close leaves it with its WITHDRAW, outside BLOCKED. -/
theorem orderLimitsFail : Obligations.OrderLimitsFail := by
  refine ⟨fun n t o s safe past => ?_, fun n t o s safe past => ?_⟩ <;> intro result
  · have hn : n < s.arb.slots.length := safe.slots ▸ past.slot
    have left := leaveService_left result hn past.order
    have due : openLimitDue s n = true := (openLimitDue_iff past.slot).2 ⟨o, t, past⟩
    refine ⟨_, congrArg Host.Outcome.next (exec_whenDue due), left.acts.slots, (Internal.failOpen n s).outside,
      left.acts.seqs, left.acts.link, ?_⟩
    have slot : (failOpen n s).slot n = withoutOrder s.now o result (s.slot n) := left.slot
    rw [slot, ← past.type]
    exact ⟨rfl, rfl, rfl, rfl, rfl, rfl, rfl, left.told⟩
  · have ended : CloseEnded n o result _ s _ := failClose_closeEnded past.order past.type
    have due : closeLimitDue s n = true := (closeLimitDue_iff past.slot).2 ⟨o, t, past⟩
    refine ⟨_, congrArg Host.Outcome.next (exec_whenDue due), ended.slots, (Internal.failClose n s).outside, ended.seqs, ?_⟩
    rw [ended.link, ended.slot]
    refine ⟨?_, rfl, rfl, ?_, rfl, rfl, rfl, ended.told⟩
    · cases hm : s.mgmt.mode <;> simp [sendFrame, hm]
    · cases hm : s.mgmt.mode <;> simp [afterClose]

/-! ## An order becomes ISSUED (R88) -/

/-- `u` is `s` with slot `n` made `b` and the Link Unit made `l`, but for acts beside the Arbiter. -/
structure SlotSet (n : Nat) (b : ArbSlot) (l : Link) (s u : State) : Prop where
  slots : onlySlot n s u
  slot : u.slot n = b
  link : u.link = l
  seqs : u.seqs = s.seqs

/-- `SlotSet` with the Paralleling Unit and the messages as they were. -/
structure SlotMade (n : Nat) (b : ArbSlot) (l : Link) (s u : State) : Prop extends SlotSet n b l s u where
  par : u.par = s.par
  mail : u.mail = s.mail

theorem SlotSet.trans {n : Nat} {b c : ArbSlot} {l m : Link} {s t u : State} (h : SlotSet n b l s t)
    (k : SlotSet n c m t u) : SlotSet n c m s u := by
  obtain ⟨hs, h1, h2, h3⟩ := h.slots
  obtain ⟨ks, k1, k2, k3⟩ := k.slots
  exact ⟨⟨fun m hm => (ks m hm).trans (hs m hm), k1.trans h1, k2.trans h2, k3.trans h3⟩, k.slot, k.link,
    k.seqs.trans h.seqs⟩

theorem SlotSet.beside {n : Nat} {b : ArbSlot} {l : Link} {s t u : State} (h : SlotSet n b l s t) (k : BesideArb t u) :
    SlotSet n b l s u :=
  h.trans ⟨(k.slotActs n).slots, (k.slot n).trans h.slot, k.link.trans h.link, k.seqs⟩

theorem SlotMade.trans {n : Nat} {b c : ArbSlot} {l m : Link} {s t u : State} (h : SlotMade n b l s t)
    (k : SlotMade n c m t u) : SlotMade n c m s u :=
  ⟨h.toSlotSet.trans k.toSlotSet, k.par.trans h.par, k.mail.trans h.mail⟩

theorem SlotMade.modSlot {n : Nat} (f : ArbSlot → ArbSlot) {s : State} (hn : n < s.arb.slots.length) :
    SlotMade n (f (s.slot n)) s.link s (s.modSlot n f) :=
  ⟨⟨(SlotActs.modSlot n f s).slots, State.modSlot_slot_same s n f hn, rfl, rfl⟩, rfl, rfl⟩

theorem SlotMade.note {n : Nat} {b : ArbSlot} {l : Link} {s u : State} (h : SlotMade n b l s u) (c : NoticeClass) :
    SlotMade n b l s (note c u) := by
  obtain ⟨r, e⟩ := note_eq c u
  rw [e]
  exact ⟨⟨h.slots, h.slot, h.link, h.seqs⟩, h.par, h.mail⟩

theorem setMove_frame (n : Nat) (t : OrdType) (s : State) : ∃ m, setMove n t s = { s with mgmt := m } := by
  unfold setMove
  split <;> exact ⟨_, rfl⟩

/-- R87, R88: an order as it becomes ISSUED at a moment. -/
def issuedAt (now : Nat) (o : Order) : Order :=
  { o with phase := .issued, issueTime := some now, nextRepeat := now + 10000 }

/-- R88: the order is ISSUED and its frame sent. -/
theorem issue_made {n : Nat} {o : Order} {s : State} (ho : (s.slot n).order = some o) :
    SlotMade n { s.slot n with order := some (issuedAt s.now o) }
      (sendFrame n (codeOf o.type) o.tag (causeOf o.causes) s).link s (issue n s) := by
  have set := SlotMade.modSlot (fun a => { a with order := some (issuedAt s.now o) }) (slot_lt_of_order ho)
  have acts := (Internal.modSlot s n (fun a => { a with order := some (issuedAt s.now o) }) fun _ => .inl rfl).trans
    (.setMove n o.type _)
  have eq : issue n s =
      sendOrder n (setMove n o.type (s.modSlot n fun a => { a with order := some (issuedAt s.now o) })) := by
    unfold issue
    rw [ho]
    rfl
  have made : SlotMade n { s.slot n with order := some (issuedAt s.now o) } s.link s
      (setMove n o.type (s.modSlot n fun a => { a with order := some (issuedAt s.now o) })) := by
    obtain ⟨m, e⟩ := setMove_frame n o.type (s.modSlot n fun a => { a with order := some (issuedAt s.now o) })
    rw [e]
    exact ⟨⟨set.slots, set.slot, set.link, set.seqs⟩, set.par, set.mail⟩
  rw [eq, sendOrder_of_order (o := issuedAt s.now o) (congrArg ArbSlot.order made.slot), sendFrame_after acts made.link]
  exact ⟨⟨made.slots, made.slot, rfl, made.seqs⟩, made.par, made.mail⟩

/-! ## The sync criteria (R152) -/

theorem wrapAngle_iff {x y : Int} : wrapAngle x = y ↔ -18000 ≤ y ∧ y ≤ 17999 ∧ ∃ turns : Int, y = x + turns * 36000 := by
  unfold wrapAngle
  constructor
  · rintro rfl
    exact ⟨by omega, by omega, -((x + 18000) / 36000), by omega⟩
  · rintro ⟨lo, hi, turns, e⟩
    omega

/-- R152 criterion 5, by the slip. -/
theorem angleHolds_iff {window closing : Nat} {angle slip : Int} : angleHolds window closing angle slip = true ↔
    (slip.natAbs < 10 → angle.natAbs ≤ window) ∧
      (10 ≤ slip.natAbs → ∃ predicted : Int, -18000 ≤ predicted ∧ predicted ≤ 17999 ∧ predicted.natAbs ≤ window ∧
        ∃ turns : Int, predicted = angle + (slip * closing * 36).tdiv 1000 + turns * 36000) := by
  unfold angleHolds
  by_cases h : 10 ≤ slip.natAbs
  · simp only [h, ↓reduceIte, decide_eq_true_eq, forall_const, Nat.not_lt.2 h, false_implies, true_and]
    constructor
    · intro near
      obtain ⟨lo, hi, turns⟩ := wrapAngle_iff.1 (rfl : wrapAngle (angle + (slip * closing * 36).tdiv 1000) = _)
      exact ⟨_, lo, hi, near, turns⟩
    · rintro ⟨predicted, lo, hi, near, turns⟩
      rwa [wrapAngle_iff.2 ⟨lo, hi, turns⟩]
  · simp only [h, ↓reduceIte, decide_eq_true_eq, Nat.lt_of_not_le h, forall_const, false_implies, and_true]

theorem channelHolds_iff {s : State} {c : Channel} : channelHolds s c = true ↔ (s.voltMeas c.ref).quality = .good ∧
    (s.voltMeas c.inc).quality = .good ∧ ∃ angle slip : Int, c.pair = some (angle, slip) ∧
      (((s.voltMeas c.inc).rms.a : Int) - ((s.voltMeas c.ref).rms.a : Int)).natAbs ≤ s.par.voltWin ∧
      slip.natAbs ≤ s.tbl.par.slipLimit ∧ angleHolds s.tbl.par.angleWin c.closing angle slip = true := by
  unfold channelHolds
  cases hp : c.pair with
  | none => simp
  | some x =>
    simp only [Bool.and_eq_true, decide_eq_true_eq, and_assoc, Option.some.injEq]
    refine and_congr_right fun _ => and_congr_right fun _ => ⟨fun h => ⟨x.1, x.2, rfl, h⟩, ?_⟩
    rintro ⟨_, _, rfl, h⟩
    exact h

/-! ## A channel at an update, and as it fires (R94, R152) -/

theorem modChannel_eq {i : Nat} {c : Channel} {s : State} (h : s.par.channels[i]? = some (some c))
    (f : Channel → Channel) : modChannel i f s =
      { s with par := { s.par with channels := s.par.channels.set i (some (f c)) } } :=
  congrArg (fun l => { s with par := { s.par with channels := l } }) (modAt_eq_set h (Option.map f))

theorem getD_of_channel {i : Nat} {c : Channel} {s : State} (h : s.par.channels[i]? = some (some c)) :
    s.par.channels.getD i none = some c := by rw [List.getD_eq_getElem?_getD, h]; rfl

/-- R152: a MATCHING channel at an update. -/
theorem testChannel_cases {i : Nat} {c : Channel} {s : State} (h : s.par.channels[i]? = some (some c)) :
    (c.fired = true → testChannel i s = s) ∧
    (c.fired = false → channelHolds s c = false → testChannel i s = modChannel i (fun c => { c with hold := 0 }) s) ∧
    (c.fired = false → channelHolds s c = true → c.hold = 0 →
      testChannel i s = modChannel i (fun c => { c with hold := c.hold + 1 }) s) ∧
    (c.fired = false → channelHolds s c = true → c.hold = 1 →
      testChannel i s = fireChannel i c.slot (modChannel i (fun c => { c with hold := c.hold + 1 }) s)) := by
  unfold testChannel
  rw [getD_of_channel h]
  refine ⟨fun hf => ?_, fun hf hh => ?_, fun hf hh h0 => ?_, fun hf hh h1 => ?_⟩
  · simp only [hf, ↓reduceIte]
  · simp only [hf, hh, Bool.false_eq_true, ↓reduceIte]
  · simp [hf, hh, h0]
  · simp [hf, hh, h1]

theorem execSyncFire_fires {i : Nat} {c : Channel} {s : State} (h : s.par.channels[i]? = some (some c))
    (hf : c.fired = false) (hh : c.hold = 2) : exec (.syncFire i) s = .next (finish (fireChannel i c.slot s)) := by
  refine congrArg Host.Outcome.next ?_
  rw [getD_of_channel h]
  exact if_pos ⟨hf, hh⟩

theorem inSyncWait_of_order {n : Nat} {o : Order} {s : State} (ho : (s.slot n).order = some o) (ht : o.type = .close)
    (hp : o.phase = .syncWait) : inSyncWait s n = true := by
  unfold inSyncWait
  rw [ho]
  simp [ht, hp]

/-- R94, R152: the close of slot `n`, on which channel `i` fires, is ISSUED, or leaves service with PARALLEL. -/
structure Fired (i n : Nat) (c : Channel) (o : Order) (s u : State) : Prop where
  slots : onlySlot n s u
  seqs : u.seqs = s.seqs
  issued : interlockFails s n = false → u.par.channels[i]? = some (some { c with fired := true }) ∧
    (u.slot n).order = some (issuedAt s.now o)
  parallel : interlockFails s n = true → (u.slot n).order = none ∧
    (u.slot n).lastResult = some ⟨.close, o.tag, o.causes, .parallel⟩ ∧
    (channelOf s n = some i → ChannelRefilled i s u) ∧
    ∀ r ∈ o.requesters, .told r n .close (some o.tag) .parallel ∈ u.mail

/-- A channel that fires still belongs to its slot. -/
theorem channelOf_fired {i n : Nat} {c : Channel} {s t : State} (h : s.par.channels[i]? = some (some c))
    (ht : t.par.channels = s.par.channels.set i (some { c with fired := true })) : channelOf t n = channelOf s n := by
  unfold channelOf
  refine congrArg (List.find? · _) (funext fun j => ?_)
  rw [ht]
  by_cases e : i = j
  · subst e
    rw [getD_of_channel h, List.getD_eq_getElem?_getD, List.getElem?_set_self (List.getElem?_eq_some_iff.1 h).1]
    rfl
  · rw [List.getD_eq_getElem?_getD, List.getElem?_set_ne e, ← List.getD_eq_getElem?_getD]

theorem fireChannel_fired {i n : Nat} {c : Channel} {o : Order} {s : State} (h : s.par.channels[i]? = some (some c))
    (ho : (s.slot n).order = some o) (ht : o.type = .close) (hp : o.phase = .syncWait) :
    Fired i n c o s (fireChannel i n s) := by
  have lt := (List.getElem?_eq_some_iff.1 h).1
  unfold fireChannel
  rw [modChannel_eq h]
  obtain ⟨r, e⟩ := note_eq .generator
    { s with par := { s.par with channels := s.par.channels.set i (some { c with fired := true }) } }
  rw [e]
  have fails : ∀ p r, interlockFails { s with par := p, records := r } n = interlockFails s n := fun _ _ => rfl
  have held : (State.slot { s with
      par := { s.par with channels := s.par.channels.set i (some { c with fired := true }) }, records := r } n).order =
    some o := ho
  unfold fireClose
  rw [if_pos (inSyncWait_of_order held ht hp), fails]
  cases hi : interlockFails s n with
  | false =>
    have made := (issue_made held).note .position
    refine ⟨made.slots, made.seqs, fun _ => ⟨?_, congrArg ArbSlot.order made.slot⟩,
      fun hf => absurd (hi.symm.trans hf) nofun⟩
    exact (congrArg (fun p : Par => p.channels[i]?) made.par).trans (List.getElem?_set_self lt)
  | true =>
    have ended := leaveService_closeEnded .parallel held ht
    rw [if_pos rfl]
    refine ⟨ended.slots, ended.seqs, fun hf => absurd (hi.symm.trans hf) nofun, fun _ =>
      ⟨congrArg ArbSlot.order ended.slot, congrArg ArbSlot.lastResult ended.slot, fun hc => ?_, ended.told⟩⟩
    obtain ⟨others, empty, oldest⟩ := ended.place.channel i ((channelOf_fired h rfl).trans hc)
    exact ⟨fun j hj => (others j hj).trans (List.getElem?_set_ne (Ne.symm hj)), empty, oldest⟩

/-- Settles O45: the criteria one by one, the hold count of a channel, and the close that fires or times out. -/
theorem syncFiresOrTimesOut : Obligations.SyncFiresOrTimesOut := by
  refine ⟨fun c s => ?_, fun i c s h => ?_, fun i c o s safe h hf hh hn ho ht hp => ?_,
    fun n t o s safe hn ho ht hp hw => ?_⟩
  · intro r x within
    rw [channelHolds_iff]
    simp only [angleHolds_iff]
    exact Iff.rfl
  · intro counted
    obtain ⟨fired, fails, first, second⟩ := testChannel_cases h
    have counts : modChannel i (fun c => { c with hold := c.hold + 1 }) s = counted (c.hold + 1) := modChannel_eq h _
    refine ⟨fired, fun hf hh => (fails hf hh).trans (modChannel_eq h _), fun hf hh h0 => ?_, fun hf hh h1 => ?_⟩
    · rw [first hf hh h0, counts, h0]
    · rw [second hf hh h1, counts, h1]
      exact execSyncFire_fires (c := { c with hold := 2 }) (List.getElem?_set_self (List.getElem?_eq_some_iff.1 h).1) hf rfl
  · obtain ⟨slots, seqs, issued, parallel⟩ := fireChannel_fired h ho ht hp
    exact ⟨_, execSyncFire_fires h hf hh, slots, (Internal.fireChannel i c.slot s).outside, seqs, issued, parallel⟩
  · refine ⟨fun hd => ?_, fun hd => ?_⟩
    · have times : expireSyncWait n s = leaveService n .syncTimeout s := by
        unfold expireSyncWait timeoutClose
        rw [if_pos (inSyncWait_of_order ho ht hp), if_pos (inSyncWait_of_order ho ht hp)]
      have ended := leaveService_closeEnded .syncTimeout ho ht
      refine ⟨_, congrArg Host.Outcome.next ((exec_whenDue (syncWaitDue_iff.2 ⟨t, hw, hd⟩)).trans (congrArg finish times)),
        ended.slots, (Internal.leaveService n .syncTimeout s).outside, ended.seqs, congrArg ArbSlot.order ended.slot,
        congrArg ArbSlot.lastResult ended.slot, fun hc => ?_, ended.place.channel, ended.told⟩
      obtain ⟨channels, queue⟩ := ended.place.queue hc
      refine ⟨fun x hx => ?_, channels⟩
      rw [queue] at hx
      exact of_decide_eq_true (List.mem_filter.1 hx).2
    · refine congrArg Host.Outcome.next (if_neg fun h => ?_)
      obtain ⟨t', hw', hd'⟩ := syncWaitDue_iff.1 h
      cases hw.symm.trans hw'
      exact absurd hd' (Nat.not_le.2 hd)

end Sys2Proof.Machine
end


section
/-!
Requests on a breaker (O32, O33): the operator window, the ladder row by row, and the ways of an open and of a close.
-/

namespace Sys2Proof.Machine

/-! ## Requests that conflict (R98) -/

theorem windowConflict_iff {n : Nat} {x : Source} {s : State} : windowConflict s n x = true ↔
    (x = .oprC ∧ ∃ t, (s.slot n).window = some (.opn, t) ∧ s.now < t + 500000) ∨
      (x = .oprO ∧ ∃ t, (s.slot n).window = some (.close, t) ∧ s.now < t + 500000) := by
  unfold windowConflict
  split
  case h_1 t hw =>
    refine decide_eq_true_iff.trans ⟨fun h => .inr ⟨rfl, t, hw, h⟩, ?_⟩
    rintro (⟨e, _⟩ | ⟨_, t', hw', h⟩)
    · cases e
    · cases hw.symm.trans hw'
      exact h
  case h_2 t hw =>
    refine decide_eq_true_iff.trans ⟨fun h => .inl ⟨rfl, t, hw, h⟩, ?_⟩
    rintro (⟨_, t', hw', h⟩ | ⟨e, _⟩)
    · cases hw.symm.trans hw'
      exact h
    · cases e
  case h_3 noClose noOpen =>
    refine ⟨nofun, ?_⟩
    rintro (⟨rfl, t, hw, _⟩ | ⟨rfl, t, hw, _⟩)
    · exact (noOpen t rfl hw).elim
    · exact (noClose t rfl hw).elim

/-- R95, R98: what a CONFLICT does to the slot it is met on. -/
theorem endConflictingClose_met (n : Nat) (s : State) :
    ConflictMet n s (endConflictingClose n s) ∧ onlySlot n s (endConflictingClose n s) := by
  have same : (s.slot n).window = (s.slot n).window ∧ onlySlot n s s := ⟨rfl, fun _ _ => rfl, rfl, rfl, rfl⟩
  unfold endConflictingClose
  cases ho : (s.slot n).order with
  | none => exact ⟨⟨same.1, fun _ => rfl, fun o h => absurd (ho.symm.trans h) nofun⟩, same.2⟩
  | some o =>
    dsimp only
    split
    case isTrue hc =>
      have ended := endClose_closeEnded .conflict ho hc.1
      refine ⟨⟨by rw [ended.slot]; rfl, fun stays => ?_, fun o' ho' _ _ => ?_⟩, ended.slots⟩
      · rcases stays o ho with hopn | hopr
        · exact absurd (hc.1.symm.trans hopn) nofun
        · exact absurd hc.2 hopr
      · cases ho.symm.trans ho'
        refine ⟨ended.closeLeft, fun hg => ?_⟩
        rw [ended.grant, hg]
        rfl
    case isFalse hc =>
      refine ⟨⟨same.1, fun _ => rfl, fun o' ho' ht hx => ?_⟩, same.2⟩
      cases ho.symm.trans ho'
      exact absurd ⟨ht, hx⟩ hc

/-! ## The rows of the ladder (R92) -/

theorem countsClosed_iff {s : State} {n : Nat} : countsClosed s n = true ↔
    s.pos n = .closed ∨ s.pos n = .travel ∨ ∃ o, (s.slot n).order = some o ∧ o.type = .close := by
  unfold countsClosed
  cases (s.slot n).order <;> simp [or_assoc]

theorem mem_interlockOthers {n m : Nat} (hn : n < 3) : m ∈ interlockOthers n ↔ m < 3 ∧ m ≠ n := by
  interval_cases n <;> simp only [interlockOthers, List.mem_cons, List.not_mem_nil, or_false] <;> omega

theorem interlockFails_iff {s : State} {n : Nat} : interlockFails s n = true ↔ n < 3 ∧ (∀ m, m < 3 → m ≠ n →
    s.pos m = .closed ∨ s.pos m = .travel ∨ ∃ o, (s.slot m).order = some o ∧ o.type = .close) ∧ s.site.utilPar = false := by
  unfold interlockFails
  rw [Bool.and_eq_true, Bool.and_eq_true, decide_eq_true_eq, Bool.not_eq_true', List.all_eq_true, and_assoc]
  refine and_congr_right fun hn => and_congr_left fun _ => forall_congr' fun m => ?_
  rw [mem_interlockOthers hn, countsClosed_iff, and_imp]

theorem busLocked_iff {s : State} {n : Nat} : busLocked s n = true ↔ ∃ b ∈ s.busSides n, (s.busLock b).isSet = true :=
  List.any_eq_true

theorem all_dead_iff {l : List VClass} : l.all (fun c => c = .dead) = true ↔ ∀ c ∈ l, c = .dead := by
  simp only [List.all_eq_true, decide_eq_true_eq]

theorem sides_feeder {n : Nat} (h : 13 ≤ n) (s : State) : s.sides n = (busVolt (s.brk n).busSide, none) := by
  unfold State.sides
  split
  case h_6 => exact if_neg (Nat.not_le.2 h)
  all_goals omega

/-- R92: a feeder between a bus that is neither dead nor INDETERMINATE stands on a live one, so its row of the ladder refuses
nothing that the row before it lets pass. -/
theorem feeder_row_passes {n : Nat} {s : State} (settled : .indeterminate ∉ sideStates s n)
    (hd : ¬((∀ c ∈ sideStates s n, c = .dead) ∧ (s.brk n).deadDead = false)) :
    ¬(13 ≤ n ∧ isLive (s.declared (s.sides n).1) = false ∧ (s.brk n).deadDead = false) := by
  rintro ⟨hn, dark, off⟩
  have side : sideStates s n = [s.declared (s.sides n).1] := by
    unfold sideStates
    rw [sides_feeder hn]
  rw [side] at settled hd
  cases hc : s.declared (s.sides n).1 <;> simp [hc, off, isLive] at settled hd dark

theorem genOfSlot_eq_some {n k : Nat} : genOfSlot n = some k ↔ 5 ≤ n ∧ n ≤ 12 ∧ k = n - 4 := by
  unfold genOfSlot
  split <;> simp <;> omega

theorem sides_generator {n k : Nat} (h : genOfSlot n = some k) (s : State) : s.sides n = (n, some 4) := by
  obtain ⟨lo, hi, _⟩ := genOfSlot_eq_some.1 h
  unfold State.sides
  split
  case h_6 => exact if_pos hi
  all_goals omega

theorem bothLive_of_dead {n k : Nat} {s : State} (h : genOfSlot n = some k) (hd : s.declared 4 = .dead) :
    bothLive s n = false := by
  unfold bothLive
  rw [sides_generator h s]
  dsimp only
  rw [hd]
  exact Bool.and_false _

/-! ## The way of an accepted close (R93, R149) -/

/-- R87: a slot whose order goes in service. -/
def placed (t : OrdType) (x : Source) (r : Requester) (a : ArbSlot) : ArbSlot :=
  { a with
    lastTag := some (nextTag a)
    order := some { type := t, causes := [x], tag := nextTag a
                    phase := (match t with
                      | .opn => .issued
                      | .close => .syncWait)
                    issueTime := none, requesters := [r] } }

theorem putOrder_eq (n : Nat) (t : OrdType) (x : Source) (r : Requester) (s : State) :
    ∃ v, putOrder n t x r s = { s.modSlot n (placed t x r) with records := v } := note_eq .position _

section
variable (n : Nat) (t : OrdType) (x : Source) (r : Requester) (s : State)

theorem putOrder_par : (putOrder n t x r s).par = s.par := by
  obtain ⟨v, e⟩ := putOrder_eq n t x r s
  rw [e]
  rfl

theorem putOrder_declared (i : Nat) : (putOrder n t x r s).declared i = s.declared i := by
  obtain ⟨v, e⟩ := putOrder_eq n t x r s
  rw [e]
  rfl

end

theorem askGrant_free {k : Nat} {r : Requester} {s : State} (h : s.par.grant = none) (hd : s.declared 4 = .dead) :
    askGrant k r s = some (readyToClosing k (note .generator
      (s.modPar fun p => { p with grant := some ⟨k, r, decide ((s.gen k).state = .ready)⟩ }))) := by
  unfold askGrant
  rw [h]
  exact if_pos hd

theorem askGrant_held {k : Nat} {r : Requester} {g : Grant} {s : State} (h : s.par.grant = some g) : askGrant k r s =
    if g.gen = k then some (s.modPar fun p => { p with grant := some { g with requester := r } }) else none := by
  unfold askGrant
  rw [h]

section
variable {x : Source} {r : Requester} {n : Nat} {s : State}

theorem routeClose_sync (h : bothLive s n = true) :
    routeClose x r n s = (syncRequest n (putOrder n .close x r s), .taken (nextTag (s.slot n))) := by
  obtain ⟨v, e⟩ := putOrder_eq n .close x r s
  unfold routeClose
  rw [e]
  exact if_pos h

theorem routeClose_plain (h : bothLive s n = false) (hg : genOfSlot n = none ∨ s.declared 4 ≠ .dead) :
    routeClose x r n s = (issue n (putOrder n .close x r s), .taken (nextTag (s.slot n))) := by
  obtain ⟨v, e⟩ := putOrder_eq n .close x r s
  unfold routeClose
  rw [e]
  refine (if_neg (Bool.eq_false_iff.1 h)).trans ?_
  split
  case h_1 k hk hd => exact hg.elim (fun hg => absurd (hk.symm.trans hg) nofun) fun hg => absurd hd hg
  case h_2 => rfl

section
variable {k : Nat} (hk : genOfSlot n = some k) (hd : s.declared 4 = .dead)
include hk hd

theorem routeClose_granted {u : State} (ha : askGrant k r (putOrder n .close x r s) = some u) :
    routeClose x r n s = (issue n (markGrant n u), .taken (nextTag (s.slot n))) := by
  have dead := (putOrder_declared n .close x r s 4).trans hd
  unfold routeClose
  simp only [bothLive_of_dead hk dead, hk, dead, ha, Bool.false_eq_true, ↓reduceIte]

theorem routeClose_ungranted (ha : askGrant k r (putOrder n .close x r s) = none) : routeClose x r n s =
    (note .position ((putOrder n .close x r s).modSlot n fun a =>
      { a with order := none, lastResult := some ⟨.close, nextTag (s.slot n), [x], .refused .grant⟩ }),
      .refused .grant) := by
  have dead := (putOrder_declared n .close x r s 4).trans hd
  unfold routeClose
  simp only [bothLive_of_dead hk dead, hk, dead, ha, Bool.false_eq_true, ↓reduceIte]

end

section
variable (present : (s.brk n).present = true)
include present

theorem raiseClose_conflict (h : windowConflict s n x = true) :
    raiseClose x r n s = (endConflictingClose n s, .refused .conflict) := by
  unfold raiseClose
  rw [if_neg (by rw [present]; nofun)]
  exact if_pos h

section
variable (h : windowConflict s n x = false)
include h

theorem raiseClose_refused {why : Reason} (hl : closeLadder s n = .refused why) :
    raiseClose x r n s = (s, .refused why) := by
  unfold raiseClose
  simp only [present, h, hl, Bool.true_eq_false, Bool.false_eq_true, ↓reduceIte]

theorem raiseClose_noChange (hl : closeLadder s n = .noChange) : raiseClose x r n s = (setWindow n x s, .noChange) := by
  unfold raiseClose
  simp only [present, h, hl, Bool.true_eq_false, Bool.false_eq_true, ↓reduceIte]

section
variable {tag : Nat} {u : State} (hl : closeLadder s n = .taken tag)
include hl

/-- R93, R98: a close whose way is taken takes the operator window. -/
theorem raiseClose_taken {tag' : Nat} (hr : routeClose x r n s = (u, .taken tag')) :
    raiseClose x r n s = (setWindow n x u, .taken tag') := by
  unfold raiseClose
  simp only [present, h, hl, hr, Bool.true_eq_false, Bool.false_eq_true, ↓reduceIte]

theorem raiseClose_unrouted {why : Reason} (hr : routeClose x r n s = (u, .refused why)) :
    raiseClose x r n s = (u, .refused why) := by
  unfold raiseClose
  simp only [present, h, hl, hr, Bool.true_eq_false, Bool.false_eq_true, ↓reduceIte]

end

end

end

/-- R93, R149: the way of a close ends in a refusal only where another generator holds the dead-bus grant. -/
theorem routeClose_reply :
    (∀ k g, genOfSlot n = some k → s.declared 4 = .dead → s.par.grant = some g → g.gen ≠ k →
      ∃ u, routeClose x r n s = (u, .refused .grant)) ∧
    ((∀ k g, genOfSlot n = some k → s.declared 4 = .dead → s.par.grant = some g → g.gen = k) →
      ∃ u, routeClose x r n s = (u, .taken (nextTag (s.slot n)))) := by
  have par := putOrder_par n .close x r s
  refine ⟨fun k g hk hd hg hne => ?_, fun own => ?_⟩
  · exact ⟨_, routeClose_ungranted hk hd ((askGrant_held ((congrArg Par.grant par).trans hg)).trans (if_neg hne))⟩
  · by_cases dead : s.declared 4 = .dead
    · cases hk : genOfSlot n with
      | none =>
        cases live : bothLive s n with
        | true => exact ⟨_, routeClose_sync live⟩
        | false => exact ⟨_, routeClose_plain live (.inl hk)⟩
      | some k =>
        cases hg : s.par.grant with
        | none =>
          exact ⟨_, routeClose_granted hk dead (askGrant_free ((congrArg Par.grant par).trans hg)
            ((putOrder_declared n .close x r s 4).trans dead))⟩
        | some g =>
          exact ⟨_, routeClose_granted hk dead ((askGrant_held ((congrArg Par.grant par).trans hg)).trans
            (if_pos (own k g hk dead hg)))⟩
    · cases live : bothLive s n with
      | true => exact ⟨_, routeClose_sync live⟩
      | false => exact ⟨_, routeClose_plain live (.inr dead)⟩

end

/-- Settles O32: a CONFLICT, then row after row of the ladder; the way of a close that passes them all. -/
theorem closeLadder_decides : Obligations.CloseLadder := by
  intro x r n s hn present a side closedLike reply p1 p2 p3 p4 p5 p6 p7 p8 p9 p10 p11 p12
  have refused : ∀ {why}, p1 ∧ closeLadder s n = .refused why → reply = .refused why := fun h =>
    congrArg Prod.snd (raiseClose_refused present h.1 h.2)
  have row0 := fun p : p1 => And.intro p (closeLadder.eq_1 s n)
  have row1 := fun p : p2 => (row0 p.1).imp_right (·.trans (if_neg (by
    rw [show (s.slot n).order = none from p.2]
    nofun)))
  have row2 := fun p : p3 => (row1 p.1).imp_right (·.trans (if_neg (Bool.eq_false_iff.1 p.2)))
  have row3 := fun p : p4 => (row2 p.1).imp_right (·.trans (if_neg (Bool.eq_false_iff.1 p.2)))
  have row4 := fun p : p5 => (row3 p.1).imp_right (·.trans (if_neg (by
    rw [busLocked_iff]
    rintro ⟨b, hb, set⟩
    exact absurd (set.symm.trans (p.2 b hb)) nofun)))
  have row5 := fun p : p6 => (row4 p.1).imp_right (·.trans (if_neg (by rcases p.2 with h | h <;> rw [h] <;> decide)))
  have row6 := fun p : p7 => (row5 p.1).imp_right (·.trans (if_neg (Bool.eq_false_iff.1 p.2)))
  have row7 := fun p : p8 => (row6 p.1).imp_right (·.trans (if_neg (by rw [p.2]; decide)))
  have row8 := fun p : p9 => (row7 p.1).imp_right (·.trans (if_neg (by rw [interlockFails_iff]; exact p.2)))
  have row9 := fun p : p10 => (row8 p.1).imp_right (·.trans (if_neg p.2))
  have row10 := fun p : p11 => (row9 p.1).imp_right (·.trans (if_neg (by rw [all_dead_iff]; exact p.2)))
  have row11 := fun p : p11 => (row10 p).imp_right (·.trans (if_neg (feeder_row_passes p.1.2 p.2)))
  have row12 := fun p : p12 => (row11 p.1).imp_right (·.trans (if_neg p.2))
  refine ⟨windowConflict_iff, fun h => ?_, fun p h => refused ((row0 p).imp_right (·.trans (if_pos h))),
    fun p h => refused ((row1 p).imp_right (·.trans (if_pos h))),
    fun p h => refused ((row2 p).imp_right (·.trans (if_pos h))),
    fun p h => refused ((row3 p).imp_right (·.trans (if_pos (busLocked_iff.2 h)))),
    fun p h => refused ((row4 p).imp_right (·.trans (if_pos h))),
    fun p h => refused ((row5 p).imp_right (·.trans (if_pos h))), fun p h => ?_,
    fun p hn h hu => refused ((row7 p).imp_right (·.trans (if_pos (interlockFails_iff.2 ⟨hn, h, hu⟩)))),
    fun p h => refused ((row8 p).imp_right (·.trans (if_pos h))),
    fun p h hd => refused ((row9 p).imp_right (·.trans (if_pos ⟨all_dead_iff.2 h, hd⟩))),
    fun p h hd => refused ((row11 p).imp_right (·.trans (if_pos ⟨h, hd⟩))), fun p h => ?_, fun p h => ?_⟩
  · rw [show reply = _ from congrArg Prod.snd (raiseClose_conflict present h), raiseClose_conflict present h]
    exact ⟨rfl, (endConflictingClose_met n s).1⟩
  · obtain ⟨passes, row⟩ := row6 p
    exact congrArg Prod.snd (raiseClose_noChange present passes (row.trans (if_pos h)))
  · obtain ⟨passes, row⟩ := row12 p
    obtain ⟨lo, hi, dead, g, hg, hne⟩ := h
    obtain ⟨u, e⟩ := (routeClose_reply (x := x) (r := r)).1 _ g (genOfSlot_eq_some.2 ⟨lo, hi, rfl⟩) dead hg hne
    exact congrArg Prod.snd (raiseClose_unrouted present passes row e)
  · obtain ⟨passes, row⟩ := row12 p
    obtain ⟨u, e⟩ := (routeClose_reply (x := x) (r := r)).2 fun k g hk hd hg => by
      obtain ⟨lo, hi, rfl⟩ := genOfSlot_eq_some.1 hk
      by_contra hne
      exact h ⟨lo, hi, hd, g, hg, hne⟩
    exact congrArg Prod.snd (raiseClose_taken present passes row e)

end Sys2Proof.Machine
end


section
/-!
OPERATE (O33): an order goes in service and is sent, an open joins or preempts, and an accepted close takes its way.
-/

namespace Sys2Proof.Machine

/-! ## Frames after acts that send nothing -/

theorem sendFrame_link {s t v : State} (mode : t.mgmt.mode = s.mgmt.mode) (image : t.mgmt.image = s.mgmt.image)
    (link : t.link = v.link) (n : Nat) (c : OrderCode) (tag : Nat) (x : Source) : (sendFrame n c tag x t).link =
      (if s.mgmt.mode = .live then originate (s.brk n).station (.order n c tag x) v else v).link := by
  unfold sendFrame
  rw [mode, brk_of_image image]
  split
  · rw [originate_of_link link]
  · exact link

/-! ## An order goes in service (R87, R88) -/

/-- R87, R88: a new order, ISSUED at a moment. -/
def issuedOrder (now : Nat) (t : OrdType) (x : Source) (r : Requester) (a : ArbSlot) : Order :=
  { type := t, causes := [x], tag := nextTag a, phase := .issued, issueTime := some now, requesters := [r]
    nextRepeat := now + 10000 }

/-- R90: an open that another request joins. -/
def joinedBy (x : Source) (r : Requester) (o : Order) : Order :=
  { o with causes := if x ∈ o.causes then o.causes else o.causes ++ [x], requesters := o.requesters ++ [r] }

section
variable {n : Nat} {s : State} (hn : n < s.arb.slots.length)
include hn

theorem putOrder_made (t : OrdType) (x : Source) (r : Requester) :
    SlotMade n (placed t x r (s.slot n)) s.link s (putOrder n t x r s) :=
  (SlotMade.modSlot (placed t x r) hn).note .position

theorem issue_putOrder_made (t : OrdType) (x : Source) (r : Requester) :
    SlotMade n { s.slot n with lastTag := some (nextTag (s.slot n)), order := some (issuedOrder s.now t x r (s.slot n)) }
      (sendFrame n (codeOf t) (nextTag (s.slot n)) x s).link s (issue n (putOrder n t x r s)) := by
  have acts := Internal.putOrder n t x r s
  have put := putOrder_made hn t x r
  have issued := issue_made (congrArg ArbSlot.order put.slot)
  rw [put.slot, acts.outside.now, sendFrame_after acts put.link] at issued
  exact put.trans issued

/-- R89: an open of an operator or a sequencer goes in service and is sent. -/
theorem putOpen_made {x : Source} (hx : protective x = false) (r : Requester) :
    SlotMade n
      { s.slot n with lastTag := some (nextTag (s.slot n)), order := some (issuedOrder s.now .opn x r (s.slot n)) }
      (sendFrame n .opn (nextTag (s.slot n)) x s).link s (putOpen n x r s) := by
  unfold putOpen startProtective
  rw [hx]
  exact issue_putOrder_made hn .opn x r

/-- R90: the open in service gains the cause and the requester of one that joins. -/
theorem joinOpen_made {x : Source} (hx : protective x = false) (o : Order) (r : Requester) :
    SlotMade n { s.slot n with order := some (joinedBy x r o) } s.link s (joinOpen n o x r s) := by
  unfold joinOpen startProtective
  rw [hx]
  simp only [Bool.false_eq_true, ↓reduceIte, ite_self]
  exact .modSlot (fun a => { a with order := some (joinedBy x r o) }) hn

/-- R98: the operator window after an accepted open. -/
theorem setWindow_open : SlotMade n { s.slot n with window := some (.opn, s.now) } s.link s (setWindow n .oprO s) :=
  .modSlot (fun a => { a with window := some (.opn, s.now) }) hn

/-- R98: the operator window after an accepted close. -/
theorem setWindow_close : SlotMade n { s.slot n with window := some (.close, s.now) } s.link s (setWindow n .oprC s) :=
  .modSlot (fun a => { a with window := some (.close, s.now) }) hn

end

theorem setWindow_pos (n : Nat) (x : Source) (s : State) : (setWindow n x s).pos n = s.pos n := by
  unfold setWindow
  split
  · exact (Quiet.modSlot s n (f := fun a => { a with window := some (.opn, s.now) })).pos n
  · exact (Quiet.modSlot s n (f := fun a => { a with window := some (.close, s.now) })).pos n
  · rfl

/-! ## An operator's open (R89 to R91, R98) -/

theorem windowConflict_open {n : Nat} {s : State} (h : ∀ t, (s.slot n).window = some (.close, t) → t + 500000 ≤ s.now) :
    windowConflict s n .oprO = false := by
  rw [Bool.eq_false_iff, ne_eq, windowConflict_iff]
  rintro (⟨e, _⟩ | ⟨_, t, hw, ht⟩)
  · cases e
  · exact absurd ht (Nat.not_lt.2 (h t hw))

theorem windowConflict_close {n : Nat} {s : State} (h : ∀ t, (s.slot n).window = some (.opn, t) → t + 500000 ≤ s.now) :
    windowConflict s n .oprC = false := by
  rw [Bool.eq_false_iff, ne_eq, windowConflict_iff]
  rintro (⟨_, t, hw, ht⟩ | ⟨e, _⟩)
  · exact absurd ht (Nat.not_lt.2 (h t hw))
  · cases e

section
variable {r : Requester} {n : Nat} {s : State} (present : (s.brk n).present = true)
include present

theorem operatorOpen_local (h : (s.slot n).localCtl = true) : raiseOpen .oprO r n s = (s, .refused .loc) := by
  unfold raiseOpen
  simp only [present, h, Bool.true_eq_false, reduceCtorEq, or_true, and_self, ↓reduceIte]

section
variable (remote : (s.slot n).localCtl = false)
include remote

theorem operatorOpen_conflict (h : windowConflict s n .oprO = true) :
    raiseOpen .oprO r n s = (endConflictingClose n s, .refused .conflict) := by
  unfold raiseOpen
  simp only [present, remote, h, Bool.true_eq_false, Bool.false_eq_true, false_and, ↓reduceIte]

section
variable (hn : n < s.arb.slots.length) (h : windowConflict s n .oprO = false)
include hn h

theorem operatorOpen_noChange (ho : (s.slot n).order = none) (hp : s.pos n = .opn) : ∃ u,
    raiseOpen .oprO r n s = (u, .noChange) ∧ SlotSet n { s.slot n with window := some (.opn, s.now) } s.link s u := by
  have set := setWindow_open hn
  have order : ((setWindow n .oprO s).slot n).order = none := set.slot ▸ ho
  refine ⟨_, ?_, set.toSlotSet⟩
  unfold raiseOpen
  simp only [present, remote, h, order, setWindow_pos, hp, Bool.true_eq_false, Bool.false_eq_true, false_and, ↓reduceIte]

theorem operatorOpen_sent (ho : (s.slot n).order = none) (hp : s.pos n ≠ .opn) : ∃ u,
    raiseOpen .oprO r n s = (u, .taken (nextTag (s.slot n))) ∧
      SlotSet n { s.slot n with window := some (.opn, s.now), lastTag := some (nextTag (s.slot n))
                                order := some (issuedOrder s.now .opn .oprO r (s.slot n)) }
        (sendFrame n .opn (nextTag (s.slot n)) .oprO s).link s u := by
  have acts := Internal.setWindow n .oprO s
  have set := setWindow_open hn
  have order : ((setWindow n .oprO s).slot n).order = none := set.slot ▸ ho
  have put := putOpen_made (acts.slots ▸ hn) (x := .oprO) rfl r
  have tag : nextTag ((setWindow n .oprO s).slot n) = nextTag (s.slot n) := by rw [set.slot]; rfl
  have raised : raiseOpen .oprO r n s = (putOpen n .oprO r (setWindow n .oprO s), .taken (nextTag (s.slot n))) := by
    unfold raiseOpen
    simp only [present, remote, h, order, setWindow_pos, hp, tag, Bool.true_eq_false, Bool.false_eq_true, false_and,
      ↓reduceIte]
  refine ⟨_, raised, ?_⟩
  rw [set.slot, acts.outside.now, sendFrame_after acts set.link] at put
  exact set.toSlotSet.trans put.toSlotSet

theorem operatorOpen_joins {o : Order} (ho : (s.slot n).order = some o) (ht : o.type = .opn) : ∃ u,
    raiseOpen .oprO r n s = (u, .taken o.tag) ∧
      SlotSet n { s.slot n with window := some (.opn, s.now), order := some (joinedBy .oprO r o) } s.link s u := by
  have set := setWindow_open hn
  have order : ((setWindow n .oprO s).slot n).order = some o := set.slot ▸ ho
  have joined := joinOpen_made ((Internal.setWindow n .oprO s).slots ▸ hn) (x := .oprO) rfl o r
  have raised : raiseOpen .oprO r n s = (joinOpen n o .oprO r (setWindow n .oprO s), .taken o.tag) := by
    unfold raiseOpen
    simp only [present, remote, h, order, ht, Bool.true_eq_false, Bool.false_eq_true, false_and, ↓reduceIte]
  refine ⟨_, raised, ?_⟩
  rw [set.slot, set.link] at joined
  exact set.toSlotSet.trans joined.toSlotSet

/-- R91: an open preempts a close, whose WITHDRAW is sent before the open where the close was ISSUED. -/
theorem operatorOpen_preempts {o : Order} (ho : (s.slot n).order = some o) (ht : o.type = .close) : ∃ u v,
    raiseOpen .oprO r n s = (u, .taken (nextTag (s.slot n))) ∧ Internal s v ∧
      v.link = (if o.phase = .issued then sendFrame n .withdraw o.tag (causeOf o.causes) s else s).link ∧
      SlotSet n { afterClose s.now o .preempted (decide (o.phase = .issued)) (s.slot n) with
        window := some (.opn, s.now), lastTag := some (nextTag (s.slot n))
        order := some (issuedOrder s.now .opn .oprO r (s.slot n)) }
        (sendFrame n .opn (nextTag (s.slot n)) .oprO v).link s u ∧
      ∀ q ∈ o.requesters, .told q n .close (some o.tag) .preempted ∈ u.mail := by
  have acts := Internal.setWindow n .oprO s
  have set := setWindow_open hn
  have order : ((setWindow n .oprO s).slot n).order = some o := set.slot ▸ ho
  have ended := endClose_closeEnded .preempted order ht
  have both := acts.trans (.endClose n .preempted _)
  have put := putOpen_made (both.slots ▸ hn) (x := .oprO) rfl r
  have slot := ended.slot
  rw [set.slot, acts.outside.now] at slot
  have tag : nextTag ((endClose n .preempted (setWindow n .oprO s)).slot n) = nextTag (s.slot n) := by
    rw [slot]
    rfl
  have link := ended.link
  rw [sendFrame_after acts set.link] at link
  have raised : raiseOpen .oprO r n s =
      (putOpen n .oprO r (endClose n .preempted (setWindow n .oprO s)), .taken (nextTag (s.slot n))) := by
    unfold raiseOpen
    simp only [present, remote, h, order, ht, tag, Bool.true_eq_false, Bool.false_eq_true, false_and, ↓reduceIte]
  refine ⟨_, _, raised, both, link.trans ?_, ?_, fun q hq => ?_⟩
  · cases o.phase with
    | issued => rfl
    | syncWait => exact set.link
  · rw [slot, both.outside.now] at put
    have left : SlotSet n _ _ s _ := set.toSlotSet.trans ⟨ended.slots, slot, rfl, ended.seqs⟩
    exact left.trans put.toSlotSet
  · rw [put.mail]
    exact ended.told q hq

/-- R98: every accepted open acts on its own slot and takes the window. -/
theorem operatorOpen_accepted : onlySlot n s (raiseOpen .oprO r n s).1 ∧
    ((raiseOpen .oprO r n s).1.slot n).window = some (.opn, s.now) := by
  cases ho : (s.slot n).order with
  | none =>
    by_cases hp : s.pos n = .opn
    · obtain ⟨u, e, set⟩ := operatorOpen_noChange (r := r) present remote hn h ho hp
      exact e ▸ ⟨set.slots, congrArg ArbSlot.window set.slot⟩
    · obtain ⟨u, e, set⟩ := operatorOpen_sent (r := r) present remote hn h ho hp
      exact e ▸ ⟨set.slots, congrArg ArbSlot.window set.slot⟩
  | some o =>
    cases ht : o.type with
    | opn =>
      obtain ⟨u, e, set⟩ := operatorOpen_joins (r := r) present remote hn h ho ht
      exact e ▸ ⟨set.slots, congrArg ArbSlot.window set.slot⟩
    | close =>
      obtain ⟨u, v, e, _, _, set, _⟩ := operatorOpen_preempts (r := r) present remote hn h ho ht
      exact e ▸ ⟨set.slots, congrArg ArbSlot.window set.slot⟩

end

end

end

/-! ## A place in the channels or the queue (R151) -/

theorem readyToClosing_gen {k : Nat} {s : State} (h1 : 1 ≤ k) (hk : k ≤ s.par.gens.length) : (readyToClosing k s).gen k =
    { s.gen k with state := if (s.gen k).state = .ready then .closing else (s.gen k).state } := by
  unfold readyToClosing
  split
  · exact setGenState_gen h1 hk .closing
  · rfl

theorem gen_of_par {s t : State} (h : t.par = s.par) (k : Nat) : t.gen k = s.gen k := by
  unfold State.gen
  rw [h]

theorem readyToClosing_gen_other {k j : Nat} (h : 1 ≤ j) (hj : j ≠ k) (s : State) :
    (readyToClosing k s).gen j = s.gen j := by
  unfold readyToClosing setGenState
  split
  · split
    · rfl
    · exact (gen_of_par (note_par _ _) j).trans (State.modGen_gen_other s k j _ h hj)
  · rfl

theorem assignChannel_gen {i k : Nat} {r : SyncReq} {s : State} (hg : genOfSlot r.slot = some k)
    (hk : k ≤ s.par.gens.length) : (assignChannel i r s).gen k =
      { s.gen k with state := if (s.gen k).state = .ready then .closing else (s.gen k).state } := by
  obtain ⟨lo, _, e⟩ := genOfSlot_eq_some.1 hg
  unfold assignChannel channelTaken
  rw [gen_of_par (note_par _ _), hg]
  exact readyToClosing_gen (by omega) hk

theorem channel_used {l : List (Option Channel)} {i : Nat} (lt : i < l.length) (h : l[i] ≠ none) :
    (!(l.getD i none).isNone) = true := by
  rw [List.getD_eq_getElem?_getD, List.getElem?_eq_getElem lt, Option.getD_some, Bool.not_eq_true',
    Option.isNone_eq_false_iff, Option.isSome_iff_ne_none]
  exact h

theorem freeChannel_lowest {i : Nat} {s : State} (hi : i < 4) (free : s.par.channels[i]? = some none)
    (lowest : ∀ j, j < i → s.par.channels[j]? ≠ some none) (four : s.par.channels.length = 4) : freeChannel s = some i := by
  refine List.find?_range_eq_some.2 ⟨?_, List.mem_range.2 hi, fun j hj => ?_⟩
  · rw [List.getD_eq_getElem?_getD, free]
    rfl
  · have lt : j < s.par.channels.length := by omega
    exact channel_used lt fun e => lowest j hj ((List.getElem?_eq_getElem lt).trans (congrArg some e))

theorem freeChannel_none {s : State} (used : none ∉ s.par.channels) (four : s.par.channels.length = 4) :
    freeChannel s = none := by
  refine List.find?_range_eq_none.2 fun i hi => ?_
  have lt : i < s.par.channels.length := by omega
  exact channel_used lt fun e => used (e ▸ List.getElem_mem lt)

theorem dropPlace_placeless {n : Nat} {s : State} (hc : channelOf s n = none) (hq : ∀ e ∈ s.par.queue, e.slot ≠ n) :
    dropPlace n s = s := by
  unfold dropPlace
  rw [hc]
  refine if_neg fun h => ?_
  obtain ⟨e, he, hn⟩ := List.any_eq_true.1 h
  exact hq e he (of_decide_eq_true hn)

theorem BesideArb.syncRequest (n : Nat) (s : State) : BesideArb s (syncRequest n s) := by
  unfold Machine.syncRequest
  refine (BesideArb.dropPlace n s).trans ?_
  dsimp only
  split
  · exact .assignChannel _ _ _
  · exact .modPar _ _

theorem syncRequest_grant (n : Nat) (s : State) : (syncRequest n s).par.grant = s.par.grant := by
  refine Eq.trans ?_ (dropPlace_grant n s)
  unfold syncRequest
  dsimp only
  split
  case h_1 i _ =>
    obtain ⟨g, e⟩ := assignChannel_par i (syncReqFor (dropPlace n s) n) (dropPlace n s)
    rw [e]
  case h_2 => rfl

section
variable {n : Nat} {s : State} (hc : channelOf s n = none) (hq : ∀ e ∈ s.par.queue, e.slot ≠ n)
include hc hq

theorem syncRequest_assigned {i : Nat} (hi : freeChannel s = some i) :
    syncRequest n s = assignChannel i (syncReqFor s n) s := by
  unfold syncRequest
  simp only [dropPlace_placeless hc hq, hi]

theorem syncRequest_queued (hi : freeChannel s = none) :
    syncRequest n s = s.modPar fun p => { p with queue := p.queue ++ [syncReqFor s n] } := by
  unfold syncRequest
  simp only [dropPlace_placeless hc hq, hi]

end

/-- R151: where a request stands that had no place. -/
theorem syncRequest_places {n x y : Nat} {s : State} (sides : s.sides n = (x, some y)) (hc : channelOf s n = none)
    (hq : ∀ e ∈ s.par.queue, e.slot ≠ n) (four : s.par.channels.length = 4) (eight : s.par.gens.length = 8) :
    (∀ i, i < 4 → s.par.channels[i]? = some none → (∀ j, j < i → s.par.channels[j]? ≠ some none) →
      (syncRequest n s).par.channels[i]? = some (some
        { slot := n, ref := y, inc := x, closing := (s.brk n).closingTime, start := s.now }) ∧
      (∀ j, j ≠ i → (syncRequest n s).par.channels[j]? = s.par.channels[j]?) ∧
      (syncRequest n s).par.queue = s.par.queue ∧
      ∀ k, genOfSlot n = some k → ((syncRequest n s).gen k).state =
        if (s.gen k).state = .ready then .closing else (s.gen k).state) ∧
    (none ∉ s.par.channels → (syncRequest n s).par.channels = s.par.channels ∧ (syncRequest n s).par.gens = s.par.gens ∧
      (syncRequest n s).par.queue = s.par.queue ++ [⟨n, y, x, (s.brk n).closingTime, s.now⟩]) := by
  have request : syncReqFor s n = ⟨n, y, x, (s.brk n).closingTime, s.now⟩ := by
    unfold syncReqFor
    rw [sides]
    rfl
  refine ⟨fun i hi free lowest => ?_, fun used => ?_⟩
  · rw [syncRequest_assigned hc hq (freeChannel_lowest hi free lowest four), request]
    obtain ⟨g, e⟩ := assignChannel_par i ⟨n, y, x, (s.brk n).closingTime, s.now⟩ s
    refine ⟨?_, fun j hj => ?_, by rw [e], fun k hk => ?_⟩
    · rw [e]
      exact List.getElem?_set_self (by omega)
    · rw [e]
      exact List.getElem?_set_ne (Ne.symm hj)
    · have := genOfSlot_eq_some.1 hk
      rw [assignChannel_gen hk (by omega)]
  · rw [syncRequest_queued hc hq (freeChannel_none used four), request]
    exact ⟨rfl, rfl, rfl⟩

/-! ## An operator's close (R92, R93, R149) -/

theorem BesideArb.askGrant {k : Nat} {r : Requester} {s u : State} (h : askGrant k r s = some u) : BesideArb s u := by
  unfold Machine.askGrant at h
  split at h
  · split at h
    · cases h
      exact .modPar s _
    · cases h
  · split at h
    · cases h
      exact ((BesideArb.modPar s _).trans (.note _ _)).trans (.readyToClosing _ _)
    · cases h

/-- R149: what the dead-bus grant changes when it is free, or its generator's already. -/
structure GrantTaken (k : Nat) (r : Requester) (s w : State) : Prop where
  channels : w.par.channels = s.par.channels
  queue : w.par.queue = s.par.queue
  others : ∀ j, 1 ≤ j → j ≠ k → w.gen j = s.gen j
  held : ∀ g, s.par.grant = some g → w.par.grant = some { g with requester := r } ∧ w.par.gens = s.par.gens
  free : s.par.grant = none → w.par.grant = some ⟨k, r, decide ((s.gen k).state = .ready)⟩ ∧
    w.gen k = { s.gen k with state := if (s.gen k).state = .ready then .closing else (s.gen k).state }

theorem askGrant_takes {k : Nat} {r : Requester} {s : State} (h1 : 1 ≤ k) (hk : k ≤ s.par.gens.length)
    (dead : s.declared 4 = .dead) (own : ∀ g, s.par.grant = some g → g.gen = k) :
    ∃ w, askGrant k r s = some w ∧ GrantTaken k r s w := by
  cases hg : s.par.grant with
  | some g =>
    refine ⟨_, (askGrant_held hg).trans (if_pos (own g hg)), rfl, rfl, fun _ _ _ => rfl, fun g' h => ?_, fun h => ?_⟩
    · cases hg.symm.trans h
      exact ⟨rfl, rfl⟩
    · cases hg.symm.trans h
  | none =>
    refine ⟨_, askGrant_free hg dead, ?_⟩
    have noted := note_par .generator
      (s.modPar fun p => { p with grant := some ⟨k, r, decide ((s.gen k).state = .ready)⟩ })
    generalize note .generator (s.modPar fun p => { p with grant := some ⟨k, r, decide ((s.gen k).state = .ready)⟩ }) = t
      at noted
    have gens : t.par.gens = s.par.gens := by rw [noted]; rfl
    have gen : ∀ j, t.gen j = s.gen j := fun j => congrArg (fun l : List Gen => l.getD (j - 1) {}) gens
    obtain ⟨g, e⟩ := readyToClosing_par k t
    refine ⟨by rw [e, noted]; rfl, by rw [e, noted]; rfl, fun j hj hne => ?_, fun g' h => ?_, fun _ => ⟨?_, ?_⟩⟩
    · rw [readyToClosing_gen_other hj hne, gen]
    · cases hg.symm.trans h
    · rw [e, noted]
      rfl
    · rw [readyToClosing_gen h1 (gens ▸ hk), gen]

section
variable {r : Requester} {n : Nat} {s : State} (present : (s.brk n).present = true) (hn : n < s.arb.slots.length)
  (h : windowConflict s n .oprC = false) (hl : closeLadder s n = .taken (nextTag (s.slot n)))
include present hn h hl

theorem operatorClose_sent (dark : bothLive s n = false) (hg : genOfSlot n = none ∨ s.declared 4 ≠ .dead) : ∃ u,
    raiseClose .oprC r n s = (u, .taken (nextTag (s.slot n))) ∧ u.par = s.par ∧
      SlotSet n { s.slot n with window := some (.close, s.now), lastTag := some (nextTag (s.slot n))
                                order := some (issuedOrder s.now .close .oprC r (s.slot n)) }
        (sendFrame n .close (nextTag (s.slot n)) .oprC s).link s u := by
  have acts := (Internal.putOrder n .close .oprC r s).trans (.issue n _)
  have sent := issue_putOrder_made hn .close .oprC r
  have set := setWindow_close (acts.slots ▸ hn)
  rw [sent.slot, sent.link, acts.outside.now] at set
  have made := sent.trans set
  exact ⟨_, raiseClose_taken present h hl (routeClose_plain dark hg), made.par, made.toSlotSet⟩

theorem operatorClose_waits (live : bothLive s n = true) : ∃ u v,
    raiseClose .oprC r n s = (u, .taken (nextTag (s.slot n))) ∧ v = putOrder n .close .oprC r s ∧
      u.par = (syncRequest n v).par ∧
      SlotSet n { placed .close .oprC r (s.slot n) with window := some (.close, s.now) } s.link s u := by
  have acts := (Internal.putOrder n .close .oprC r s).trans (.syncRequest n _)
  have waits := (putOrder_made hn .close .oprC r).toSlotSet.beside (.syncRequest n _)
  have set := setWindow_close (acts.slots ▸ hn)
  rw [waits.slot, waits.link, acts.outside.now] at set
  exact ⟨_, _, raiseClose_taken present h hl (routeClose_sync live), rfl, set.par, waits.trans set.toSlotSet⟩

section
variable {k : Nat} (hk : genOfSlot n = some k) (dead : s.declared 4 = .dead)
include hk dead

theorem operatorClose_granted {w : State} (ha : askGrant k r (putOrder n .close .oprC r s) = some w) : ∃ u,
    raiseClose .oprC r n s = (u, .taken (nextTag (s.slot n))) ∧ u.par = w.par ∧
      SlotSet n { s.slot n with
        window := some (.close, s.now), lastTag := some (nextTag (s.slot n))
        order := some { issuedOrder s.now .close .oprC r (s.slot n) with grantHeld := true } }
        (sendFrame n .close (nextTag (s.slot n)) .oprC s).link s u := by
  have acts := ((Internal.putOrder n .close .oprC r s).trans (.askGrant ha)).trans (.markGrant n w)
  have granted := (putOrder_made hn .close .oprC r).toSlotSet.beside (.askGrant ha)
  have marked : SlotMade n _ _ w (markGrant n w) := .modSlot _ (((Internal.putOrder n .close .oprC r s).trans
    (.askGrant ha)).slots ▸ hn)
  rw [granted.slot, granted.link] at marked
  have issued := issue_made (congrArg ArbSlot.order marked.slot)
  have all := acts.trans (.issue n _)
  have set := setWindow_close (all.slots ▸ hn)
  rw [marked.slot, acts.outside.now, sendFrame_after acts marked.link] at issued
  rw [issued.slot, issued.link, all.outside.now] at set
  have made := (marked.trans issued).trans set
  exact ⟨_, raiseClose_taken present h hl (routeClose_granted hk dead ha), made.par, granted.trans made.toSlotSet⟩

theorem operatorClose_ungranted (ha : askGrant k r (putOrder n .close .oprC r s) = none) : ∃ u,
    raiseClose .oprC r n s = (u, .refused .grant) ∧ u.par = s.par ∧
      SlotSet n { s.slot n with
        lastTag := some (nextTag (s.slot n)), order := none
        lastResult := some ⟨.close, nextTag (s.slot n), [.oprC], .refused .grant⟩ } s.link s u := by
  have put := putOrder_made hn .close .oprC r
  have cleared := (SlotMade.modSlot (fun a => { a with
    order := none, lastResult := some ⟨.close, nextTag (s.slot n), [.oprC], .refused .grant⟩ })
    ((Internal.putOrder n .close .oprC r s).slots ▸ hn)).note .position
  rw [put.slot, put.link] at cleared
  have made := put.trans cleared
  exact ⟨_, raiseClose_unrouted present h hl (routeClose_ungranted hk dead ha), made.par, made.toSlotSet⟩

end

/-- R88, R93: every close that the ladder lets pass acts on its own slot and takes the tag that follows. -/
theorem operatorClose_routed : onlySlot n s (raiseClose .oprC r n s).1 ∧ (raiseClose .oprC r n s).1.seqs = s.seqs ∧
    ((raiseClose .oprC r n s).1.slot n).lastTag = some (nextTag (s.slot n)) := by
  by_cases live : bothLive s n = true
  · obtain ⟨u, v, e, _, _, set⟩ := operatorClose_waits (r := r) present hn h hl live
    exact e ▸ ⟨set.slots, set.seqs, congrArg ArbSlot.lastTag set.slot⟩
  rw [Bool.not_eq_true] at live
  by_cases hg : genOfSlot n = none ∨ s.declared 4 ≠ .dead
  · obtain ⟨u, e, _, set⟩ := operatorClose_sent (r := r) present hn h hl live hg
    exact e ▸ ⟨set.slots, set.seqs, congrArg ArbSlot.lastTag set.slot⟩
  rw [not_or, not_not] at hg
  obtain ⟨k, hk⟩ := Option.ne_none_iff_exists'.1 hg.1
  cases ha : askGrant k r (putOrder n .close .oprC r s) with
  | some w =>
    obtain ⟨u, e, _, set⟩ := operatorClose_granted (r := r) present hn h hl hk hg.2 ha
    exact e ▸ ⟨set.slots, set.seqs, congrArg ArbSlot.lastTag set.slot⟩
  | none =>
    obtain ⟨u, e, _, set⟩ := operatorClose_ungranted (r := r) present hn h hl hk hg.2 ha
    exact e ▸ ⟨set.slots, set.seqs, congrArg ArbSlot.lastTag set.slot⟩

end

theorem exec_operate_taken {r : Request} {rest : List Request} {n : Nat} {t : OrdType} {s : State}
    (taken : Taken .operate r rest s) (harg : r.args = .operate n (some t)) :
    exec .operate s = .next (settleQueue (operate r n t (setRequests rest s))) := by
  refine congrArg Host.Outcome.next ((takeKind_taken taken _).trans (congrArg settleQueue ?_))
  unfold actOperate
  rw [harg]

/-- Settles O33: an open and a close of an operator, each by the way its case takes. -/
theorem operateAnswered : Obligations.OperateAnswered := by
  intro r rest n s safe taken s' who a sent opening
  have slot : ∀ t, r.args = .operate n t → n < s'.arb.slots.length := fun t harg => by
    have := taken.numbered
    rw [harg] at this
    exact safe.slots ▸ of_decide_eq_true this
  refine ⟨fun t harg => ?_, fun harg => ?_, fun harg present window ladder => ?_⟩
  · have run := exec_operate_taken taken harg
    have answered : ∀ (v : State) (reply : Reply),
        (.next (settleQueue (answerReply r reply (finish v))) : Host.Outcome State Fault Refusal) =
          .next (settleQueue (match reply with
            | .refused why => refuse r why (finish v)
            | .noChange => answerDone r (finish v)
            | .taken _ => answerDone r (finish v))) := fun v reply => by cases reply <;> rfl
    cases t with
    | opn =>
      exact ⟨(raiseOpen .oprO who n s').1, (raiseOpen .oprO who n s').2, run.trans (answered _ _), rfl⟩
    | close =>
      exact ⟨(raiseClose .oprC who n s').1, (raiseClose .oprC who n s').2, run.trans (answered _ _), rfl⟩
  · intro q
    have hn := slot _ harg
    refine ⟨fun absent => if_pos absent, fun present here => operatorOpen_local present here,
      fun present remote ⟨t, hw, ht⟩ => ?_, fun present remote window => ?_⟩
    · have e : q = _ := operatorOpen_conflict present remote (windowConflict_iff.2 (.inr ⟨rfl, t, hw, ht⟩))
      obtain ⟨met, only⟩ := endConflictingClose_met n s'
      rw [e]
      exact ⟨rfl, only, (Internal.endConflictingClose n s').outside, met⟩
    have passes : windowConflict s' n .oprO = false := windowConflict_open window
    obtain ⟨only, noted⟩ := operatorOpen_accepted (r := who) (s := s') present remote hn passes
    refine ⟨only, (Internal.raiseOpen .oprO who n s').outside, noted, fun ho hp => ?_, fun ho hp => ?_,
      fun o ho ht => ?_, fun o ho ht => ?_⟩
    · obtain ⟨u, e, set⟩ := operatorOpen_noChange (r := who) (s := s') present remote hn passes ho hp
      rw [show q = _ from e]
      exact ⟨rfl, (congrArg ArbSlot.order set.slot).trans ho, set.link⟩
    · obtain ⟨u, e, set⟩ := operatorOpen_sent (r := who) (s := s') present remote hn passes ho hp
      rw [show q = _ from e]
      exact ⟨rfl, congrArg ArbSlot.lastTag set.slot, congrArg ArbSlot.order set.slot, set.link⟩
    · obtain ⟨u, e, set⟩ := operatorOpen_joins (r := who) (s := s') present remote hn passes ho ht
      rw [show q = _ from e]
      exact ⟨rfl, (congrArg ArbSlot.lastTag set.slot).trans rfl, set.link, congrArg ArbSlot.order set.slot⟩
    · obtain ⟨u, v, e, acts, left, set, told⟩ := operatorOpen_preempts (r := who) (s := s') present remote hn passes ho ht
      rw [show q = _ from e]
      have frame : ∀ w : State, v.link = w.link → u.link = (sent .opn (nextTag a) .oprO w).link := fun w hw =>
        set.link.trans (sendFrame_link (s := s') acts.outside.mode acts.outside.image hw _ _ _ _)
      refine ⟨rfl, congrArg ArbSlot.lastTag set.slot, congrArg ArbSlot.order set.slot,
        congrArg ArbSlot.lastResult set.slot, told, fun hp => ⟨?_, frame _ ?_⟩, fun hp => ⟨?_, frame _ ?_⟩⟩
      · refine (congrArg ArbSlot.withdraw set.slot).trans ?_
        rw [hp]
        rfl
      · rw [left, if_pos hp]
        rfl
      · refine (congrArg ArbSlot.withdraw set.slot).trans ?_
        rw [hp]
        rfl
      · rw [left, if_neg (by rw [hp]; nofun)]
  · intro q closing deadGen accepted
    have hn := slot _ harg
    have passes : windowConflict s' n .oprC = false := windowConflict_close window
    have ladder' : closeLadder s' n = .taken (nextTag (s'.slot n)) := ladder
    obtain ⟨only, seqs, tagged⟩ := operatorClose_routed (r := who) (s := s') present hn passes ladder'
    obtain ⟨recs, put⟩ := putOrder_eq n .close .oprC who s'
    have takes : ∀ {u}, q = (u, .taken (nextTag a)) → (u.slot n).window = some (.close, s.now) → accepted := fun e hw => by
      show q.2 = _ ∧ (q.1.slot n).window = _
      rw [e]
      exact ⟨rfl, hw⟩
    refine ⟨only, (Internal.raiseClose .oprC who n s').outside, seqs, tagged, fun dark hg => ?_,
      fun x y sides livex livey => ?_, fun k gen own => ?_, fun k g gen hg other => ?_⟩
    · obtain ⟨u, e, par, set⟩ := operatorClose_sent (r := who) (s := s') present hn passes ladder' dark hg
      have accept := takes e (congrArg ArbSlot.window set.slot)
      rw [show q = _ from e]
      exact ⟨accept, congrArg ArbSlot.order set.slot, par, set.link⟩
    · have live : bothLive s' n = true := by
        unfold bothLive
        rw [show s'.sides n = _ from sides]
        exact Bool.and_eq_true_iff.2 ⟨livex, livey⟩
      obtain ⟨u, v, e, hv, par, set⟩ := operatorClose_waits (r := who) (s := s') present hn passes ladder' live
      have accept := takes e (congrArg ArbSlot.window set.slot)
      rw [show q = _ from e]
      refine ⟨accept, congrArg ArbSlot.order set.slot, set.link, ?_, fun hc hq => ?_⟩
      · rw [par, syncRequest_grant, hv, put]
        rfl
      · rw [hv, put] at par
        obtain ⟨assigned, queued⟩ := syncRequest_places (n := n) (x := x) (y := y)
          (s := { s'.modSlot n (placed .close .oprC who) with records := recs }) sides hc hq safe.channels safe.gens
        refine ⟨fun i hi free lowest => ?_, fun used => ?_⟩
        · obtain ⟨taken, others, queue, state⟩ := assigned i hi free lowest
          refine ⟨par ▸ taken, par ▸ others, par ▸ queue, fun k hk => ?_⟩
          exact (congrArg Gen.state (gen_of_par par k)).trans (state k hk)
        · exact par ▸ queued used
    · have range := genOfSlot_eq_some.1 gen.1
      have hk : k ≤ s'.par.gens.length := by rw [show s'.par.gens.length = 8 from safe.gens]; omega
      obtain ⟨w, ha, channels, queue, others, held, free⟩ := askGrant_takes (r := who)
        (s := { s'.modSlot n (placed .close .oprC who) with records := recs }) (by omega) hk gen.2 own
      obtain ⟨u, e, par, set⟩ := operatorClose_granted (r := who) (s := s') present hn passes ladder' gen.1 gen.2 (put ▸ ha)
      have accept := takes e (congrArg ArbSlot.window set.slot)
      rw [show q = _ from e]
      refine ⟨accept, congrArg ArbSlot.order set.slot, set.link, par ▸ channels,
        par ▸ queue, fun j h1 hj => (gen_of_par par j).trans (others j h1 hj), fun g hg => par ▸ held g hg, fun hg => ?_⟩
      exact ⟨par ▸ (free hg).1, (gen_of_par par k).trans (free hg).2⟩
    · have refused : askGrant k who (putOrder n .close .oprC who s') = none := by
        rw [put]
        exact (askGrant_held (s := { s'.modSlot n (placed .close .oprC who) with records := recs }) hg).trans (if_neg other)
      obtain ⟨u, e, par, set⟩ := operatorClose_ungranted (r := who) (s := s') present hn passes ladder' gen.1 gen.2 refused
      rw [show q = _ from e]
      exact ⟨rfl, congrArg ArbSlot.order set.slot, (congrArg ArbSlot.window set.slot).trans rfl,
        (congrArg ArbSlot.withdraw set.slot).trans rfl, par, set.link, congrArg ArbSlot.lastResult set.slot⟩

end Sys2Proof.Machine
end


section
/-!
Breaker failure (O31): the lockouts it sets, slot by slot and bus by bus, the opens of the neighbours, and its test.
-/

namespace Sys2Proof.Machine

/-! ## What a close that ends leaves of its slot -/

theorem endClose_bf (n m : Nat) (t : Told) (s : State) : ((endClose n t s).slot m).bf = (s.slot m).bf := by
  by_cases e : m = n
  · subst e
    cases ho : (s.slot m).order with
    | none => unfold endClose; rw [ho]
    | some o =>
      cases ht : o.type with
      | opn => unfold endClose; rw [ho]; dsimp only; rw [ht]
      | close => rw [(endClose_closeEnded t ho ht).slot]; rfl
  · rw [(OrderActs.endClose n t s).others m e]

theorem OrderActs.locks {n : Nat} {s t : State} (h : OrderActs n s t) (m : Nat) : (t.slot m).lock = (s.slot m).lock := by
  by_cases e : m = n
  · exact e ▸ h.lock
  · rw [h.others m e]

theorem busSides_of_image {s t : State} (h : t.mgmt.image = s.mgmt.image) (n : Nat) : t.busSides n = s.busSides n := by
  unfold State.busSides
  simp only [brk_of_image h]

/-! ## The lockout of a slot (R103) -/

/-- R103: the lockout of slot `n` has one more setter; the slot's close, if it had one, has ended. -/
structure SlotLocked (n : Nat) (x : Setter) (s t : State) : Prop where
  others : ∀ m, m ≠ n → t.slot m = s.slot m
  lock : (t.slot n).lock = addSetter x (s.slot n).lock
  bf : (t.slot n).bf = (s.slot n).bf
  buses : ∀ b, t.busLock b = s.busLock b

/-- R103: the state in which the lockout of a slot has one more setter. -/
def slotSetterAdded (n : Nat) (x : Setter) (s : State) : State :=
  if addSetter x (s.slot n).lock = (s.slot n).lock then s
  else lockoutChanged (s.modSlot n fun a => { a with lock := addSetter x a.lock })

theorem slotSetterAdded_locks {n : Nat} {s : State} (x : Setter) (hn : n < s.arb.slots.length) :
    SlotLocked n x s (slotSetterAdded n x s) := by
  unfold slotSetterAdded
  split
  case isTrue h => exact ⟨fun _ _ => rfl, h.symm, rfl, fun _ => rfl⟩
  case isFalse =>
    have arb := lockoutChanged_arb (s.modSlot n fun a => { a with lock := addSetter x a.lock })
    have slot := (State.slot_of_arb arb n).trans (State.modSlot_slot_same s n _ hn)
    refine ⟨fun m hm => (State.slot_of_arb arb m).trans (State.modSlot_slot_other s n m _ hm), ?_, ?_,
      fun b => (busLock_of_arb arb b).trans rfl⟩ <;> rw [slot]

theorem setSlotLockout_eq (n : Nat) (x : Setter) (s : State) :
    setSlotLockout n x s = endClose n .lockout (slotSetterAdded n x s) := rfl

theorem setSlotLockout_locks {n : Nat} {s : State} (x : Setter) (hn : n < s.arb.slots.length) :
    SlotLocked n x s (setSlotLockout n x s) := by
  have added := slotSetterAdded_locks x hn
  have ended := OrderActs.endClose n .lockout (slotSetterAdded n x s)
  rw [setSlotLockout_eq]
  exact ⟨fun m hm => (ended.others m hm).trans (added.others m hm), ended.lock.trans added.lock,
    (endClose_bf n n _ _).trans added.bf, fun b => (ended.buses b).trans (added.buses b)⟩

/-! ## The lockout of a bus (R103) -/

/-- R103: closes on the breakers of bus `b` have ended. -/
structure BusClosed (b : Bus) (s t : State) : Prop where
  image : t.mgmt.image = s.mgmt.image
  buses : ∀ c, t.busLock c = s.busLock c
  apart : ∀ m, b ∉ s.busSides m → t.slot m = s.slot m
  lock : ∀ m, (t.slot m).lock = (s.slot m).lock
  bf : ∀ m, (t.slot m).bf = (s.slot m).bf

theorem BusClosed.refl (b : Bus) (s : State) : BusClosed b s s :=
  ⟨rfl, fun _ => rfl, fun _ _ => rfl, fun _ => rfl, fun _ => rfl⟩

theorem BusClosed.trans {b : Bus} {s t u : State} (h : BusClosed b s t) (k : BusClosed b t u) : BusClosed b s u :=
  ⟨k.image.trans h.image, fun c => (k.buses c).trans (h.buses c),
    fun m hm => (k.apart m (by rwa [busSides_of_image h.image])).trans (h.apart m hm),
    fun m => (k.lock m).trans (h.lock m), fun m => (k.bf m).trans (h.bf m)⟩

theorem BusClosed.endClose {b : Bus} {n : Nat} {s : State} (t : Told) (h : b ∈ s.busSides n) :
    BusClosed b s (endClose n t s) := by
  have acts := OrderActs.endClose n t s
  refine ⟨(Internal.endClose n t s).outside.image, acts.buses, fun m hm => acts.others m ?_, acts.locks,
    fun m => endClose_bf n m t s⟩
  rintro rfl
  exact hm h

/-- R103: closes on the breakers of a bus end, over the slots `l`. -/
def endBusCloses (b : Bus) (l : List Nat) (s : State) : State :=
  l.foldl (fun s n => if b ∈ s.busSides n then endClose n .busLockout s else s) s

theorem BusClosed.endBusCloses (b : Bus) (l : List Nat) (s : State) : BusClosed b s (endBusCloses b l s) := by
  unfold Machine.endBusCloses
  induction l generalizing s with
  | nil => exact .refl b s
  | cons n l ih =>
    refine BusClosed.trans ?_ (ih _)
    dsimp only
    split
    case isTrue h => exact .endClose _ h
    case isFalse => exact .refl b s

/-- R103: the lockouts of the buses `l` have one more setter; closes on their breakers have ended. -/
structure BusesLocked (l : List Bus) (x : Setter) (s t : State) : Prop where
  image : t.mgmt.image = s.mgmt.image
  set : ∀ b ∈ l, (t.busLock b).isSet = true ∧ x ∈ (t.busLock b).setters
  others : ∀ b, b ∉ l → t.busLock b = s.busLock b
  apart : ∀ m, (∀ b ∈ l, b ∉ s.busSides m) → t.slot m = s.slot m
  lock : ∀ m, (t.slot m).lock = (s.slot m).lock
  bf : ∀ m, (t.slot m).bf = (s.slot m).bf

theorem mem_addSetter (x : Setter) (l : Lockout) : x ∈ (addSetter x l).setters := by
  unfold addSetter
  split
  case isTrue h => exact h
  case isFalse => exact List.mem_append_right _ (List.mem_singleton_self x)

/-- R103: the state in which the lockout of a bus has one more setter. -/
def busSetterAdded (b : Bus) (x : Setter) (s : State) : State :=
  if addSetter x (s.busLock b) = s.busLock b then s else lockoutChanged (s.setBusLock b (addSetter x (s.busLock b)))

theorem BusesLocked.busSetterAdded (b : Bus) (x : Setter) (s : State) :
    BusesLocked [b] x s (busSetterAdded b x s) := by
  unfold Machine.busSetterAdded
  split
  case isTrue h =>
    refine ⟨rfl, fun c hc => ?_, fun _ _ => rfl, fun _ _ => rfl, fun _ => rfl, fun _ => rfl⟩
    rw [List.mem_singleton.1 hc, ← h]
    exact ⟨rfl, mem_addSetter x _⟩
  case isFalse =>
    have frame := (OutsideTrip.setBusLock b (addSetter x (s.busLock b)) s).trans (.lockoutChanged _)
    have arb := lockoutChanged_arb (s.setBusLock b (addSetter x (s.busLock b)))
    have slot : ∀ m, (lockoutChanged (s.setBusLock b (addSetter x (s.busLock b)))).slot m = s.slot m := fun m => by
      rw [State.slot_of_arb arb]
      simp only [State.slot, State.setBusLock_slots]
    refine ⟨frame.image, fun c hc => ?_, fun c hc => ?_, fun m _ => slot m, fun m => by rw [slot], fun m => by rw [slot]⟩
    · rw [List.mem_singleton.1 hc, busLock_of_arb arb, State.setBusLock_busLock]
      exact ⟨rfl, mem_addSetter x _⟩
    · rw [busLock_of_arb arb]
      exact State.setBusLock_busLock_other s b c _ fun e => hc (List.mem_singleton.2 e)

theorem setBusLockout_eq (b : Bus) (x : Setter) (s : State) :
    ∃ m, setBusLockout b x s = { endBusCloses b allSlots (busSetterAdded b x s) with mail := m } := by
  have posted : ∀ (c : Bool) (u : State), ∃ m, (if c then u else u.post (.busLockSet b)) = { u with mail := m } :=
    fun c u => by cases c <;> exact ⟨_, rfl⟩
  exact posted (s.busLock b).isSet (endBusCloses b allSlots (busSetterAdded b x s))

theorem BusesLocked.setBusLockout (b : Bus) (x : Setter) (s : State) : BusesLocked [b] x s (setBusLockout b x s) := by
  have added := BusesLocked.busSetterAdded b x s
  have closed := BusClosed.endBusCloses b allSlots (Machine.busSetterAdded b x s)
  obtain ⟨mail, posted⟩ := setBusLockout_eq b x s
  rw [posted]
  generalize endBusCloses b allSlots (Machine.busSetterAdded b x s) = v at closed
  refine ⟨closed.image.trans added.image, fun c hc => ?_, fun c hc => (closed.buses c).trans (added.others c hc),
    fun m hm => (closed.apart m ?_).trans (added.apart m hm), fun m => (closed.lock m).trans (added.lock m),
    fun m => (closed.bf m).trans (added.bf m)⟩
  · have := added.set c hc
    rwa [← closed.buses c] at this
  · rw [busSides_of_image added.image]
    exact hm b (List.mem_singleton_self b)

theorem BusesLocked.fold (l : List Bus) (x : Setter) (s : State) :
    BusesLocked l x s (l.foldl (fun s b => Machine.setBusLockout b x s) s) := by
  induction l generalizing s with
  | nil => exact ⟨rfl, nofun, fun _ _ => rfl, fun _ _ => rfl, fun _ => rfl, fun _ => rfl⟩
  | cons b l ih =>
    have one := BusesLocked.setBusLockout b x s
    have rest := ih (Machine.setBusLockout b x s)
    refine ⟨rest.image.trans one.image, fun c hc => ?_, fun c hc => ?_, fun m hm => ?_,
      fun m => (rest.lock m).trans (one.lock m), fun m => (rest.bf m).trans (one.bf m)⟩
    · by_cases hl : c ∈ l
      · exact rest.set c hl
      · have := one.set c (List.mem_singleton.2 ((List.mem_cons.1 hc).resolve_right hl))
        rwa [← rest.others c hl] at this
    · refine (rest.others c fun h => hc (List.mem_cons_of_mem b h)).trans (one.others c fun h => hc ?_)
      exact List.mem_singleton.1 h ▸ List.mem_cons_self
    · refine (rest.apart m fun c hc => ?_).trans (one.apart m fun c hc => ?_)
      · rw [busSides_of_image one.image]
        exact hm c (List.mem_cons_of_mem b hc)
      · exact List.mem_singleton.1 hc ▸ hm b List.mem_cons_self

/-! ## The opens of the neighbours (R102) -/

theorem mem_backupsFold {s : State} {n : Nat} (l : List Bus) (acc : List Nat) (nodup : acc.Nodup) :
    let fold := l.foldl (fun l b => l ++ allSlots.filter fun m =>
      (s.brk m).present && decide (m ≠ n) && decide (b ∈ s.busSides m) && decide (m ∉ l)) acc
    fold.Nodup ∧ ∀ m, m ∈ fold ↔
      m ∈ acc ∨ m < 25 ∧ m ≠ n ∧ (s.brk m).present = true ∧ ∃ b ∈ l, b ∈ s.busSides m := by
  induction l generalizing acc with
  | nil => exact ⟨nodup, fun m => by simp⟩
  | cons b l ih =>
    have mem : ∀ m, m ∈ allSlots.filter (fun m => (s.brk m).present && decide (m ≠ n) && decide (b ∈ s.busSides m) &&
        decide (m ∉ acc)) ↔ m < 25 ∧ (s.brk m).present = true ∧ m ≠ n ∧ b ∈ s.busSides m ∧ m ∉ acc := fun m => by
      simp only [List.mem_filter, mem_allSlots, Bool.and_eq_true, decide_eq_true_eq, and_assoc]
    have apart : (acc ++ allSlots.filter (fun m => (s.brk m).present && decide (m ≠ n) && decide (b ∈ s.busSides m) &&
        decide (m ∉ acc))).Nodup :=
      nodup.append (List.nodup_range.filter _) fun m hm h => by
        obtain ⟨_, _, _, _, fresh⟩ := (mem m).1 h
        exact fresh hm
    obtain ⟨distinct, holds⟩ := ih _ apart
    refine ⟨distinct, fun m => (holds m).trans ?_⟩
    rw [List.mem_append, mem, List.exists_mem_cons_iff]
    tauto

/-- R102: the neighbours of a slot, each once. -/
theorem backupsOf_mem (s : State) (n : Nat) : (backupsOf s n).Nodup ∧ ∀ m, m ∈ backupsOf s n ↔
    m < 25 ∧ m ≠ n ∧ (s.brk m).present = true ∧ ∃ b ∈ s.busSides n, b ∈ s.busSides m := by
  obtain ⟨nodup, mem⟩ := mem_backupsFold (s := s) (n := n) (s.busSides n) [] List.nodup_nil
  exact ⟨nodup, fun m => (mem m).trans (or_iff_right List.not_mem_nil)⟩

theorem backupsOf_of_image {s t : State} (h : t.mgmt.image = s.mgmt.image) (n : Nat) : backupsOf t n = backupsOf s n := by
  unfold backupsOf
  simp only [busSides_of_image h, brk_of_image h]

section
variable {r : Requester} {n : Nat} {s : State}

theorem backupOpen_absent (hp : (s.brk n).present = false) : (raiseOpen .bft r n s).1 = s := by
  unfold raiseOpen
  rw [if_pos hp]

section
variable (hp : (s.brk n).present = true)
include hp

theorem backupOpen_joins {o : Order} (ho : (s.slot n).order = some o) (ht : o.type = .opn) :
    (raiseOpen .bft r n s).1 = joinOpen n o .bft r s := by
  unfold raiseOpen
  simp only [hp, windowConflict, setWindow, ho, ht, Bool.true_eq_false, Bool.false_eq_true, reduceCtorEq, or_self,
    and_false, ↓reduceIte]

theorem backupOpen_preempts {o : Order} (ho : (s.slot n).order = some o) (ht : o.type = .close) :
    (raiseOpen .bft r n s).1 = putOpen n .bft r (endClose n .preempted s) := by
  unfold raiseOpen
  simp only [hp, windowConflict, setWindow, ho, ht, Bool.true_eq_false, Bool.false_eq_true, reduceCtorEq, or_self,
    and_false, ↓reduceIte]

theorem backupOpen_isOpen (ho : (s.slot n).order = none) (h : s.pos n = .opn) : (raiseOpen .bft r n s).1 = s := by
  unfold raiseOpen
  simp only [hp, windowConflict, setWindow, ho, h, Bool.true_eq_false, Bool.false_eq_true, reduceCtorEq, or_self,
    and_false, ↓reduceIte]

theorem backupOpen_puts (ho : (s.slot n).order = none) (h : s.pos n ≠ .opn) :
    (raiseOpen .bft r n s).1 = putOpen n .bft r s := by
  unfold raiseOpen
  simp only [hp, windowConflict, setWindow, ho, h, Bool.true_eq_false, Bool.false_eq_true, reduceCtorEq, or_self,
    and_false, ↓reduceIte]

end

theorem backupOpen_acts : OrderActs n s (raiseOpen .bft r n s).1 := by
  cases hp : (s.brk n).present with
  | false => rw [backupOpen_absent hp]; exact .refl n s
  | true =>
    cases ho : (s.slot n).order with
    | none =>
      by_cases h : s.pos n = .opn
      · rw [backupOpen_isOpen hp ho h]; exact .refl n s
      · rw [backupOpen_puts hp ho h]; exact .putOpen _ _ _ _
    | some o =>
      cases ht : o.type with
      | opn => rw [backupOpen_joins hp ho ht]; exact .joinOpen _ _ _ _ _
      | close => rw [backupOpen_preempts hp ho ht]; exact (OrderActs.endClose _ _ _).trans (.putOpen _ _ _ _)

/-- R102: an open is in service with BFT among its causes. -/
def BackedUp (a : ArbSlot) : Prop := ∃ o, a.order = some o ∧ o.type = .opn ∧ .bft ∈ o.causes

theorem putOpen_backedUp (hn : n < s.arb.slots.length) : BackedUp ((putOpen n .bft r s).slot n) := by
  unfold BackedUp putOpen
  rw [startProtective_order, (issue_putOrder_made hn .opn .bft r).slot]
  exact ⟨_, rfl, rfl, List.mem_singleton_self _⟩

theorem joinOpen_backedUp {o : Order} (ho : (s.slot n).order = some o) (ht : o.type = .opn) :
    BackedUp ((joinOpen n o .bft r s).slot n) := by
  have joined : BackedUp ((s.modSlot n fun a => { a with order := some (joinedBy .bft r o) }).slot n) := by
    rw [State.modSlot_slot_same s n _ (slot_lt_of_order ho)]
    refine ⟨_, rfl, ht, ?_⟩
    unfold joinedBy
    dsimp only
    split
    case isTrue h => exact h
    case isFalse => exact List.mem_append_right _ (List.mem_singleton_self _)
  unfold joinOpen
  dsimp only
  split
  · exact joined
  · unfold BackedUp
    rw [startProtective_order]
    exact joined

theorem backupOpen_backedUp (hn : n < s.arb.slots.length) (hp : (s.brk n).present = true) (h : s.pos n ≠ .opn) :
    BackedUp ((raiseOpen .bft r n s).1.slot n) := by
  cases ho : (s.slot n).order with
  | none => rw [backupOpen_puts hp ho h]; exact putOpen_backedUp hn
  | some o =>
    cases ht : o.type with
    | opn => rw [backupOpen_joins hp ho ht]; exact joinOpen_backedUp ho ht
    | close =>
      rw [backupOpen_preempts hp ho ht]
      exact putOpen_backedUp ((Internal.endClose n .preempted s).slots ▸ hn)

end

/-- R102: opens with BFT have been raised on the slots `l`. -/
structure BackupsRaised (l : List Nat) (s t : State) : Prop where
  outside : OutsideTrip s t
  others : ∀ m, m ∉ l → t.slot m = s.slot m
  buses : ∀ b, t.busLock b = s.busLock b
  opens : ∀ m ∈ l, m < s.arb.slots.length → (s.brk m).present = true → s.pos m ≠ .opn → BackedUp (t.slot m)

theorem backups_raised (r : Requester) (l : List Nat) (nodup : l.Nodup) (s : State) :
    BackupsRaised l s (l.foldl (fun s m => (raiseOpen .bft r m s).1) s) := by
  induction l generalizing s with
  | nil => exact ⟨.refl s, fun _ _ => rfl, fun _ => rfl, nofun⟩
  | cons n l ih =>
    have first : OutsideTrip s (raiseOpen .bft r n s).1 :=
      (Internal.raiseOpen .bft r n s).outsideTrip (.raiseOpen .bft r n s)
    have acts : OrderActs n s (raiseOpen .bft r n s).1 := backupOpen_acts
    have rest := ih (List.nodup_cons.1 nodup).2 (raiseOpen .bft r n s).1
    refine ⟨first.trans rest.outside, fun m hm => ?_, fun b => (rest.buses b).trans (acts.buses b),
      fun m hm hlt hp h => ?_⟩
    · exact (rest.others m fun h => hm (List.mem_cons_of_mem n h)).trans
        (acts.others m fun e => hm (e ▸ List.mem_cons_self))
    · rcases List.mem_cons.1 hm with rfl | hl
      · have made : BackedUp ((raiseOpen .bft r m s).1.slot m) := backupOpen_backedUp hlt hp h
        rw [← rest.others m (List.nodup_cons.1 nodup).1] at made
        exact made
      · exact rest.opens m hl (first.slots ▸ hlt) (first.brk m ▸ hp) (first.pos m ▸ h)

/-! ## A trigger is taken (R163) -/

theorem BesideArb.recordEvent (n : Nat) (ev : RecEvent) (s : State) : BesideArb s (recordEvent n ev s) :=
  (BesideArb.modRecords s _).trans (.note _ _)

theorem BesideArb.makeRoom (s : State) : BesideArb s (makeRoom s) := by
  unfold Machine.makeRoom
  split
  · split
    · exact .refl s
    · exact (BesideArb.modRecords s _).trans (.recordEvent _ _ _)
  · exact .refl s

theorem BesideArb.takeTrigger (t : Trigger) (s : State) : BesideArb s (takeTrigger t s) := by
  unfold Machine.takeTrigger
  dsimp only
  have free : BesideArb s (if (triggerSlots t).any (usesFree s) = true then s.useFree else s) :=
    .ite ⟨rfl, rfl, rfl, fun _ h => h⟩ (.refl s)
  generalize (if (triggerSlots t).any (usesFree s) = true then s.useFree else s) = u at free
  refine free.trans ?_
  split
  · exact ((BesideArb.modRecords u _).trans (.recordEvent _ _ _)).trans (.testRecords _)
  · exact (((BesideArb.makeRoom u).trans (.modRecords _ _)).trans (.recordEvent _ _ _)).trans (.testRecords _)

/-! ## Breaker failure operates (R102) -/

/-- R102, R103: the failed slot is marked, and its lockouts set. -/
def bfLocked (n : Nat) (s : State) : State :=
  let t := setSlotLockout n (.bf n) (reportBf n .operated (s.modSlot n fun a => { a with bf := .operated }))
  (t.busSides n).foldl (fun s b => setBusLockout b (.bf n) s) t

/-- R102: the neighbours' opens have been raised as well. -/
def bfTripped (n : Nat) (s : State) : State :=
  (backupsOf (bfLocked n s) n).foldl (fun s m => (raiseOpen .bft (.bf n) m s).1) (bfLocked n s)

theorem operateBf_eq (n : Nat) (s : State) : operateBf n s = takeTrigger (.bf ⟨n, (openOf (s.slot n)).1,
    (openOf (s.slot n)).2, backupsOf (bfLocked n s) n, (bfTripped n s).intake.count⟩) (bfTripped n s) := rfl

/-- R102, R103: what the marking of a failed slot and its lockouts come to. -/
structure FailureLocked (n : Nat) (s t : State) : Prop where
  outside : OutsideTrip s t
  bf : (t.slot n).bf = .operated
  lock : (t.slot n).lock.isSet = true ∧ .bf n ∈ (t.slot n).lock.setters
  buses : ∀ b ∈ s.busSides n, (t.busLock b).isSet = true ∧ .bf n ∈ (t.busLock b).setters
  others : ∀ b, b ∉ s.busSides n → t.busLock b = s.busLock b
  apart : ∀ m, m ≠ n → (∀ b ∈ s.busSides n, b ∉ s.busSides m) → t.slot m = s.slot m

theorem bfLocked_locks {n : Nat} {s : State} (hn : n < s.arb.slots.length) : FailureLocked n s (bfLocked n s) := by
  have mark : OutsideTrip s (reportBf n .operated (s.modSlot n fun a => { a with bf := .operated })) :=
    ((Internal.modSlot s n (fun a => { a with bf := .operated }) fun _ => .inl rfl).trans
      (.reportBf n .operated _)).outsideTrip ((Quiet.modSlot s n).trans (.reportBf n .operated _))
  have arb := reportBf_arb n .operated (s.modSlot n fun a => { a with bf := .operated })
  have slot := (State.slot_of_arb arb n).trans (State.modSlot_slot_same s n _ hn)
  have other : ∀ m, m ≠ n → _ = s.slot m := fun m hm =>
    (State.slot_of_arb arb m).trans (State.modSlot_slot_other s n m _ hm)
  have bus : ∀ b, _ = s.busLock b := fun b => (busLock_of_arb arb b).trans rfl
  unfold bfLocked
  generalize reportBf n .operated (s.modSlot n fun a => { a with bf := .operated }) = t at mark slot other bus
  have own := setSlotLockout_locks (.bf n) (mark.slots ▸ hn)
  have outside := mark.trans (.setSlotLockout n (.bf n) t)
  have buses := BusesLocked.fold ((setSlotLockout n (.bf n) t).busSides n) (.bf n) (setSlotLockout n (.bf n) t)
  have all := outside.trans (OutsideTrip.foldl (f := fun s b => setBusLockout b (.bf n) s)
    (fun u b => .setBusLockout b (.bf n) u) ((setSlotLockout n (.bf n) t).busSides n) _)
  dsimp only
  generalize setSlotLockout n (.bf n) t = u at own outside buses all
  have sides := busSides_of_image outside.image
  have lock := (buses.lock n).trans own.lock
  refine ⟨all, ?_, ?_, fun b hb => buses.set b (sides n ▸ hb), fun b hb => ?_, fun m hm apart => ?_⟩
  · rw [buses.bf, own.bf, slot]
  · rw [lock]
    exact ⟨rfl, mem_addSetter _ _⟩
  · rw [buses.others b (sides n ▸ hb), own.buses, bus]
  · rw [buses.apart m (by rwa [sides, sides]), own.others m hm, other m hm]

/-! ## The test of breaker failure (R101) -/

theorem carriesCurrent_iff {s : State} {n : Nat} : carriesCurrent s n = true ↔ (s.curMeas n).quality ≠ .invalid ∧
    (s.brk n).bfThreshold ≤ max (s.curMeas n).rms.a (max (s.curMeas n).rms.b (s.curMeas n).rms.c) := by
  unfold carriesCurrent
  simp only [Bool.and_eq_true, decide_eq_true_eq]

/-- Settles O31: the lockouts first, which the opens leave as they are, then the opens, which the trigger leaves; and the
test by what the breaker carries and its position. -/
theorem breakerFailure : Obligations.BreakerFailure := by
  refine ⟨fun n s safe hn timing due => ?_, fun n s safe hn => ?_⟩
  · have size : ∀ m, m < 25 → m < s.arb.slots.length := fun m hm => safe.slots ▸ hm
    have run : bfOperateDue s n = true := Bool.and_eq_true_iff.2 ⟨decide_eq_true timing, decide_eq_true due⟩
    have locked := bfLocked_locks (size n hn)
    obtain ⟨nodup, mem⟩ := backupsOf_mem s n
    have same : backupsOf (bfLocked n s) n = backupsOf s n := backupsOf_of_image locked.outside.image n
    have raised : BackupsRaised (backupsOf s n) (bfLocked n s) (bfTripped n s) := by
      unfold bfTripped
      rw [same]
      exact backups_raised (.bf n) _ nodup _
    have outside := locked.outside.trans raised.outside
    have trigger := operateBf_eq n s
    rw [same, outside.intake] at trigger
    have taken : BesideArb (bfTripped n s) (operateBf n s) := trigger ▸ .takeTrigger _ _
    have acts : Internal (bfTripped n s) (operateBf n s) := trigger ▸ .takeTrigger _ _
    have failed : (operateBf n s).slot n = (bfLocked n s).slot n :=
      (taken.slot n).trans (raised.others n fun h => ((mem n).1 h).2.1 rfl)
    have buses : ∀ b, (operateBf n s).busLock b = (bfLocked n s).busLock b := fun b =>
      (busLock_of_arb taken.arb b).trans (raised.buses b)
    refine ⟨_, congrArg Host.Outcome.next (if_pos run), failed ▸ locked.bf, failed ▸ locked.lock.1, failed ▸ locked.lock.2,
      fun b hb => buses b ▸ locked.buses b hb, fun b hb => (buses b).trans (locked.others b hb),
      fun m hm hne present share hpos => ?_, fun m hm hne apart => ?_, taken.seqs.trans outside.seqs,
      acts.outside.meas.trans outside.meas, acts.outside.prot.trans outside.prot, backupsOf s n, bfTripped n s, nodup, mem,
      taken.arb.symm, trigger⟩
    · rw [taken.slot]
      exact raised.opens m ((mem m).2 ⟨hm, hne, present, share⟩) (locked.outside.slots ▸ size m hm)
        (locked.outside.brk m ▸ present) (locked.outside.pos m ▸ hpos)
    · rw [taken.slot, raised.others m fun h => ?_, locked.apart m hne apart]
      obtain ⟨_, _, _, b, hb, hbm⟩ := (mem m).1 h
      exact apart b hb hbm
  · intro m carries
    have hn' : n < s.arb.slots.length := safe.slots ▸ hn
    have tested : carries ∨ s.pos n ≠ .opn → carriesCurrent s n = true ∨ s.pos n ≠ .opn := Or.imp_left carriesCurrent_iff.2
    refine ⟨fun idle opn => ?_, fun busy bf => ?_, fun busy bf short => ?_⟩
    · have arb := reportBf_arb n .idle (s.modSlot n fun a => { a with bf := .idle, bfTimer := 0 })
      have slot := (State.slot_of_arb arb n).trans (State.modSlot_slot_same s n _ hn')
      have test : testBf n s = reportBf n .idle (s.modSlot n fun a => { a with bf := .idle, bfTimer := 0 }) :=
        if_neg fun h => h.elim (fun h => idle (carriesCurrent_iff.1 h)) fun h => h opn
      rw [test, slot]
      exact ⟨rfl, rfl⟩
    · exact (if_pos (tested busy)).trans (if_neg (by rw [bf]; nofun))
    · have slot := State.modSlot_slot_same s n (fun a => { a with bfTimer := a.bfTimer + 1 }) hn'
      have test : testBf n s = s.modSlot n fun a => { a with bfTimer := a.bfTimer + 1 } := by
        refine (if_pos (tested busy)).trans ((if_pos bf).trans (if_neg ?_))
        rw [slot]
        exact Nat.not_le.2 short
      rw [test, slot]

end Sys2Proof.Machine
end

section
/-!
A sequencer at an update (O41) and at a bus lockout (O42), both refuted: each statement says that the end of a soft unload
leaves every generator that was not UNLOADING in its state, and nothing in its hypotheses keeps the sequencer from ending a
close in service at the same time. The sync channel of that close goes to the oldest queued request (R153), whose generator,
READY, enters CLOSING (R151).
-/

namespace Sys2Proof.Machine

/-- The Paralleling Unit with a soft unload of SEQ1, a close of slot `n` in a sync channel, and G1, READY, in the sync queue. -/
def unloadWithQueue (n : Nat) : Par :=
  { gens := { state := .ready } :: List.replicate 7 {}
    channels := some { slot := n, ref := 2, inc := 0, closing := 0 } :: List.replicate 3 none
    queue := [{ slot := 5, ref := 4, inc := 5, closing := 0, arrival := 0 }]
    unload := some { owner := .seq1, ttot := 0, step := 1, ratingSum := 0 } }

/-- A close in SYNC_WAIT. -/
def waitingClose (x : Source) (l : List Requester) : Order :=
  { type := .close, causes := [x], tag := 0, phase := .syncWait, issueTime := none, requesters := l }

/-- A state of empty buffers, all but G1 with no bias, in LIVE is safe. -/
theorem unloadWithQueue_safe {n : Nat} {slots : List ArbSlot} {x : Seqs} {m : Mgmt} (size : slots.length = 25)
    (live : m.mode = .live) (empty : m.requests = []) :
    State.Safe { arb := { slots := slots }, seqs := x, par := unloadWithQueue n, mgmt := m } where
  port1 := ⟨Nat.zero_le _, Nat.zero_le _, Nat.zero_le _⟩
  port2 := ⟨Nat.zero_le _, Nat.zero_le _, Nat.zero_le _⟩
  dup := Nat.zero_le _
  requests := by simp [empty]
  records := Nat.zero_le _
  biases := by simp [unloadWithQueue, biasOk]
  lines := fun h => absurd live h
  slots := size
  gens := rfl
  channels := rfl
  views := rfl
  streams := rfl
  elements := rfl

/-- SEQ1 in PARALLEL_SOFT on GM1 with the utility not HEALTHY, while a manager's close of INC-A waits in a sync channel. -/
def softWithClose : State :=
  { arb := { slots := { order := some (waitingClose .oprC [.manager 500 0]) } :: List.replicate 24 {} }
    seqs := { seq1 := { state := .parallelSoft, alt := some .gm } }
    par := unloadWithQueue 0
    mgmt := { part := .service false
              image := some ⟨{ breakers := { present := true } :: List.replicate 24 {} }, .a⟩ } }

/-- The open of INC-A preempts the close, whose channel takes the request of G1. -/
theorem softWithClose_moves_generator :
    (softWithClose.gen 1).state = .ready ∧ ((updateState .seq1 softWithClose).gen 1).state = .closing := by decide

/-- Refutes O41: in PARALLEL_SOFT, on the loss of the utility, the open of the INC moves a generator that is not UNLOADING. -/
theorem not_sequencerAtUpdate : ¬ Obligations.SequencerAtUpdate := by
  rintro ⟨-, atUpdate⟩
  obtain ⟨⟨-, -, -, -, -, -, -, -, onAlt, -⟩, -⟩ := atUpdate .seq1 softWithClose (unloadWithQueue_safe rfl rfl rfl)
  obtain ⟨-, -, -, soft⟩ := onAlt .gm rfl
  obtain ⟨lost, -⟩ := soft rfl
  obtain ⟨-, -, -, ⟨ended, -⟩, -⟩ := lost (by decide)
  obtain ⟨-, gens⟩ := ended _ rfl rfl
  obtain ⟨before, after⟩ := softWithClose_moves_generator
  have kept := (gens 1 (by decide) (by decide)).2 (by rw [before]; decide)
  rw [before, after] at kept
  exact absurd kept (by decide)

/-- SEQ1 in ALT_CLOSING on the TIE, whose close waits in a sync channel. -/
def closingWithUnload : State :=
  { arb := { slots := List.replicate 2 {} ++ { order := some (waitingClose .schC [.seq .seq1]) } :: List.replicate 22 {} }
    seqs := { seq1 := { state := .altClosing, alt := some .tie, awaited := some ⟨2, .close, some 0⟩ } }
    par := unloadWithQueue 2
    mgmt := { part := .service false } }

/-- The sequencer withdraws its close, whose channel takes the request of G1. -/
theorem closingWithUnload_moves_generator : (closingWithUnload.gen 1).state = .ready ∧
    ((seqBusLocked .seq1 .bus1 closingWithUnload).gen 1).state = .closing := by decide

/-- Refutes O42: at the bus lockout of its section, the close that the sequencer withdraws moves a generator that is not
UNLOADING. -/
theorem not_sequencerOutcomes : ¬ Obligations.SequencerOutcomes := by
  rintro ⟨-, atLockout, -⟩
  obtain ⟨entered, -⟩ := atLockout .seq1 .bus1 closingWithUnload (unloadWithQueue_safe rfl rfl rfl)
  obtain ⟨out, -⟩ := entered ⟨rfl, by decide, by decide, by decide⟩
  obtain ⟨-, gens⟩ := out.unload.1 _ rfl rfl
  obtain ⟨before, after⟩ := closingWithUnload_moves_generator
  have kept := (gens 1 (by decide) (by decide)).2 (by rw [before]; decide)
  rw [before, after] at kept
  exact absurd kept (by decide)

end Sys2Proof.Machine
end

section
/-!
What the acts of a sequencer on its own record leave: one lemma for each of them, by the record it makes. Only the records'
notices change beside the sequencer's record and the claim.
-/

namespace Sys2Proof.Machine

/-! ## The ground of a request -/

/-- `t` has the clock, the Arbiter, the measurements, and the tables, modes and part state of `s`. -/
structure SameGround (s t : State) : Prop where
  now : t.now = s.now
  arb : t.arb = s.arb
  meas : t.meas = s.meas
  mgmt : t.mgmt = { s.mgmt with requests := t.mgmt.requests }

theorem SameGround.refl (s : State) : SameGround s s := ⟨rfl, rfl, rfl, rfl⟩

theorem SameGround.trans {s t u : State} (h : SameGround s t) (k : SameGround t u) : SameGround s u :=
  ⟨k.now.trans h.now, k.arb.trans h.arb, k.meas.trans h.meas, by rw [k.mgmt, h.mgmt]⟩

/-- What the ground of a state decides is the same on the same ground. -/
theorem SameGround.exists {s t : State} (h : SameGround s t) : ∃ requests, t =
    { t with now := s.now, arb := s.arb, meas := s.meas, mgmt := { s.mgmt with requests := requests } } :=
  ⟨t.mgmt.requests, by rw [← h.now, ← h.arb, ← h.meas, ← h.mgmt]⟩

section
variable {s t : State} (h : SameGround s t)
include h

theorem SameGround.slot (n : Nat) : t.slot n = s.slot n := State.slot_of_arb h.arb n

theorem SameGround.busLock (b : Bus) : t.busLock b = s.busLock b := busLock_of_arb h.arb b

theorem SameGround.image : t.mgmt.image = s.mgmt.image := by rw [h.mgmt]

theorem SameGround.mode : t.mgmt.mode = s.mgmt.mode := by rw [h.mgmt]

theorem SameGround.tbl : t.tbl = s.tbl := by unfold State.tbl; rw [h.image]

theorem SameGround.site : t.site = s.site := congrArg Tables.site h.tbl

theorem SameGround.brk (n : Nat) : t.brk n = s.brk n := brk_of_image h.image n

theorem SameGround.scheme (q : SeqId) : t.scheme q = s.scheme q := by unfold State.scheme; rw [h.tbl]

theorem SameGround.declared (v : Nat) : t.declared v = s.declared v := by
  simp only [State.declared, State.voltMeas, h.meas]

theorem SameGround.pos (n : Nat) : t.pos n = s.pos n := by
  have emu : t.emuOf n = s.emuOf n := by unfold State.emuOf; rw [h.mgmt]
  unfold State.pos
  rw [h.mode, emu, h.slot]

theorem SameGround.closeLadder (n : Nat) : closeLadder t n = closeLadder s n := by
  obtain ⟨requests, e⟩ := h.exists
  rw [e]
  rfl

theorem SameGround.bothLive (n : Nat) : bothLive t n = bothLive s n := by
  obtain ⟨requests, e⟩ := h.exists
  rw [e]
  rfl

end

theorem SameGround.setRequests (l : List Request) (s : State) : SameGround s (setRequests l s) := ⟨rfl, rfl, rfl, rfl⟩

/-! ## The record of one sequencer -/

/-- The record of sequencer `q` is `x` in `t` and the claim `c`; the other sequencer's record is that of `s`. -/
structure SeqIs (q : SeqId) (x : Seq) (c : Option SeqId) (s t : State) : Prop where
  seq : t.seq q = x
  claim : t.seqs.claim = c
  other : onlySeq q s t

/-- `t` is `s` with the record of sequencer `q` made `x` and the claim made `c`, but for the notices. -/
structure SeqSet (q : SeqId) (x : Seq) (c : Option SeqId) (s t : State) : Prop extends SeqIs q x c s t where
  frame : t = { s with seqs := t.seqs, records := t.records }

/-- R110: a sequencer's record in state `st`. -/
def inState (st : SeqState) (x : Seq) : Seq := if x.state = st then x else { leaveTimers st x with state := st }

/-- R134: a sequencer's record as PARKED is entered. -/
def parkedRecord (x : Seq) : Seq :=
  inState .parked { stopTimers x with awaited := none, retReady := false, inhibitHold := false, pendingPark := false }

/-- R134: a sequencer's record in the stable state `st`, or PARKED in its place. -/
def stableRecord (st : SeqState) (x : Seq) : Seq := if x.pendingPark then parkedRecord x else inState st x

@[simp] theorem inState_state (st : SeqState) (x : Seq) : (inState st x).state = st := by
  unfold inState
  split
  case isTrue h => exact h
  case isFalse => rfl

/-- R110: a state that is left leaves no timer behind but the restore timer. -/
theorem inState_of_ne {st : SeqState} {x : Seq} (h : x.state ≠ st) : inState st x = { leaveTimers st x with state := st } :=
  if_neg h

/-- A record without timers has none in the state it enters. -/
theorem inState_stopped (st : SeqState) (x : Seq) : inState st (stopTimers x) = { stopTimers x with state := st } := by
  unfold inState
  split
  case isTrue h => rw [← h]
  case isFalse => simp [leaveTimers, stopTimers]

theorem parkedRecord_eq (x : Seq) : parkedRecord x = { stopTimers x with
    state := .parked, awaited := none, retReady := false, inhibitHold := false, pendingPark := false } := by
  have := inState_stopped .parked { x with awaited := none, retReady := false, inhibitHold := false, pendingPark := false }
  exact this

section
variable {q : SeqId} {s t : State} {x : Seq} {c : Option SeqId}

theorem SeqSet.refl (q : SeqId) (s : State) : SeqSet q (s.seq q) s.seqs.claim s s := ⟨⟨rfl, rfl, rfl⟩, rfl⟩

theorem SeqIs.trans {y : Seq} {d : Option SeqId} {u : State} (h : SeqIs q x c s t) (k : SeqIs q y d t u) :
    SeqIs q y d s u :=
  ⟨k.seq, k.claim, Eq.trans k.other h.other⟩

theorem SeqSet.trans {y : Seq} {d : Option SeqId} {u : State} (h : SeqSet q x c s t) (k : SeqSet q y d t u) :
    SeqSet q y d s u :=
  ⟨h.toSeqIs.trans k.toSeqIs, by rw [k.frame, h.frame]⟩

/-- Acts that leave the sequencers alone leave their records. -/
theorem SeqIs.of_seqs (h : SeqIs q x c s t) {u : State} (e : u.seqs = t.seqs) : SeqIs q x c s u :=
  h.trans ⟨(State.seq_of_seqs e q).trans h.seq, (congrArg Seqs.claim e).trans h.claim, State.seq_of_seqs e _⟩

theorem SeqSet.ground (h : SeqSet q x c s t) : SameGround s t := by
  rw [h.frame]
  exact ⟨rfl, rfl, rfl, rfl⟩

theorem SeqSet.par (h : SeqSet q x c s t) : t.par = s.par := by rw [h.frame]

theorem SeqSet.link (h : SeqSet q x c s t) : t.link = s.link := by rw [h.frame]

theorem SeqSet.mail (h : SeqSet q x c s t) : t.mail = s.mail := by rw [h.frame]

/-- The same record and claim, otherwise written. -/
theorem SeqSet.congr {y : Seq} {d : Option SeqId} (h : SeqSet q x c s t) (hx : x = y) (hc : c = d) : SeqSet q y d s t :=
  hc ▸ hx ▸ h

theorem SeqSet.note (h : SeqSet q x c s t) (n : NoticeClass) : SeqSet q x c s (note n t) := by
  obtain ⟨r, e⟩ := note_eq n t
  rw [e]
  refine ⟨⟨h.seq, h.claim, h.other⟩, ?_⟩
  rw [h.frame]

theorem SeqSet.modSeq (h : SeqSet q x c s t) (f : Seq → Seq) : SeqSet q (f x) c s (t.modSeq q f) := by
  refine ⟨⟨by rw [State.modSeq_seq_same, h.seq], (State.modSeq_claim t q f).trans h.claim,
    (State.modSeq_seq_other t q f).trans h.other⟩, ?_⟩
  rw [h.frame]
  cases q <;> rfl

theorem SeqSet.setSeqState (h : SeqSet q x c s t) (st : SeqState) : SeqSet q (inState st x) c s (setSeqState q st t) := by
  unfold Machine.setSeqState inState
  rw [h.seq]
  split
  · exact h
  · exact (h.modSeq fun y => { leaveTimers st y with state := st }).note _

theorem SeqSet.setReady (h : SeqSet q x c s t) (b : Bool) : SeqSet q { x with retReady := b } c s (setReady q b t) := by
  unfold Machine.setReady
  rw [h.seq]
  split
  case isTrue hb => exact hb ▸ h
  case isFalse => exact (h.modSeq fun y => { y with retReady := b }).note _

theorem SeqSet.setPendingPark (h : SeqSet q x c s t) (b : Bool) :
    SeqSet q { x with pendingPark := b } c s (setPendingPark q b t) := by
  unfold Machine.setPendingPark
  rw [h.seq]
  split
  case isTrue hb => exact hb ▸ h
  case isFalse => exact (h.modSeq fun y => { y with pendingPark := b }).note _

theorem SeqSet.modClaim (h : SeqSet q x c s t) (d : Option SeqId) :
    SeqSet q x d s (Machine.note .sequencer (t.modSeqs fun y => { y with claim := d })) := by
  have made : SeqSet q x d s (t.modSeqs fun y => { y with claim := d }) := by
    refine ⟨⟨?_, rfl, ?_⟩, ?_⟩
    · rw [← h.seq]
      cases q <;> rfl
    · refine Eq.trans ?_ h.other
      cases q <;> rfl
    · rw [h.frame]
      rfl
  exact made.note _

/-- R121: the claim released, where the sequencer holds it. -/
theorem SeqSet.releaseClaim (h : SeqSet q x c s t) :
    SeqSet q x (if c = some q then none else c) s (releaseClaim q t) := by
  unfold Machine.releaseClaim
  rw [h.claim]
  split
  · exact h.modClaim none
  · exact h

/-- R121: the claim taken. -/
theorem SeqSet.takeClaim (h : SeqSet q x c s t) : SeqSet q x (some q) s (takeClaim q t) := by
  unfold Machine.takeClaim
  rw [h.claim]
  split
  case isTrue hc => exact hc ▸ h
  case isFalse => exact h.modClaim (some q)

/-- R111: without a close awaited there is none to withdraw. -/
theorem SeqSet.withdrawSeqClose (h : SeqSet q x c s t) (none_ : ∀ w, x.awaited = some w → w.type = .opn) :
    SeqSet q { x with awaited := none } c s (withdrawSeqClose q t) := by
  have same : Machine.withdrawSeqClose q t = t.modSeq q fun y => { y with awaited := none } := by
    unfold Machine.withdrawSeqClose
    rw [h.seq]
    cases hw : x.awaited with
    | none => rfl
    | some w =>
      dsimp only
      rw [if_neg (by rw [none_ w hw]; nofun)]
  rw [same]
  exact h.modSeq fun y => { y with awaited := none }

/-- R111: the sequencer's close is withdrawn, where one is awaited, and then no request is. -/
theorem withdrawSeqClose_cases (q : SeqId) (s : State) : ∃ v, withdrawSeqClose q s = v.modSeq q (fun y =>
    { y with awaited := none }) ∧ (v = s ∨ ∃ n, v = withdrawOwn n (.seq q) s) := by
  unfold Machine.withdrawSeqClose
  refine ⟨_, rfl, ?_⟩
  split
  · split
    · exact .inr ⟨_, rfl⟩
    · exact .inl rfl
  · exact .inl rfl

theorem withdrawSeqClose_seq (q : SeqId) (s : State) :
    SeqIs q { s.seq q with awaited := none } s.seqs.claim s (withdrawSeqClose q s) := by
  obtain ⟨v, e, from_⟩ := withdrawSeqClose_cases q s
  have seqs : v.seqs = s.seqs := by
    rcases from_ with rfl | ⟨n, rfl⟩
    · rfl
    · exact (Quiet.withdrawOwn _ _ _).seqs
  have set := ((SeqSet.refl q v).modSeq fun y => { y with awaited := none }).toSeqIs
  rw [State.seq_of_seqs seqs, seqs] at set
  rw [e]
  exact ((SeqSet.refl q s).toSeqIs.of_seqs seqs).trans set

/-- R134: entry to PARKED, the sequencer's close apart. -/
theorem enterParked_set (q : SeqId) (t : State) : SeqSet q (parkedRecord { t.seq q with awaited := none }) t.seqs.claim
    (withdrawSeqClose q t) (enterParked q t) := by
  have made := withdrawSeqClose_seq q t
  have withdrawn : SeqSet q { t.seq q with awaited := none } t.seqs.claim _ _ :=
    (SeqSet.refl q _).congr made.seq made.claim
  have stopped := (withdrawn.setReady false).modSeq fun y => { stopTimers y with inhibitHold := false }
  exact (stopped.setPendingPark false).setSeqState .parked

theorem SeqSet.enterParked (h : SeqSet q x c s t) (none_ : ∀ w, x.awaited = some w → w.type = .opn) :
    SeqSet q (parkedRecord x) c s (enterParked q t) := by
  have parked := enterParked_set q t
  rw [h.seq, h.claim] at parked
  exact (h.withdrawSeqClose none_).trans parked

theorem SeqSet.goStable (h : SeqSet q x c s t) (none_ : ∀ w, x.awaited = some w → w.type = .opn) (st : SeqState) :
    SeqSet q (stableRecord st x) c s (goStable q st t) := by
  unfold Machine.goStable stableRecord
  rw [h.seq]
  split
  · exact h.enterParked none_
  · exact h.setSeqState st

end

end Sys2Proof.Machine
end

section
/-!
The requests of a sequencer (R111): what a request leaves in the Arbiter, by what it meets, and in the sequencer's record.
-/

namespace Sys2Proof.Machine

/-! ## An open of any source but an operator's (R89 to R91) -/

section
variable {x : Source} {r : Requester} {n : Nat} {s : State} (hx : x ≠ .oprO ∧ x ≠ .oprC)
include hx

theorem windowConflict_none : windowConflict s n x = false := by
  rw [Bool.eq_false_iff, ne_eq, windowConflict_iff]
  rintro (⟨e, _⟩ | ⟨e, _⟩)
  · exact hx.2 e
  · exact hx.1 e

theorem setWindow_none : setWindow n x s = s := by
  unfold setWindow
  split
  · exact absurd rfl hx.1
  · exact absurd rfl hx.2
  · rfl

section
variable (present : (s.brk n).present = true) (passes : ¬((s.slot n).localCtl = true ∧ (x = .schO ∨ x = .oprO)))
include present passes

/-- R89 to R91: a request that passes is met by the order in service, or by the position without one. -/
theorem raiseOpen_passed : raiseOpen x r n s =
    match (s.slot n).order with
    | some o =>
      match o.type with
      | .opn => (joinOpen n o x r s, .taken o.tag)
      | .close => (putOpen n x r (endClose n .preempted s), .taken (nextTag ((endClose n .preempted s).slot n)))
    | none => if s.pos n = .opn then (s, .noChange) else (putOpen n x r s, .taken (nextTag (s.slot n))) := by
  unfold raiseOpen
  rw [if_neg (by rw [present]; nofun), if_neg passes, windowConflict_none hx, setWindow_none hx]
  rfl

theorem raiseOpen_found_open (ho : (s.slot n).order = none) (hp : s.pos n = .opn) : raiseOpen x r n s = (s, .noChange) := by
  rw [raiseOpen_passed hx present passes, ho]
  exact if_pos hp

theorem raiseOpen_put (ho : (s.slot n).order = none) (hp : s.pos n ≠ .opn) :
    raiseOpen x r n s = (putOpen n x r s, .taken (nextTag (s.slot n))) := by
  rw [raiseOpen_passed hx present passes, ho]
  exact if_neg hp

theorem raiseOpen_joined {o : Order} (ho : (s.slot n).order = some o) (ht : o.type = .opn) :
    raiseOpen x r n s = (joinOpen n o x r s, .taken o.tag) := by
  rw [raiseOpen_passed hx present passes, ho]
  dsimp only
  rw [ht]

/-- R87, R91: a preempted close leaves the order tag as it is. -/
theorem raiseOpen_preempted {o : Order} (ho : (s.slot n).order = some o) (ht : o.type = .close) :
    raiseOpen x r n s = (putOpen n x r (endClose n .preempted s), .taken (nextTag (s.slot n))) := by
  have tag : nextTag ((endClose n .preempted s).slot n) = nextTag (s.slot n) := by
    rw [(endClose_closeEnded .preempted ho ht).slot]
    rfl
  rw [raiseOpen_passed hx present passes, ho]
  dsimp only
  rw [ht]
  dsimp only
  rw [tag]

end

end

theorem raiseOpen_of_absent {x : Source} {r : Requester} {n : Nat} {s : State} (h : (s.brk n).present = false) :
    raiseOpen x r n s = (s, .refused .badRow) := if_pos h

theorem raiseOpen_of_local {r : Requester} {n : Nat} {s : State} (present : (s.brk n).present = true)
    (h : (s.slot n).localCtl = true) : raiseOpen .schO r n s = (s, .refused .loc) := by
  unfold raiseOpen
  rw [if_neg (by rw [present]; nofun)]
  exact if_pos ⟨h, .inl rfl⟩

/-! ## The awaited request (R111) -/

/-- R111: the tag by which the outcome of a request is awaited. -/
def replyTag : Reply → Option Nat
  | .taken tag => some tag
  | .noChange | .refused _ => none

/-- R111: what the requester is told of a request that ends at once. -/
def toldAtOnce (who : Requester) (n : Nat) (t : OrdType) : Reply → List Msg
  | .taken _ => []
  | .noChange => [.told who n t none .noChange]
  | .refused why => [.told who n t none (.refused why)]

/-- R111: a request becomes the awaited request, its outcome told where it ended at once. -/
theorem awaitReply_eq (q : SeqId) (n : Nat) (t : OrdType) (v : State) (reply : Reply) : awaitReply q n t (v, reply) =
    { v.modSeq q (fun x => { x with awaited := some ⟨n, t, replyTag reply⟩ }) with
      mail := v.mail ++ toldAtOnce (.seq q) n t reply } := by
  have mail : ∀ f, v.mail = (v.modSeq q f).mail := fun f => by cases q <;> rfl
  cases reply with
  | taken tag =>
    rw [toldAtOnce, List.append_nil, mail fun x => { x with awaited := some ⟨n, t, some tag⟩ }]
    rfl
  | noChange => rw [toldAtOnce, mail]; rfl
  | refused why => rw [toldAtOnce, mail]; rfl

section
variable (q : SeqId) (n : Nat) (t : OrdType) (r : State × Reply)

theorem awaitReply_set : SeqIs q { r.1.seq q with awaited := some ⟨n, t, replyTag r.2⟩ } r.1.seqs.claim r.1
    (awaitReply q n t r) := by
  have set := (SeqSet.refl q r.1).modSeq fun x => { x with awaited := some ⟨n, t, replyTag r.2⟩ }
  rw [← Prod.mk.eta (p := r), awaitReply_eq]
  exact ⟨set.seq, set.claim, set.other⟩

theorem awaitReply_slot (m : Nat) : (awaitReply q n t r).slot m = r.1.slot m := by
  rw [← Prod.mk.eta (p := r), awaitReply_eq]
  exact State.slot_of_arb (State.modSeq_arb _ _ _) m

theorem awaitReply_par : (awaitReply q n t r).par = r.1.par := by
  rw [← Prod.mk.eta (p := r), awaitReply_eq]
  exact State.modSeq_par _ _ _

theorem awaitReply_records : (awaitReply q n t r).records = r.1.records := by
  rw [← Prod.mk.eta (p := r), awaitReply_eq]
  exact State.modSeq_records _ _ _

theorem awaitReply_mail : (awaitReply q n t r).mail = r.1.mail ++ toldAtOnce (.seq q) n t r.2 := by
  rw [← Prod.mk.eta (p := r), awaitReply_eq]

/-- R111: what a sequencer raised is awaited. -/
theorem awaitReply_awaited : ((awaitReply q n t r).seq q).awaited = some ⟨n, t, replyTag r.2⟩ := by
  rw [(awaitReply_set q n t r).seq]

end

/-! ## The SCH-O of a sequencer -/

/-- R111: an open that ends at once. -/
theorem seqOpen_ended {q : SeqId} {n : Nat} {s : State} {reply : Reply} (h : raiseOpen .schO (.seq q) n s = (s, reply)) :
    ((seqOpen q n s).seq q).awaited = some ⟨n, .opn, replyTag reply⟩ ∧
      ∀ m ∈ toldAtOnce (.seq q) n .opn reply, m ∈ (seqOpen q n s).mail := by
  unfold seqOpen
  rw [h]
  refine ⟨awaitReply_awaited _ _ _ _, fun m hm => ?_⟩
  rw [awaitReply_mail]
  exact List.mem_append_right _ hm

/-- R89 to R91, R111: what an open that a sequencer raises does, by what it meets. -/
theorem seqOpen_opens (q : SeqId) {n : Nat} {s : State} (hn : n < s.arb.slots.length) : SeqOpens q n s (seqOpen q n s) := by
  have scheduled : Source.schO ≠ .oprO ∧ Source.schO ≠ .oprC := ⟨nofun, nofun⟩
  refine ⟨fun absent => ?_, fun present loc => ?_, fun present remote ho hp => ?_, fun present remote ho hp => ?_,
    fun present remote o ho ht => ?_, fun present remote o ho ht => ?_⟩
  case refine_1 =>
    obtain ⟨awaited, told⟩ := seqOpen_ended (raiseOpen_of_absent (x := .schO) (r := .seq q) absent)
    exact ⟨awaited, told _ (List.mem_singleton_self _)⟩
  case refine_2 =>
    obtain ⟨awaited, told⟩ := seqOpen_ended (raiseOpen_of_local (r := .seq q) present loc)
    exact ⟨awaited, told _ (List.mem_singleton_self _)⟩
  all_goals have passes : ¬((s.slot n).localCtl = true ∧ (Source.schO = .schO ∨ Source.schO = .oprO)) := by simp [remote]
  case refine_3 =>
    obtain ⟨awaited, told⟩ := seqOpen_ended (raiseOpen_found_open scheduled (r := .seq q) present passes ho hp)
    exact ⟨awaited, told _ (List.mem_singleton_self _)⟩
  all_goals unfold seqOpen; rw [awaitReply_awaited, awaitReply_slot]
  case refine_4 =>
    rw [raiseOpen_put scheduled present passes ho hp, (putOpen_made hn rfl (.seq q)).slot]
    exact ⟨rfl, rfl⟩
  case refine_5 =>
    rw [raiseOpen_joined scheduled present passes ho ht, (joinOpen_made hn rfl o (.seq q)).slot]
    refine ⟨rfl, _, rfl, rfl, ?_, rfl⟩
    dsimp only [joinedBy]
    split
    case isTrue h => exact h
    case isFalse => exact List.mem_append_right _ (List.mem_singleton_self _)
  case refine_6 =>
    have ended := endClose_closeEnded .preempted ho ht
    have acts := Internal.endClose n .preempted s
    have put := putOpen_made (acts.slots ▸ hn) (x := .schO) rfl (.seq q)
    rw [awaitReply_mail, raiseOpen_preempted scheduled present passes ho ht, put.slot, put.mail, ended.slot,
      acts.outside.now]
    exact ⟨rfl, rfl, rfl, fun r hr => List.mem_append_left _ (ended.told r hr)⟩

/-! ## The SCH-C of a sequencer -/

/-- A row of the ladder that takes no close is passed by a close that is taken. -/
theorem taken_of_row {c : Prop} [Decidable c] {row rest : Reply} {tag : Nat} (hr : ∀ tag, row ≠ .taken tag)
    (h : (if c then row else rest) = .taken tag) : rest = .taken tag := by
  split at h
  · exact absurd h (hr tag)
  · exact h

/-- R87, R92: a ladder that passes names the tag that follows. -/
theorem closeLadder_tag {n tag : Nat} {s : State} (h : closeLadder s n = .taken tag) : tag = nextTag (s.slot n) := by
  rw [closeLadder.eq_1] at h
  iterate 12 replace h := taken_of_row (by nofun) h
  exact (Reply.taken.inj h).symm

theorem raiseClose_ended {r : Requester} {n : Nat} {s : State} {reply : Reply} (h : closeLadder s n = reply)
    (present : (s.brk n).present = true) (ended : ∀ tag, reply ≠ .taken tag) : raiseClose .schC r n s = (s, reply) := by
  have free : windowConflict s n .schC = false := windowConflict_none ⟨nofun, nofun⟩
  cases reply with
  | taken tag => exact absurd rfl (ended tag)
  | noChange => exact raiseClose_noChange present free h
  | refused why => exact raiseClose_refused present free h

/-- R87, R93: an accepted SCH-C in service: it waits for a sync channel between two live sides, and is sent otherwise. -/
def routedClose (live : Bool) (now : Nat) (r : Requester) (a : ArbSlot) : Order :=
  { type := .close, causes := [.schC], tag := nextTag a, phase := if live then .syncWait else .issued
    issueTime := if live then none else some now, requesters := [r], nextRepeat := if live then 0 else now + 10000 }

/-- R93: the way of an SCH-C that passes the ladder, on a breaker that is no generator's. -/
theorem raiseClose_routed {r : Requester} {n tag : Nat} {s : State} (hn : n < s.arb.slots.length)
    (hg : genOfSlot n = none) (present : (s.brk n).present = true) (h : closeLadder s n = .taken tag) : ∃ l,
    (raiseClose .schC r n s).2 = .taken tag ∧ SlotSet n
      { s.slot n with lastTag := some tag, order := some (routedClose (bothLive s n) s.now r (s.slot n)) } l s
      (raiseClose .schC r n s).1 := by
  have free : windowConflict s n .schC = false := windowConflict_none ⟨nofun, nofun⟩
  obtain rfl := closeLadder_tag h
  cases live : bothLive s n with
  | true =>
    have raised := raiseClose_taken present free h (routeClose_sync (x := .schC) (r := r) live)
    rw [raised, setWindow_none (x := .schC) ⟨nofun, nofun⟩]
    exact ⟨_, rfl, (putOrder_made hn .close .schC r).toSlotSet.beside (.syncRequest n _)⟩
  | false =>
    have raised := raiseClose_taken present free h (routeClose_plain (x := .schC) (r := r) live (.inl hg))
    rw [raised, setWindow_none (x := .schC) ⟨nofun, nofun⟩]
    exact ⟨_, rfl, (issue_putOrder_made hn .close .schC r).toSlotSet⟩

/-- R111: a close that ends at once. -/
theorem seqClose_ended {q : SeqId} {n : Nat} {s : State} {reply : Reply} (h : raiseClose .schC (.seq q) n s = (s, reply)) :
    ((seqClose q n s).seq q).awaited = some ⟨n, .close, replyTag reply⟩ ∧
      ∀ m ∈ toldAtOnce (.seq q) n .close reply, m ∈ (seqClose q n s).mail := by
  unfold seqClose
  rw [h]
  refine ⟨awaitReply_awaited _ _ _ _, fun m hm => ?_⟩
  rw [awaitReply_mail]
  exact List.mem_append_right _ hm

/-- R92, R93, R111: what a close that a sequencer raises does, by what it meets. -/
theorem seqClose_closes (q : SeqId) {n : Nat} {s : State} (hn : n < s.arb.slots.length) (hg : genOfSlot n = none) :
    SeqCloses q n s (seqClose q n s) := by
  refine ⟨fun absent => ?_, fun present why hl => ?_, fun present hl => ?_, fun present tag hl => ?_⟩
  case refine_1 =>
    obtain ⟨awaited, told⟩ := seqClose_ended (q := q) (reply := .refused .badRow) (if_pos absent)
    exact ⟨awaited, told _ (List.mem_singleton_self _)⟩
  case refine_2 =>
    obtain ⟨awaited, told⟩ := seqClose_ended (raiseClose_ended (r := .seq q) hl present nofun)
    exact ⟨awaited, told _ (List.mem_singleton_self _)⟩
  case refine_3 =>
    obtain ⟨awaited, told⟩ := seqClose_ended (raiseClose_ended (r := .seq q) hl present nofun)
    exact ⟨awaited, told _ (List.mem_singleton_self _)⟩
  case refine_4 =>
    obtain ⟨l, taken, set⟩ := raiseClose_routed (r := .seq q) hn hg present hl
    unfold seqClose
    rw [awaitReply_awaited, awaitReply_slot, taken, set.slot]
    exact ⟨rfl, _, rfl, rfl, rfl, (closeLadder_tag hl).symm, rfl, rfl, rfl⟩

/-! ## The records of the sequencers after a request -/

section
variable {q : SeqId} {s t : State} {x : Seq} {c : Option SeqId}

/-- R111: an open that is raised is awaited, and no more changes in the sequencers. -/
theorem SeqIs.seqOpen (h : SeqIs q x c s t) (n : Nat) :
    ∃ tag, SeqIs q { x with awaited := some ⟨n, .opn, tag⟩ } c s (seqOpen q n t) := by
  have raised := h.of_seqs (Quiet.raiseOpen .schO (.seq q) n t).seqs
  have set := awaitReply_set q n .opn (raiseOpen .schO (.seq q) n t)
  rw [raised.seq, raised.claim] at set
  exact ⟨_, raised.trans set⟩

theorem raiseClose_seqs (r : Requester) {n : Nat} (hn : n < t.arb.slots.length) (hg : genOfSlot n = none) :
    (raiseClose .schC r n t).1.seqs = t.seqs := by
  cases present : (t.brk n).present with
  | false => rw [show raiseClose .schC r n t = (t, .refused .badRow) from if_pos present]
  | true =>
    cases h : closeLadder t n with
    | taken tag =>
      obtain ⟨l, _, set⟩ := raiseClose_routed (r := r) hn hg present h
      exact set.seqs
    | noChange => rw [raiseClose_ended h present nofun]
    | refused why => rw [raiseClose_ended h present nofun]

/-- R111: a close that is raised is awaited, and no more changes in the sequencers. -/
theorem SeqIs.seqClose (h : SeqIs q x c s t) {n : Nat} (hn : n < t.arb.slots.length) (hg : genOfSlot n = none) :
    ∃ tag, SeqIs q { x with awaited := some ⟨n, .close, tag⟩ } c s (seqClose q n t) := by
  have raised := h.of_seqs (raiseClose_seqs (.seq q) hn hg)
  have set := awaitReply_set q n .close (raiseClose .schC (.seq q) n t)
  rw [raised.seq, raised.claim] at set
  exact ⟨_, raised.trans set⟩

end

/-! ## A request as it looks from an earlier state -/

section
variable {s t u : State} {q : SeqId} {n : Nat} (h : SameGround s t)
include h

/-- An open raised on the ground of an earlier state. -/
theorem SameGround.opens (k : SeqOpens q n t u) : SeqOpens q n s u := by
  obtain ⟨absent, loc, found, sent, joined, preempts⟩ := k
  simp only [h.brk, h.slot, h.pos, h.now] at absent loc found sent joined preempts
  exact ⟨absent, loc, found, sent, joined, preempts⟩

/-- A close raised on the ground of an earlier state. -/
theorem SameGround.closes (k : SeqCloses q n t u) : SeqCloses q n s u := by
  obtain ⟨absent, refused, found, taken⟩ := k
  simp only [h.brk, h.closeLadder, h.bothLive, h.now] at absent refused found taken
  exact ⟨absent, refused, found, taken⟩

end

end Sys2Proof.Machine
end

section
/-!
The entries to the stable states, and derivation (R115): what it asks for and the record that it leaves.
-/

namespace Sys2Proof.Machine

/-! ## Entries to the stable states -/

/-- R124: a sequencer's record as ON_ALTERNATE, or PARKED in its place, is entered. -/
def onAlternateRecord (a : Alt) (proven : Bool) (dead : Option Nat) (x : Seq) : Seq :=
  let y := stableRecord .onAlternate { x with alt := some a }
  if y.state = .onAlternate then { y with busProven := proven, dead := dead } else y

section
variable {q : SeqId} {s t : State} {x : Seq} {c : Option SeqId} (h : SeqSet q x c s t)
  (none_ : ∀ w, x.awaited = some w → w.type = .opn)
include h none_

theorem SeqSet.enterPreferred :
    SeqSet q (stableRecord .preferred { x with spentTie := false, spentGm := false }) c s (enterPreferred q t) :=
  (h.modSeq fun y => { y with spentTie := false, spentGm := false }).goStable none_ .preferred

theorem SeqSet.enterDeadBus : SeqSet q (stableRecord .deadBus { x with alt := none }) c s (enterDeadBus q t) :=
  (h.modSeq fun y => { y with alt := none }).goStable none_ .deadBus

theorem SeqSet.enterOnAlternate (a : Alt) (proven : Bool) : SeqSet q (onAlternateRecord a proven
    (if proven then none else some (s.now + (s.scheme q).deadLimit * 1000)) x) c s (enterOnAlternate q a proven t) := by
  have entered := (h.modSeq fun y => { y with alt := some a }).goStable none_ .onAlternate
  unfold Machine.enterOnAlternate onAlternateRecord
  dsimp only
  rw [entered.seq, entered.ground.now, entered.ground.scheme]
  split
  · exact entered.modSeq fun y =>
      { y with busProven := proven, dead := if proven then none else some (s.now + ms (s.scheme q).deadLimit) }
  · exact entered

end

/-! ## Derivation (R115) -/

/-- R115: a sequencer's record as derivation clears it, with alternate `a` in use. -/
def cleanRecord (a : Option Alt) (x : Seq) : Seq := { derivedClean x with retReady := false, alt := a }

/-- R115: the claim where derivation leaves no alternate in use. -/
def claimReleased (q : SeqId) (c : Option SeqId) : Option SeqId := if c = some q then none else c

theorem inState_clean (st : SeqState) (a : Option Alt) (x : Seq) :
    inState st (cleanRecord a x) = { cleanRecord a x with state := st } :=
  inState_stopped st { cleanRecord a x with restore := none }

/-- R115, R134: a stable state entered by derivation, or PARKED in its place. -/
theorem stableRecord_clean (st : SeqState) (a : Option Alt) (x : Seq) : stableRecord st (cleanRecord a x) =
    { cleanRecord a x with state := if x.pendingPark then .parked else st, pendingPark := false } := by
  have park : (cleanRecord a x).pendingPark = x.pendingPark := rfl
  unfold stableRecord
  rw [park]
  cases hp : x.pendingPark with
  | true =>
    rw [if_pos rfl, parkedRecord_eq]
    rfl
  | false =>
    rw [if_neg nofun, inState_clean]
    simp only [Bool.false_eq_true, ↓reduceIte]
    rw [← hp, ← park]

section
variable {q : SeqId} {s u : State} {st st' : SeqState} {a : Option Alt} {c : Option SeqId} {loss dead : Option Nat}
  {proven park : Bool}

/-- R115: what derivation asks for, read from the record it leaves. -/
theorem SeqIs.derived (h : SeqIs q { cleanRecord a (s.seq q) with
      state := st', pendingPark := park, loss := loss, dead := dead, busProven := proven } c s u)
    (asked : derivation s q = (st, a))
    (state : st' = if (s.seq q).pendingPark = true ∧ st ≠ .lossPending then .parked else st)
    (claim : c = if a = some .tie then some q else claimReleased q s.seqs.claim)
    (timer : loss = if st = .lossPending then some (s.now + (s.scheme q).lossQualify * 1000) else none)
    (bus : st' = .onAlternate → proven = isLive (s.declared (busPoint q)) ∧
      dead = if isLive (s.declared (busPoint q)) then none else some (s.now + (s.scheme q).deadLimit * 1000)) :
    Derived q s u := by
  refine ⟨?_, ?_, ?_, ?_, ?_, ?_, ?_, ?_⟩
  all_goals simp only [h.seq, h.claim, asked]
  · exact state
  · rfl
  · exact claim
  · exact ⟨rfl, rfl, rfl, rfl, rfl, rfl⟩
  · exact ⟨rfl, rfl, rfl, rfl, rfl⟩
  · exact timer
  · exact bus
  · exact ⟨rfl, rfl⟩

/-- R115: derivation that enters a stable state other than ON_ALTERNATE. -/
theorem SeqSet.derived_stable (h : SeqSet q (stableRecord st (cleanRecord a (s.seq q))) c s u)
    (asked : derivation s q = (st, a)) (hst : st ≠ .lossPending ∧ st ≠ .onAlternate)
    (claim : c = if a = some .tie then some q else claimReleased q s.seqs.claim) : Derived q s u := by
  rw [stableRecord_clean] at h
  refine SeqIs.derived (loss := none) (dead := none) (proven := (s.seq q).busProven) h.toSeqIs asked ?_ claim
    (if_neg hst.1).symm ?_
  · simp only [hst.1, ne_eq, not_false_eq_true, and_true]
  · intro e
    split at e
    · exact absurd e nofun
    · exact absurd e hst.2

/-- R115, R124: derivation that enters ON_ALTERNATE, or PARKED in its place. -/
theorem SeqSet.derived_onAlternate {b : Alt} (h : SeqSet q (onAlternateRecord b (isLive (s.declared (busPoint q)))
      (if isLive (s.declared (busPoint q)) then none else some (s.now + (s.scheme q).deadLimit * 1000))
      (cleanRecord a (s.seq q))) c s u)
    (asked : derivation s q = (.onAlternate, some b))
    (claim : c = if some b = some Alt.tie then some q else claimReleased q s.seqs.claim) : Derived q s u := by
  have entered : stableRecord .onAlternate { cleanRecord a (s.seq q) with alt := some b } = _ :=
    stableRecord_clean .onAlternate (some b) (s.seq q)
  unfold onAlternateRecord at h
  rw [entered] at h
  dsimp only at h
  cases hp : (s.seq q).pendingPark with
  | true =>
    simp only [hp, ↓reduceIte, reduceCtorEq] at h
    exact SeqIs.derived (loss := none) (dead := none) (proven := (s.seq q).busProven) h.toSeqIs asked (by simp [hp])
      claim rfl nofun
  | false =>
    simp only [hp, Bool.false_eq_true, ↓reduceIte] at h
    exact SeqIs.derived (loss := none) h.toSeqIs asked (by simp [hp]) claim rfl fun _ => ⟨rfl, rfl⟩

end

theorem derive_set (q : SeqId) (s : State) : Derived q s (derive q s) ∧ ∃ x c, SeqSet q x c s (derive q s) := by
  have clean : SeqSet q (cleanRecord (s.seq q).alt (s.seq q)) s.seqs.claim s (setReady q false (s.modSeq q derivedClean)) :=
    ((SeqSet.refl q s).modSeq derivedClean).setReady false
  unfold derive
  dsimp only
  generalize setReady q false (s.modSeq q derivedClean) = t at clean ⊢
  have noAlt : SeqSet q (cleanRecord none (s.seq q)) (claimReleased q s.seqs.claim) s
      (releaseClaim q (t.modSeq q fun x => { x with alt := none })) :=
    (clean.modSeq fun x => { x with alt := none }).releaseClaim
  have g := clean.ground
  have tie : tieRow t q = true ↔ s.pos 2 = .closed ∧
      (s.pos (incSlot (otherSeq q)) = .closed ∨ s.pos (gmSlot (otherSeq q)) = .closed) ∧
      s.seqs.claim ≠ some (otherSeq q) := by
    simp only [tieRow, incPos, g.pos, clean.claim, Bool.and_eq_true, Bool.or_eq_true, decide_eq_true_eq, tieSlot, and_assoc]
  have locked : secLocked t q = true ↔ (s.busLock (secBus q)).isSet = true := by unfold secLocked; rw [g.busLock]
  have healthy : utilHealthy t q = true ↔ s.declared (utilPoint q) = .healthy := by
    unfold utilHealthy
    rw [g.declared, decide_eq_true_eq]
  have live : busLive t q = isLive (s.declared (busPoint q)) := by unfold busLive; rw [g.declared]
  simp only [incPos, g.pos, locked, healthy, live, tie, g.now, g.scheme]
  have asked := derivation.eq_1 s q
  split
  case isTrue h =>
    rw [if_pos h] at asked
    have made := noAlt.goStable nofun .lockedOut
    exact ⟨made.derived_stable asked ⟨nofun, nofun⟩ rfl, _, _, made⟩
  rename_i h1
  rw [if_neg h1] at asked
  split
  case isTrue h =>
    rw [if_pos h] at asked
    have made := noAlt.enterPreferred nofun
    exact ⟨made.derived_stable asked ⟨nofun, nofun⟩ rfl, _, _, made⟩
  rename_i h2
  rw [if_neg h2] at asked
  split
  case isTrue h =>
    rw [if_pos h] at asked
    have made := (noAlt.setSeqState .lossPending).modSeq fun x =>
      { x with loss := some (s.now + ms (s.scheme q).lossQualify) }
    rw [inState_clean] at made
    exact ⟨SeqIs.derived (dead := none) made.toSeqIs asked (by simp) rfl rfl nofun, _, _, made⟩
  rename_i h3
  rw [if_neg h3] at asked
  split
  case isTrue h =>
    rw [if_pos h] at asked
    have made := noAlt.enterOnAlternate nofun .gm (isLive (s.declared (busPoint q)))
    exact ⟨made.derived_onAlternate asked rfl, _, _, made⟩
  rename_i h4
  rw [if_neg h4] at asked
  split
  case isTrue h =>
    rw [if_pos h] at asked
    have made := clean.takeClaim.enterOnAlternate nofun .tie (isLive (s.declared (busPoint q)))
    exact ⟨made.derived_onAlternate asked rfl, _, _, made⟩
  case isFalse h =>
    rw [if_neg h] at asked
    have made := noAlt.goStable nofun .deadBus
    exact ⟨made.derived_stable asked ⟨nofun, nofun⟩ rfl, _, _, made⟩

end Sys2Proof.Machine
end

section
/-!
The loss timer (R118), and the statement about it and the start-up timer (O35).
-/

namespace Sys2Proof.Machine

/-- R62: the output that blocks the transfer of a section. -/
def transferBlocked (s : State) : SeqId → Bool
  | .seq1 => s.prot.block1
  | .seq2 => s.prot.block2

theorem incSlot_lt (q : SeqId) : incSlot q < 25 := by cases q <;> decide

theorem altSlot_lt (q : SeqId) (a : Alt) : altSlot q a < 25 := by cases q <;> cases a <;> decide

/-- The incomers are no generator's breakers. -/
theorem genOfSlot_incSlot (q : SeqId) : genOfSlot (incSlot q) = none := by cases q <;> rfl

section
variable {q : SeqId} {s t : State}

theorem lossExpired_blocked (h : transferBlocked t q = true) : lossExpired q t =
    t.modSeq q fun x => { x with loss := some (t.now + (t.scheme q).lossQualify * 1000) } := by
  cases q <;> exact if_pos h

theorem lossExpired_inhibited (h : transferBlocked t q = false) (hi : t.inhibitActive = true) : lossExpired q t =
    t.modSeq q fun x => { x with inhibitHold := true, loss := none } := by
  cases q <;> exact (if_neg (Bool.eq_false_iff.1 h)).trans (if_pos hi)

theorem lossExpired_begins (h : transferBlocked t q = false) (hi : t.inhibitActive = false) : lossExpired q t =
    seqOpen q (incSlot q) (setSeqState q .sourceOpening (takeSnapshot q t)) := by
  cases q <;> exact (if_neg (Bool.eq_false_iff.1 h)).trans (if_neg (Bool.eq_false_iff.1 hi))

/-- R113, R118: a sequencer's record as a transfer begins. -/
def transferRecord (tag : Option Nat) (q : SeqId) (x : Seq) : Seq :=
  { inState .sourceOpening { x with snapshot := x.lastLoad, spentTie := false, spentGm := false } with
    awaited := some ⟨incSlot q, .opn, tag⟩ }

/-- R113, R118: the transfer begins with the open of the INC. -/
theorem SeqSet.lossExpired {x : Seq} {c : Option SeqId} (made : SeqSet q x c s t) (hn : s.arb.slots.length = 25)
    (h : transferBlocked t q = false) (hi : t.inhibitActive = false) : SeqOpens q (incSlot q) s (lossExpired q t) ∧
      ∃ tag, SeqIs q (transferRecord tag q x) c s (lossExpired q t) := by
  have entered : SeqSet q _ c s (Machine.setSeqState q .sourceOpening (takeSnapshot q t)) :=
    (made.modSeq fun y => { y with snapshot := y.lastLoad, spentTie := false, spentGm := false }).setSeqState .sourceOpening
  rw [lossExpired_begins h hi]
  refine ⟨entered.ground.opens (seqOpen_opens q ?_), entered.toSeqIs.seqOpen _⟩
  rw [entered.ground.arb, hn]
  exact incSlot_lt q

end

theorem State.modSeq_frame (s : State) (q : SeqId) (f : Seq → Seq) :
    s.modSeq q f = { s with seqs := (s.modSeq q f).seqs } := by
  cases q <;> rfl

/-- Settles O35: derivation at the end of STARTING, and the three ends of the loss timer. -/
theorem startupAndLossTimers : Obligations.StartupAndLossTimers := by
  refine ⟨fun q t s starting service timer => ⟨fun due => ?_, fun early => ?_⟩,
    fun q t s safe pending timer due => ?_⟩
  · obtain ⟨derived, x, c, set⟩ := derive_set q s
    have expired : startupDue s q = true := by simp [startupDue, starting, service, timerDue_iff, timer, due]
    exact ⟨_, congrArg Host.Outcome.next (exec_whenDue expired), derived, set.other, (Internal.derive q s).outside,
      set.ground.arb, set.par⟩
  · have not_expired : ¬startupDue s q = true := by simp [startupDue, timerDue_iff, timer, early]
    exact congrArg Host.Outcome.next (if_neg not_expired)
  · have expired : lossDue s q = true := by simp [lossDue, pending, timerDue_iff, timer, due]
    intro blocked
    have output : blocked = transferBlocked s q := by cases q <;> rfl
    clear_value blocked
    subst output
    have set := SeqSet.refl q s
    refine ⟨_, congrArg Host.Outcome.next (exec_whenDue expired), ?_⟩
    have outside := (Internal.lossExpired q s).outside
    cases hb : transferBlocked s q with
    | true =>
      have waits := set.modSeq fun x => { x with loss := some (s.now + (s.scheme q).lossQualify * 1000) }
      rw [lossExpired_blocked hb] at outside ⊢
      exact ⟨waits.other, outside, waits.claim, fun _ => ⟨State.modSeq_frame _ _ _, waits.seq⟩, nofun, nofun⟩
    | false =>
      cases hi : s.inhibitActive with
      | true =>
        have held := set.modSeq fun x => { x with inhibitHold := true, loss := none }
        rw [lossExpired_inhibited hb hi] at outside ⊢
        exact ⟨held.other, outside, held.claim, nofun, fun _ _ => ⟨State.modSeq_frame _ _ _, held.seq⟩, nofun⟩
      | false =>
        obtain ⟨opens, tag, made⟩ := set.lossExpired safe.slots hb hi
        refine ⟨made.other, outside, made.claim, nofun, nofun, fun _ _ => ⟨opens, ?_⟩⟩
        rw [made.seq, transferRecord, inState_of_ne (by dsimp only; rw [pending]; nofun)]
        exact ⟨rfl, rfl, rfl, rfl, rfl, rfl, rfl⟩

end Sys2Proof.Machine
end

section
/-!
The dead timer (O36): the trial of the alternates, the loss of the alternate in use, and the close of the INC.
-/

namespace Sys2Proof.Machine

/-! ## What an entry to a state keeps -/

section
variable (st : SeqState) (x : Seq)

theorem inState_alt : (inState st x).alt = x.alt := by unfold inState; split <;> rfl

theorem inState_awaited : (inState st x).awaited = x.awaited := by unfold inState; split <;> rfl

theorem inState_spentTie : (inState st x).spentTie = x.spentTie := by unfold inState; split <;> rfl

theorem inState_kind : (inState st x).kind = x.kind := by unfold inState; split <;> rfl

/-- R134: a stable state, or PARKED in its place. -/
theorem stableRecord_state : (stableRecord st x).state = if x.pendingPark then .parked else st := by
  unfold stableRecord
  split
  · rw [parkedRecord_eq]
  · exact inState_state st x

theorem stableRecord_alt : (stableRecord st x).alt = x.alt := by
  unfold stableRecord
  split
  · rw [parkedRecord_eq]
    rfl
  · exact inState_alt st x

theorem stableRecord_spentTie : (stableRecord st x).spentTie = x.spentTie := by
  unfold stableRecord
  split
  · rw [parkedRecord_eq]
    rfl
  · exact inState_spentTie st x

end

/-! ## The trial (R120) -/

section
variable {q : SeqId} {t : State}

theorem tieReady_iff : ((t.seq q).spentTie = false ∧ tieUsable t q = true) ↔ altReady t q .tie := by
  simp only [altReady, tieUsable, utilHealthy, tieSlot, Bool.and_eq_true, Bool.not_eq_true', decide_eq_true_eq,
    Option.isNone_iff_eq_none, and_assoc]

theorem gmReady_iff : ((t.seq q).spentGm = false ∧ gmUsable t q = true) ↔ altReady t q .gm := by
  simp only [altReady, gmUsable, Bool.and_eq_true, Bool.not_eq_true']

theorem trial_tie (l : List Alt) (h : altReady t q .tie) : trial q (.tie :: l) t = useTie q t := if_pos (tieReady_iff.2 h)

theorem trial_gm (l : List Alt) (h : altReady t q .gm) : trial q (.gm :: l) t =
    setSeqState q .genWait (t.modSeq q fun x => { x with alt := some .gm }) := if_pos (gmReady_iff.2 h)

/-- R120: the trial passes over the entries that are spent or not usable. -/
theorem trial_skips {before : List Alt} (l : List Alt) (h : ∀ a ∈ before, ¬altReady t q a) :
    trial q (before ++ l) t = trial q l t := by
  induction before with
  | nil => rfl
  | cons a before ih =>
    have rest := ih fun b hb => h b (List.mem_cons_of_mem a hb)
    have first := h a (List.mem_cons_self ..)
    cases a with
    | tie => exact (if_neg (mt tieReady_iff.1 first)).trans rest
    | gm => exact (if_neg (mt gmReady_iff.1 first)).trans rest

theorem trial_none {l : List Alt} (h : ∀ a ∈ l, ¬altReady t q a) : trial q l t = enterDeadBus q t := by
  have skipped := trial_skips [] h
  rw [List.append_nil] at skipped
  exact skipped

end

section
variable {q : SeqId} {s t : State} {x : Seq} {c : Option SeqId} (h : SeqSet q x c s t)
include h

/-- R120: whether an alternate is ready is seen on the ground of an earlier state, the record and the claim apart. -/
theorem SeqSet.altReady_iff (tie : x.spentTie = (s.seq q).spentTie) (gm : x.spentGm = (s.seq q).spentGm)
    (claim : c = s.seqs.claim) (a : Alt) : altReady t q a ↔ altReady s q a := by
  have other : t.seq (otherSeq q) = s.seq (otherSeq q) := h.other
  cases a with
  | tie => simp only [altReady, h.seq, tie, other, h.ground.declared, h.claim, claim, h.ground.slot]
  | gm => simp only [altReady, h.seq, gm, h.ground.slot, h.ground.arb]

/-- R120, R121: the TIE is used. -/
theorem SeqSet.useTie (hn : s.arb.slots.length = 25) : SeqCloses q 2 s (useTie q t) ∧ ∃ tag,
    SeqIs q { inState .altClosing { x with alt := some .tie } with awaited := some ⟨2, .close, tag⟩ } (some q) s
      (useTie q t) := by
  have entered := (h.takeClaim.modSeq fun y => { y with alt := some .tie }).setSeqState .altClosing
  have slots : 2 < (Machine.setSeqState q .altClosing
      ((Machine.takeClaim q t).modSeq q fun y => { y with alt := some .tie })).arb.slots.length := by
    rw [entered.ground.arb, hn]
    decide
  exact ⟨entered.ground.closes (seqClose_closes q slots rfl), entered.toSeqIs.seqClose slots rfl⟩

/-- A request raised before entries that keep it awaited. -/
theorem SeqSet.keeps_opens {n : Nat} {r : State} (k : SeqOpens q n r s) (ha : x.awaited = (s.seq q).awaited) :
    SeqOpens q n r t := by
  obtain ⟨absent, loc, found, sent, joined, preempts⟩ := k
  simp only [← ha, ← h.seq, ← h.ground.slot, ← h.mail] at absent loc found sent joined preempts
  exact ⟨absent, loc, found, sent, joined, preempts⟩

/-- SCH-C on the INC from the dead bus. -/
theorem SeqSet.returnClose (hn : s.arb.slots.length = 25) : SeqCloses q (incSlot q) s (returnClose q t) ∧ ∃ tag,
    SeqIs q { inState .returnClosing x with awaited := some ⟨incSlot q, .close, tag⟩ } c s (returnClose q t) := by
  have entered := h.setSeqState .returnClosing
  have slots : incSlot q < (Machine.setSeqState q .returnClosing t).arb.slots.length := by
    rw [entered.ground.arb, hn]
    exact incSlot_lt q
  exact ⟨entered.ground.closes (seqClose_closes q slots (genOfSlot_incSlot q)),
    entered.toSeqIs.seqClose slots (genOfSlot_incSlot q)⟩

end

/-! ## The alternate in use is lost (R124) -/

section
variable {q : SeqId} {s t : State} {x : Seq} {c : Option SeqId} (h : SeqSet q x c s t) {a : Alt} (alt : x.alt = some a)
include h alt

theorem SeqSet.inUseSlot_eq : inUseSlot t q = altSlot q a := by
  unfold inUseSlot
  rw [h.seq, alt]

/-- R121: the claim goes with the TIE. -/
theorem SeqSet.releaseTie : SeqSet q x (if a = .tie then claimReleased q c else c) s
    (if (t.seq q).alt = some .tie then Machine.releaseClaim q t else t) := by
  rw [h.seq, alt]
  cases a with
  | tie => exact h.releaseClaim
  | gm => exact h

theorem SeqSet.loseAlternate_open (free : ∀ w, x.awaited = some w → w.type = .opn) (open_ : s.pos (altSlot q a) = .opn) :
    SeqSet q (stableRecord .deadBus { x with alt := none }) (if a = .tie then claimReleased q c else c) s
      (loseAlternate q t) := by
  unfold loseAlternate
  dsimp only
  rw [h.inUseSlot_eq alt, h.ground.pos, if_pos open_]
  exact (h.releaseTie alt).enterDeadBus free

theorem SeqSet.loseAlternate_closed (hn : s.arb.slots.length = 25) (shut : s.pos (altSlot q a) ≠ .opn) :
    (∃ tag, SeqIs q (stableRecord .deadBus { x with awaited := some ⟨altSlot q a, .opn, tag⟩ }) c s
      (loseAlternate q t)) ∧ (x.pendingPark = false → SeqOpens q (altSlot q a) s (loseAlternate q t)) := by
  have slots : altSlot q a < t.arb.slots.length := by
    rw [h.ground.arb, hn]
    exact altSlot_lt q a
  have opens := h.ground.opens (seqOpen_opens q slots)
  obtain ⟨tag, raised⟩ := h.toSeqIs.seqOpen (altSlot q a)
  have entered := (SeqSet.refl q (seqOpen q (altSlot q a) t)).goStable
    (fun w hw => by
      rw [raised.seq] at hw
      cases hw
      rfl) .deadBus
  rw [raised.seq, raised.claim] at entered
  have eq : loseAlternate q t = Machine.goStable q .deadBus (seqOpen q (altSlot q a) t) := by
    unfold loseAlternate
    dsimp only
    rw [h.inUseSlot_eq alt, h.ground.pos, if_neg shut]
  rw [eq]
  refine ⟨⟨tag, raised.trans entered.toSeqIs⟩, fun park => entered.keeps_opens opens ?_⟩
  rw [raised.seq, stableRecord, if_neg (by rw [park]; nofun)]
  exact inState_awaited _ _

end

/-! ## The dead timer -/

/-- The dead timer as its expiry is taken. -/
def deadTaken (q : SeqId) (s : State) : State := s.modSeq q fun x => { x with dead := none }

theorem deadTaken_set (q : SeqId) (s : State) :
    SeqSet q { s.seq q with dead := none } s.seqs.claim s (deadTaken q s) :=
  (SeqSet.refl q s).modSeq fun x => { x with dead := none }

section
variable {q : SeqId} {s : State} {st : SeqState} (h : (s.seq q).state = st)
include h

theorem deadTaken_state : ((deadTaken q s).seq q).state = st := by rw [(deadTaken_set q s).seq, ← h]

/-- R120, R123, R124, R130: what the expiry of the dead timer does in each state that started it. -/
theorem deadExpired_eq : deadExpired q s =
    if st = .deadWait then trial q (s.scheme q).alternates (deadTaken q s)
    else if st = .altClosing then alternateFailed q .tie (deadTaken q s)
    else if st = .onAlternate then loseAlternate q (deadTaken q s)
    else if st = .returnOpening then returnClose q (deadTaken q s)
    else deadTaken q s := by
  have taken := deadTaken_state h
  have scheme := (deadTaken_set q s).ground.scheme q
  rw [← scheme]
  unfold deadExpired
  dsimp only
  rw [show s.modSeq q (fun x => { x with dead := none }) = deadTaken q s from rfl, taken]
  cases st <;> rfl

end

section
variable {q : SeqId} {s t : State} {x : Seq} {c : Option SeqId} (h : SeqSet q x c s t)
include h

/-- R123: the TIE is spent, and the claim goes with it. -/
theorem SeqSet.tieSpent : SeqSet q { x with spentTie := true } (claimReleased q c) s
    ((Machine.releaseClaim q t).modSeq q (spend .tie)) := h.releaseClaim.modSeq (spend .tie)

theorem SeqSet.alternateFailed_tie : alternateFailed q .tie t =
    trial q (entriesAfter .tie (s.scheme q).alternates) ((Machine.releaseClaim q t).modSeq q (spend .tie)) := by
  rw [← h.releaseClaim.ground.scheme]
  rfl

end

/-- R120: GEN_WAIT is entered on the GM. -/
theorem SeqSet.genWait {q : SeqId} {s t : State} {x : Seq} {c : Option SeqId} (h : SeqSet q x c s t) :
    SeqSet q (inState .genWait { x with alt := some .gm }) c s
      (Machine.setSeqState q .genWait (t.modSeq q fun y => { y with alt := some .gm })) :=
  (h.modSeq fun y => { y with alt := some .gm }).setSeqState .genWait

/-- R120: a trial changes no other sequencer's record. -/
theorem SeqSet.trial_other {q : SeqId} {s t : State} {x : Seq} {c : Option SeqId} (h : SeqSet q x c s t)
    (hn : s.arb.slots.length = 25) (free : ∀ w, x.awaited = some w → w.type = .opn) (l : List Alt) :
    onlySeq q s (trial q l t) := by
  induction l with
  | nil => exact (h.enterDeadBus free).other
  | cons a l ih =>
    unfold trial
    cases a with
    | tie =>
      dsimp only
      split
      · obtain ⟨-, tag, made⟩ := h.useTie hn
        exact made.other
      · exact ih
    | gm =>
      dsimp only
      split
      · exact h.genWait.other
      · exact ih

/-- R134: the state that DEAD_BUS, or PARKED in its place, is entered in. -/
theorem stableRecord_dead (x : Seq) :
    (stableRecord .deadBus { x with alt := none }).state = (if x.pendingPark then SeqState.parked else .deadBus) ∧
      (stableRecord .deadBus { x with alt := none }).alt = none := by
  rw [stableRecord_state, stableRecord_alt]
  exact ⟨rfl, rfl⟩

section
variable {q : SeqId} {s t : State} {x : Seq} {c : Option SeqId} (h : SeqSet q x c s t)
include h

/-- R120, R123: with the TIE spent, whether the GM is ready is seen as before. -/
theorem SeqSet.tieSpent_gmReady (gm : x.spentGm = (s.seq q).spentGm) :
    altReady ((Machine.releaseClaim q t).modSeq q (spend .tie)) q .gm ↔ altReady s q .gm := by
  have spent := h.tieSpent
  simp only [altReady, spent.seq, gm, spent.ground.slot, spent.ground.arb]

/-- R123: the TIE has failed, and the GM behind it is used. -/
theorem SeqSet.tieFailed_gm (gm : x.spentGm = (s.seq q).spentGm) (list : (s.scheme q).alternates = [.tie, .gm])
    (ready : altReady s q .gm) :
    SeqSet q (inState .genWait { x with spentTie := true, alt := some .gm }) (claimReleased q c) s
      (alternateFailed q .tie t) := by
  rw [h.alternateFailed_tie, list]
  exact trial_gm [] ((h.tieSpent_gmReady gm).2 ready) ▸ h.tieSpent.genWait

/-- R123: the TIE has failed, and no entry behind it can be used. -/
theorem SeqSet.tieFailed_dead (gm : x.spentGm = (s.seq q).spentGm) (free : ∀ w, x.awaited = some w → w.type = .opn)
    (list : (s.scheme q).alternates = [.tie, .gm] ∨ (s.scheme q).alternates = [.gm, .tie] ∨ (s.scheme q).alternates = [.tie])
    (spent : ¬((s.scheme q).alternates = [.tie, .gm] ∧ altReady s q .gm)) :
    SeqSet q (stableRecord .deadBus { x with spentTie := true, alt := none }) (claimReleased q c) s
      (alternateFailed q .tie t) := by
  have none_left : ∀ a ∈ entriesAfter .tie (s.scheme q).alternates,
      ¬altReady ((Machine.releaseClaim q t).modSeq q (spend .tie)) q a := fun a ha => by
    rcases list with e | e | e <;> rw [e] at ha
    · rw [List.mem_singleton.1 ha, h.tieSpent_gmReady gm]
      exact fun ready => spent ⟨e, ready⟩
    · exact absurd ha nofun
    · exact absurd ha nofun
  rw [h.alternateFailed_tie, trial_none none_left]
  exact h.tieSpent.enterDeadBus free

end

/-- Settles O36: what the expiry of the dead timer does, state by state. -/
theorem deadTimerExpires : Obligations.DeadTimerExpires := by
  intro q t s safe timer due idle dead
  have set := deadTaken_set q s
  have outside := (Internal.deadExpired q s).outside
  have free : ∀ w, (s.seq q).awaited = some w → w.type = .opn := by
    rw [idle]
    nofun
  have runs : ∀ {st}, (s.seq q).state = st → st = .deadWait ∨ st = .altClosing ∨ st = .onAlternate ∨ st = .returnOpening →
      exec (.deadTimerExpiry q) s = .next (finish (deadExpired q s)) := fun hst h =>
    congrArg Host.Outcome.next (exec_whenDue (by
      rcases h with rfl | rfl | rfl | rfl <;> simp [deadDue, hst, idle, timerDue_iff, timer, due]))
  refine ⟨fun hst => ⟨_, runs hst (by simp), ?_⟩, fun hst alternates => ⟨_, runs hst (by simp), ?_⟩,
    fun hst a alt => ⟨_, runs hst (by simp), ?_⟩, fun hst => ⟨_, runs hst (by simp), ?_⟩⟩
  case refine_1 =>
    have ready : ∀ a, altReady (deadTaken q s) q a ↔ altReady s q a := set.altReady_iff rfl rfl rfl
    have skips : ∀ {l : List Alt}, (∀ a ∈ l, ¬altReady s q a) → ∀ a ∈ l, ¬altReady (deadTaken q s) q a :=
      fun h a ha => mt (ready a).1 (h a ha)
    have expired : deadExpired q s = trial q (s.scheme q).alternates (deadTaken q s) := deadExpired_eq hst
    rw [expired] at outside ⊢
    refine ⟨set.trial_other safe.slots free _, outside, fun before after split skipped tie => ?_,
      fun before after split skipped gm => ?_, fun skipped => ?_⟩
    · obtain ⟨closes, tag, made⟩ := set.useTie safe.slots
      rw [split, trial_skips _ (skips skipped), trial_tie _ ((ready _).2 tie), made.seq]
      exact ⟨inState_state _ _, inState_alt _ _, made.claim, closes⟩
    · have made := set.genWait
      rw [split, trial_skips _ (skips skipped), trial_gm _ ((ready _).2 gm), made.seq]
      exact ⟨inState_state _ _, inState_alt _ _, made.claim, made.ground.arb⟩
    · have made := set.enterDeadBus free
      obtain ⟨state, alt⟩ := stableRecord_dead { s.seq q with dead := none }
      rw [trial_none (skips skipped), made.seq]
      exact ⟨state, alt, made.claim, made.ground.arb⟩
  case refine_2 =>
    have expired : deadExpired q s = alternateFailed q .tie (deadTaken q s) := deadExpired_eq hst
    rw [expired] at outside ⊢
    by_cases gm : (s.scheme q).alternates = [.tie, .gm] ∧ altReady s q .gm
    · have made := set.tieFailed_gm rfl gm.1 gm.2
      rw [made.seq]
      exact ⟨made.other, outside, made.ground.arb, inState_spentTie _ _, made.claim,
        fun _ => ⟨inState_state _ _, inState_alt _ _⟩, fun h => absurd gm h⟩
    · have made := set.tieFailed_dead rfl free alternates gm
      obtain ⟨state, alt⟩ := stableRecord_dead { s.seq q with dead := none, spentTie := true }
      rw [made.seq]
      exact ⟨made.other, outside, made.ground.arb, stableRecord_spentTie _ _, made.claim, fun h => absurd h gm,
        fun _ => ⟨state, alt⟩⟩
  case refine_3 =>
    have expired : deadExpired q s = loseAlternate q (deadTaken q s) := deadExpired_eq hst
    rw [expired] at outside ⊢
    by_cases open_ : s.pos (altSlot q a) = .opn
    · have made := set.loseAlternate_open alt free open_
      obtain ⟨state, none_⟩ := stableRecord_dead { s.seq q with dead := none }
      rw [made.seq]
      refine ⟨made.other, outside, state, fun _ => ⟨none_, made.ground.arb, made.claim.trans ?_⟩, fun h => absurd open_ h⟩
      cases a <;> simp [claimReleased]
    · obtain ⟨⟨tag, made⟩, opens⟩ := set.loseAlternate_closed alt safe.slots open_
      rw [made.seq]
      exact ⟨made.other, outside, stableRecord_state _ _, fun h => absurd h open_, fun _ =>
        ⟨(stableRecord_alt _ _).trans alt, made.claim, opens⟩⟩
  case refine_4 =>
    have expired : deadExpired q s = returnClose q (deadTaken q s) := deadExpired_eq hst
    obtain ⟨closes, tag, made⟩ := set.returnClose safe.slots
    rw [expired] at outside ⊢
    rw [made.seq]
    exact ⟨made.other, outside, inState_state _ _, closes⟩

end Sys2Proof.Machine
end

section
/-!
The return to the utility (O37): the retransfer timer, RETRANSFER_NOW and the restore timer.
-/

namespace Sys2Proof.Machine

/-! ## The return begins (R125) -/

theorem SameOutside.inhibitActive {s t : State} (h : SameOutside s t) : t.inhibitActive = s.inhibitActive := by
  unfold State.inhibitActive
  rw [h.inhibit, h.now]

section
variable {q : SeqId} {a : Alt} {s t u : State} (h : SameGround s t)
include h

/-- A return begun on the ground of an earlier state. -/
theorem SameGround.returnBegun (k : ReturnBegun q a t u) : ReturnBegun q a s u := by
  obtain ⟨opening, closing⟩ := k
  rw [h.scheme, h.site] at opening closing
  rw [h.pos] at closing
  exact ⟨fun c => (opening c).imp_right h.opens, fun c => (closing c).imp_right (And.imp_left h.closes)⟩

end

section
variable {q : SeqId} {s t : State} {x : Seq} {c : Option SeqId} (h : SeqSet q x c s t) (hn : s.arb.slots.length = 25)
include h hn

/-- R130: entry to RETURN_OPENING. -/
theorem SeqSet.enterReturnOpening {a : Alt} (alt : x.alt = some a) :
    SeqOpens q (altSlot q a) s (enterReturnOpening q t) ∧ ∃ tag,
      SeqIs q { inState .returnOpening x with awaited := some ⟨altSlot q a, .opn, tag⟩ } c s (enterReturnOpening q t) := by
  have entered := h.setSeqState .returnOpening
  have slots : altSlot q a < (Machine.setSeqState q .returnOpening t).arb.slots.length := by
    rw [entered.ground.arb, hn]
    exact altSlot_lt q a
  unfold Machine.enterReturnOpening
  rw [h.inUseSlot_eq alt]
  exact ⟨entered.ground.opens (seqOpen_opens q slots), entered.toSeqIs.seqOpen _⟩

/-- R126: entry to RETURN_SYNC. -/
theorem SeqSet.enterReturnSync (k : ReturnKind) :
    SeqCloses q (incSlot q) s (enterReturnSync q k t) ∧ ∃ tag,
      SeqIs q { inState .returnSync { x with kind := k } with awaited := some ⟨incSlot q, .close, tag⟩ } c s
        (enterReturnSync q k t) := by
  have entered := (h.modSeq fun y => { y with kind := k }).setSeqState .returnSync
  have slots : incSlot q <
      (Machine.setSeqState q .returnSync (t.modSeq q fun y => { y with kind := k })).arb.slots.length := by
    rw [entered.ground.arb, hn]
    exact incSlot_lt q
  exact ⟨entered.ground.closes (seqClose_closes q slots (genOfSlot_incSlot q)),
    entered.toSeqIs.seqClose slots (genOfSlot_incSlot q)⟩

/-- R125: the return begins, by the first row that applies. -/
theorem SeqSet.beginReturn {a : Alt} (alt : x.alt = some a) :
    ReturnBegun q a s (beginReturn q t) ∧ onlySeq q s (beginReturn q t) := by
  have rows : Machine.beginReturn q t =
      if (s.scheme q).mode = .opn ∨ (a = .tie ∧ s.site.utilPar = false) then Machine.enterReturnOpening q t
      else Machine.enterReturnSync q
        (if (s.scheme q).mode = .soft ∧ a = .gm ∧ s.pos (gmSlot (otherSeq q)) = .opn then .soft else .fast) t := by
    unfold Machine.beginReturn
    simp only [h.ground.scheme, h.ground.site, h.ground.pos, h.seq, alt, Option.some.injEq]
    split_ifs <;> simp_all
  rw [rows]
  by_cases direct : (s.scheme q).mode = .opn ∨ (a = .tie ∧ s.site.utilPar = false)
  · obtain ⟨opens, tag, made⟩ := h.enterReturnOpening hn alt
    rw [if_pos direct]
    refine ⟨⟨fun _ => ⟨?_, opens⟩, fun c => absurd direct c⟩, made.other⟩
    rw [made.seq]
    exact inState_state _ _
  · obtain ⟨closes, tag, made⟩ := h.enterReturnSync hn
      (if (s.scheme q).mode = .soft ∧ a = .gm ∧ s.pos (gmSlot (otherSeq q)) = .opn then .soft else .fast)
    rw [if_neg direct]
    refine ⟨⟨fun c => absurd c direct, fun _ => ⟨?_, closes, ?_⟩⟩, made.other⟩
    · rw [made.seq]
      exact inState_state _ _
    · rw [made.seq]
      exact inState_kind _ _

end

/-! ## A request that names a sequencer (R109) -/

section
variable {r : Request} {rest : List Request} {q : SeqId} {s : State} (h : namesSeq r q s)
include h

theorem seqRequest_named (act : SeqId → Request → State → State) :
    seqRequest act r (setRequests rest s) = act q r (setRequests rest s) := by
  obtain ⟨named, active⟩ := h
  have who : seqOfArgs r.args = q := by
    rcases named with ⟨e, rfl⟩ | ⟨e, rfl⟩ <;> rw [e] <;> rfl
  unfold seqRequest
  dsimp only
  rw [who]
  refine if_neg fun inactive => ?_
  have service : s.inService = true := inactive.1
  have absent : (s.brk (incSlot q)).present = false := inactive.2
  rcases active with out | present
  · exact absurd (service.symm.trans out) nofun
  · exact absurd (present.symm.trans absent) nofun

/-- R174: a request that names a sequencer and is taken. -/
theorem takeKind_named {k : Kind} (taken : Taken k r rest s) (act : SeqId → Request → State → State) :
    takeKind k (seqRequest act) s = settleQueue (act q r (setRequests rest s)) := by
  rw [takeKind_taken taken, seqRequest_named h]

end

/-- Settles O37: the retransfer timer, RETRANSFER_NOW and the restore timer. -/
theorem returnBegins : Obligations.ReturnBegins := by
  intro q s safe
  refine ⟨fun a t alt watching timer due => ?_, fun r rest taken named => ?_, fun t waiting timer due => ?_⟩
  case refine_1 =>
    have expired : retransferDue s q = true := by simp [retransferDue, watching, timerDue_iff, timer, due]
    have outside := (Internal.retransferExpired q s).outside
    have set := (SeqSet.refl q s).modSeq fun x => { x with retransfer := none }
    have inhibit := (Internal.modSeq s q fun x => { x with retransfer := none }).outside.inhibitActive
    have eq : retransferExpired q s = _ := retransferExpired.eq_1 q s
    rw [set.ground.scheme, inhibit] at eq
    refine ⟨_, congrArg Host.Outcome.next (exec_whenDue expired), ?_⟩
    by_cases held : (s.scheme q).autoRetransfer = false ∨ s.inhibitActive = true
    · have made := set.setReady true
      rw [if_pos held] at eq
      rw [eq] at outside ⊢
      exact ⟨made.other, outside, fun _ => ⟨made.seq, made.ground.arb⟩, fun h1 h2 => by simp [h1, h2] at held⟩
    · obtain ⟨begun, only⟩ := set.beginReturn safe.slots alt
      rw [if_neg held] at eq
      rw [eq] at outside ⊢
      exact ⟨only, outside, fun h => absurd h held, fun _ _ => begun⟩
  case refine_2 =>
    have runs : exec .retransferNow s = .next (settleQueue (actRetransfer q r (setRequests rest s))) :=
      congrArg Host.Outcome.next (takeKind_named named taken actRetransfer)
    refine ⟨fun other => ?_, fun watching active => ?_, fun a alt watching inactive => ?_⟩
    · rw [runs]
      exact congrArg (fun u => Host.Outcome.next (settleQueue u)) (if_neg other)
    · rw [runs]
      exact congrArg (fun u => Host.Outcome.next (settleQueue u)) ((if_pos watching).trans (if_pos active))
    · obtain ⟨begun, only⟩ := (SeqSet.refl q (setRequests rest s)).beginReturn safe.slots alt
      refine ⟨_, runs.trans (congrArg (fun u => Host.Outcome.next (settleQueue u)) ((if_pos watching).trans
        (if_neg (Bool.eq_false_iff.1 inactive)))), only, (Internal.beginReturn q _).outside,
        (SameGround.setRequests rest s).returnBegun begun⟩
  case refine_3 =>
    have expired : restoreDue s q = true := by
      rcases waiting with state | ⟨state, idle⟩ <;> simp [restoreDue, *, timerDue_iff]
    have set := (SeqSet.refl q s).modSeq fun x => { x with restore := none, alt := none }
    obtain ⟨closes, tag, made⟩ := set.returnClose safe.slots
    refine ⟨_, congrArg Host.Outcome.next (exec_whenDue expired), made.other, (Internal.restoreExpired q s).outside, ?_⟩
    unfold restoreExpired
    have enters : (s.seq q).state ≠ .returnClosing := by rcases waiting with h | ⟨h, _⟩ <;> rw [h] <;> nofun
    rw [made.seq, inState_of_ne (by exact enters)]
    exact ⟨rfl, rfl, rfl, closes⟩

end Sys2Proof.Machine
end

section
/-!
The transfer inhibit (O39): its end takes up what it held, for one sequencer after the other.
-/

namespace Sys2Proof.Machine

/-! ## What the end of the inhibit brings to one sequencer -/

/-- R136: what the end of the inhibit makes of the record of sequencer `q` in `v`. -/
structure InhibitReleased (q : SeqId) (v w : State) : Prop where
  none_ : ¬((v.seq q).state = .lossPending ∧ (v.seq q).inhibitHold = true) →
    ¬((v.seq q).state = .returnWatch ∧ (v.seq q).retReady = true ∧ (v.scheme q).autoRetransfer = true) →
    w.seq q = v.seq q
  waits : (v.seq q).state = .lossPending ∧ (v.seq q).inhibitHold = true → transferBlocked v q = true → w.seq q =
    { v.seq q with inhibitHold := false, loss := some (v.now + (v.scheme q).lossQualify * 1000) }
  begins : (v.seq q).state = .lossPending ∧ (v.seq q).inhibitHold = true → transferBlocked v q = false →
    ∃ tag, w.seq q = transferRecord tag q { v.seq q with inhibitHold := false }
  returns : (v.seq q).state = .returnWatch ∧ (v.seq q).retReady = true ∧ (v.scheme q).autoRetransfer = true →
    (w.seq q).state = .returnOpening ∨ (w.seq q).state = .returnSync

section
variable {q : SeqId} {v : State} (hn : v.arb.slots.length = 25)
include hn

/-- R125, R126, R130: the state in which a return begins, whether or not an alternate is in use. -/
theorem beginReturn_state : onlySeq q v (beginReturn q v) ∧
    (((beginReturn q v).seq q).state = .returnOpening ∨ ((beginReturn q v).seq q).state = .returnSync) := by
  have set := SeqSet.refl q v
  have opening : onlySeq q v (enterReturnOpening q v) ∧ ((enterReturnOpening q v).seq q).state = .returnOpening := by
    obtain ⟨tag, made⟩ := (set.setSeqState .returnOpening).toSeqIs.seqOpen (inUseSlot v q)
    exact ⟨made.other, (congrArg Seq.state made.seq).trans (inState_state _ _)⟩
  have sync : ∀ k, onlySeq q v (enterReturnSync q k v) ∧ ((enterReturnSync q k v).seq q).state = .returnSync := fun k => by
    obtain ⟨-, tag, made⟩ := set.enterReturnSync hn k
    exact ⟨made.other, (congrArg Seq.state made.seq).trans (inState_state _ _)⟩
  unfold beginReturn
  dsimp only
  split
  · exact opening.imp_right .inl
  split
  · exact opening.imp_right .inl
  split
  · exact (sync _).imp_right .inr
  · exact (sync _).imp_right .inr

theorem inhibitEnded_released (hi : v.inhibitActive = false) :
    onlySeq q v (inhibitEnded q v) ∧ InhibitReleased q v (inhibitEnded q v) := by
  unfold inhibitEnded
  dsimp only
  by_cases held : (v.seq q).state = .lossPending ∧ (v.seq q).inhibitHold = true
  · have set := (SeqSet.refl q v).modSeq fun x => { x with inhibitHold := false }
    have outside := (Internal.modSeq v q fun x => { x with inhibitHold := false }).outside
    have output : transferBlocked (v.modSeq q fun x => { x with inhibitHold := false }) q = transferBlocked v q := by
      unfold transferBlocked
      rw [outside.prot]
    have idle := outside.inhibitActive.trans hi
    rw [if_pos held]
    generalize v.modSeq q (fun x => { x with inhibitHold := false }) = t at set output idle
    have plain : ¬((v.seq q).state = .returnWatch ∧ (v.seq q).retReady = true ∧ (v.scheme q).autoRetransfer = true) := by
      rw [held.1]
      nofun
    cases hb : transferBlocked v q with
    | true =>
      rw [lossExpired_blocked (output.trans hb), set.ground.now, set.ground.scheme]
      have made := set.modSeq fun x => { x with loss := some (v.now + (v.scheme q).lossQualify * 1000) }
      exact ⟨made.other, fun h => absurd held h, fun _ _ => made.seq, fun _ h => absurd (hb.symm.trans h) nofun,
        fun h => absurd h plain⟩
    | false =>
      obtain ⟨-, tag, made⟩ := set.lossExpired hn (output.trans hb) idle
      exact ⟨made.other, fun h => absurd held h, fun _ h => absurd (hb.symm.trans h) nofun, fun _ _ => ⟨tag, made.seq⟩,
        fun h => absurd h plain⟩
  · rw [if_neg held]
    split
    case isTrue ready =>
      obtain ⟨other, state⟩ := beginReturn_state (q := q) hn
      exact ⟨other, fun _ h => absurd ready h, fun h => absurd h held, fun h => absurd h held, fun _ => state⟩
    case isFalse plain =>
      exact ⟨rfl, fun _ _ => rfl, fun h => absurd h held, fun h => absurd h held, fun h => absurd h plain⟩

end

/-- The release as it looks from another state of the sequencer's record, clock, rows and blocks. -/
theorem InhibitReleased.of_same {q : SeqId} {s v w u : State} (h : InhibitReleased q v w) (seq : v.seq q = s.seq q)
    (now : v.now = s.now) (scheme : v.scheme q = s.scheme q) (output : transferBlocked v q = transferBlocked s q)
    (made : u.seq q = w.seq q) : InhibitReleased q s u := by
  obtain ⟨none_, waits, begins, returns⟩ := h
  simp only [seq, now, scheme, output, ← made] at none_ waits begins returns
  exact ⟨none_, waits, begins, returns⟩

theorem SameOutside.scheme {s t : State} (h : SameOutside s t) (q : SeqId) : t.scheme q = s.scheme q := by
  unfold State.scheme State.tbl
  rw [h.image]

theorem SameOutside.transferBlocked {s t : State} (h : SameOutside s t) (q : SeqId) :
    transferBlocked t q = transferBlocked s q := by
  unfold Machine.transferBlocked
  rw [h.prot]

/-! ## Both sequencers -/

/-- R136: the inhibit taken back and reported. -/
def inhibitCleared (s : State) : State := note .sequencer (s.modSeqs fun x => { x with inhibit := none })

/-- The inhibit taken back beside the records' notices. -/
theorem inhibitCleared_eq (s : State) : ∃ r, inhibitCleared s =
    { s with seqs := { s.seqs with inhibit := none }, records := r } := note_eq .sequencer _

/-- R136: what the end of the inhibit brings about, for each sequencer. -/
theorem endInhibit_released {s : State} (hn : s.arb.slots.length = 25) : (endInhibit s).seqs.inhibit = none ∧
    SameOutside { s with seqs := (endInhibit s).seqs } (endInhibit s) ∧ ∀ q, InhibitReleased q s (endInhibit s) := by
  obtain ⟨r, cleared⟩ := inhibitCleared_eq s
  have run : endInhibit s = inhibitEnded .seq2 (inhibitEnded .seq1 (inhibitCleared s)) := rfl
  have inhibit : (inhibitCleared s).seqs.inhibit = none := by rw [cleared]
  have seq : ∀ q, (inhibitCleared s).seq q = s.seq q := fun q => by rw [cleared]; cases q <;> rfl
  have scheme : ∀ q, (inhibitCleared s).scheme q = s.scheme q := fun q => by rw [cleared]; rfl
  have output : ∀ q, transferBlocked (inhibitCleared s) q = transferBlocked s q := fun q => by rw [cleared]; cases q <;> rfl
  have now : (inhibitCleared s).now = s.now := by rw [cleared]
  have slots : (inhibitCleared s).arb.slots.length = 25 := by rw [cleared]; exact hn
  have outside : SameOutside { s with seqs := { s.seqs with inhibit := none } } (inhibitCleared s) := by
    rw [cleared]
    exact ⟨rfl, rfl, rfl, rfl, rfl, rfl, rfl, rfl, rfl, rfl, rfl, rfl, rfl, .inl rfl⟩
  clear cleared
  rw [run]
  generalize inhibitCleared s = v at inhibit seq scheme output now slots outside
  have first := Internal.inhibitEnded .seq1 v
  have second := Internal.inhibitEnded .seq2 (inhibitEnded .seq1 v)
  have inactive : v.inhibitActive = false := by
    unfold State.inhibitActive
    rw [inhibit]
  obtain ⟨only1, one⟩ := inhibitEnded_released (q := .seq1) slots inactive
  obtain ⟨only2, two⟩ := inhibitEnded_released (q := .seq2) (first.slots.trans slots)
    (first.outside.inhibitActive.trans inactive)
  have all := (outside.trans first.outside).trans second.outside
  generalize inhibitEnded .seq1 v = w at first second only1 one only2 two all
  have before : w.seq .seq2 = v.seq .seq2 := only1
  refine ⟨all.inhibit, { all with inhibit := rfl }, fun q => ?_⟩
  cases q with
  | seq1 => exact one.of_same (seq .seq1) now (scheme .seq1) (output .seq1) only2
  | seq2 =>
    have same := first.outside
    exact two.of_same (before.trans (seq .seq2)) (same.now.trans now) ((same.scheme .seq2).trans (scheme .seq2))
      ((same.transferBlocked .seq2).trans (output .seq2)) rfl

/-! ## INHIBIT_TRANSFER -/

theorem setInhibit_end (s : State) : setInhibit 0 s = endInhibit s := if_pos rfl

/-- R136: the inhibit set for a duration. -/
theorem setInhibit_begin {n : Nat} (hn : n ≠ 0) (s : State) : ∃ r, setInhibit n s =
    { s with seqs := { s.seqs with inhibit := some (s.now + n * 1000000) }, records := r } := by
  obtain ⟨r, e⟩ := note_eq .sequencer (s.modSeqs fun x => { x with inhibit := some (s.now + secs n) })
  exact ⟨r, (if_neg hn).trans e⟩

/-- Settles O39: the inhibit set by INHIBIT_TRANSFER, ended by a duration of 0 or at its time, and what its end takes up. -/
theorem inhibitSetAndEnded : Obligations.InhibitSetAndEnded := by
  intro s safe
  refine ⟨fun r rest n taken args => ⟨setInhibit (min 3600 n) (setRequests rest s), ?_, ?_, fun pos => ?_, fun zero => ?_⟩,
    fun t timer due => ?_, ?_⟩
  · have acts : actInhibit r (setRequests rest s) =
        answerTo r (if 3600 < n then .doneClamped else .done) .nothing
          (finish (setInhibit (min 3600 n) (setRequests rest s))) := by
      unfold actInhibit doneStatus
      rw [args]
      simp only [decide_eq_true_eq]
    exact congrArg Host.Outcome.next ((takeKind_taken taken actInhibit).trans (congrArg settleQueue acts))
  · by_cases zero : min 3600 n = 0
    · rw [zero, setInhibit_end]
      exact (endInhibit_released (s := setRequests rest s) safe.slots).2.1
    · obtain ⟨recs, e⟩ := setInhibit_begin zero (setRequests rest s)
      rw [e]
      exact ⟨rfl, rfl, rfl, rfl, rfl, rfl, rfl, rfl, rfl, rfl, rfl, rfl, rfl, .inl rfl⟩
  · obtain ⟨recs, e⟩ := setInhibit_begin (n := min 3600 n) (by omega) (setRequests rest s)
    rw [e]
    rfl
  · rw [zero]
    exact setInhibit_end _
  · have expired : inhibitDue s = true := timerDue_iff.2 ⟨t, timer, due⟩
    exact congrArg Host.Outcome.next (exec_whenDue expired)
  · obtain ⟨inhibit, outside, released⟩ := endInhibit_released safe.slots
    refine ⟨inhibit, outside, fun q => ?_⟩
    intro blocked held ready
    have output : blocked = transferBlocked s q := by cases q <;> rfl
    clear_value blocked
    subst output
    obtain ⟨none_, waits, begins, returns⟩ := released q
    refine ⟨none_, waits, fun h hb => ?_, returns⟩
    obtain ⟨tag, made⟩ := begins h hb
    rw [made, transferRecord, inState_of_ne (by dsimp only; rw [h.1]; nofun)]
    exact ⟨rfl, rfl, rfl, tag, rfl⟩

end Sys2Proof.Machine
end

section
/-!
The soft unload beside the requests of a sequencer (R158): closes that end and opens that are raised neither begin nor
end it.
-/

namespace Sys2Proof.Machine

/-! ## Acts of the Paralleling Unit -/

/-- `t` comes from `s` by acts on the Paralleling Unit, pending notices and messages. -/
structure ParActs (s t : State) : Prop where
  frame : t = { s with
    par := t.par, records := { s.records with pendingNotices := t.records.pendingNotices }, mail := t.mail }

theorem ParActs.refl (s : State) : ParActs s s := ⟨rfl⟩

theorem ParActs.trans {s t u : State} (h : ParActs s t) (k : ParActs t u) : ParActs s u := ⟨by rw [k.frame, h.frame]⟩

theorem ParActs.ite {s t u : State} {c : Prop} [Decidable c] (ht : ParActs s t) (hu : ParActs s u) :
    ParActs s (if c then t else u) := by
  split
  · exact ht
  · exact hu

theorem ParActs.foldl {α : Type} {f : State → α → State} (hf : ∀ s x, ParActs s (f s x)) (l : List α) (s : State) :
    ParActs s (l.foldl f s) := by
  induction l generalizing s with
  | nil => exact .refl s
  | cons x xs ih => exact (hf s x).trans (ih _)

theorem ParActs.modPar (s : State) (f : Par → Par) : ParActs s (s.modPar f) := ⟨rfl⟩

theorem ParActs.post (s : State) (m : Msg) : ParActs s (s.post m) := ⟨rfl⟩

theorem ParActs.note (c : NoticeClass) (s : State) : ParActs s (note c s) := .ite ⟨rfl⟩ (.refl s)

theorem ParActs.setGenState (k : Nat) (st : GenState) (s : State) : ParActs s (setGenState k st s) := by
  have set : ParActs s (s.modGen k fun g => { g with state := st }) := .ite (.refl s) (.modPar s _)
  exact .ite (.refl s) (set.trans (.note _ _))

theorem ParActs.assignChannel (i : Nat) (r : SyncReq) (s : State) : ParActs s (assignChannel i r s) := by
  have taken : ∀ u, ParActs u (channelTaken r.slot u) := fun u => by
    unfold channelTaken
    split
    · exact .ite (.setGenState _ _ _) (.refl u)
    · exact .refl u
  exact ((ParActs.modPar s _).trans (taken _)).trans (.note _ _)

theorem ParActs.dropPlace (n : Nat) (s : State) : ParActs s (dropPlace n s) := by
  have refill : ∀ i u, ParActs u (refillChannel i u) := fun i u => by
    unfold refillChannel
    split
    · exact .refl u
    · exact (ParActs.modPar u _).trans (.assignChannel _ _ _)
  unfold Machine.dropPlace
  split
  · exact ((ParActs.modPar s _).trans (.note _ _)).trans (refill _ _)
  · exact .ite (.modPar s _) (.refl s)

theorem ParActs.closeEnded (n : Nat) (r : Requester) (g : Bool) (t : Told) (s : State) :
    ParActs s (closeEnded n r g t s) := by
  have release : ∀ u, ParActs u (releaseGrant u) := fun u => .ite (.refl u) ((ParActs.modPar u _).trans (.note _ _))
  exact ((ParActs.dropPlace n s).trans (.ite (release _) (.refl _))).trans (.ite (.post _ _) (.refl _))

theorem ParActs.tellAll (n : Nat) (o : Order) (t : Told) (s : State) : ParActs s (tellAll n o t s) :=
  .foldl (fun u _ => .post u _) _ _

theorem ParActs.endUnload (s : State) : ParActs s (endUnload s) := by
  unfold Machine.endUnload
  split
  · exact .refl s
  · exact ((ParActs.modPar s _).trans (.note _ _)).trans (.foldl (fun u k => .ite (.setGenState _ _ u) (.refl u)) _ _)

theorem ParActs.endUnloadOf (q : SeqId) (s : State) : ParActs s (endUnloadOf q s) := by
  unfold Machine.endUnloadOf
  split
  · exact .ite (.endUnload s) (.refl s)
  · exact .refl s

/-! ## The soft unload is kept -/

/-- R158: `p'` holds the soft unload of `p`, and no generator is UNLOADING in it that is not in `p`. -/
structure UnloadKept (p p' : Par) : Prop where
  unload : p'.unload = p.unload
  gens : ∀ i, (p'.gens.getD i {}).state = .unloading → (p.gens.getD i {}).state = .unloading

theorem UnloadKept.refl (p : Par) : UnloadKept p p := ⟨rfl, fun _ h => h⟩

theorem UnloadKept.of_eq {p p' : Par} (h : p' = p) : UnloadKept p p' := h ▸ .refl p

theorem UnloadKept.trans {p p' p'' : Par} (h : UnloadKept p p') (k : UnloadKept p' p'') : UnloadKept p p'' :=
  ⟨k.unload.trans h.unload, fun i hi => h.gens i (k.gens i hi)⟩

theorem UnloadKept.note {p : Par} {s : State} (h : UnloadKept p s.par) (c : NoticeClass) : UnloadKept p (note c s).par :=
  note_par c s ▸ h

theorem UnloadKept.modPar (s : State) {f : Par → Par} (unload : (f s.par).unload = s.par.unload)
    (gens : (f s.par).gens = s.par.gens) : UnloadKept s.par (s.modPar f).par := by
  refine ⟨unload, fun i h => ?_⟩
  rw [State.modPar_par, gens] at h
  exact h

/-- A generator that changes to another state is not UNLOADING. -/
theorem UnloadKept.setGenState (k : Nat) {st : GenState} (hst : st ≠ .unloading) (s : State) :
    UnloadKept s.par (setGenState k st s).par := by
  unfold Machine.setGenState
  split
  · exact .refl _
  refine UnloadKept.note ?_ _
  unfold State.modGen
  split
  · exact .refl _
  refine ⟨rfl, fun i h => ?_⟩
  by_cases hi : i = k - 1
  · subst hi
    by_cases lt : k - 1 < s.par.gens.length
    · rw [State.modPar_par, modAt_getD_same _ _ _ _ lt] at h
      exact absurd h hst
    · rw [State.modPar_par, List.getD_eq_default _ _ (by rw [modAt_length]; omega)] at h
      exact absurd h nofun
  · rw [State.modPar_par, modAt_getD_other _ _ _ _ _ hi] at h
    exact h

theorem UnloadKept.assignChannel (i : Nat) (r : SyncReq) (s : State) : UnloadKept s.par (assignChannel i r s).par := by
  refine UnloadKept.note ?_ _
  refine (UnloadKept.modPar s (f := fun p => { p with channels := modAt p.channels i fun _ => some (channelFor r) })
    rfl rfl).trans ?_
  unfold channelTaken
  split
  · unfold readyToClosing
    split
    · exact .setGenState (st := .closing) _ nofun _
    · exact .refl _
  · exact .refl _

theorem UnloadKept.dropPlace (n : Nat) (s : State) : UnloadKept s.par (dropPlace n s).par := by
  unfold Machine.dropPlace
  split
  · rename_i i _
    refine ((UnloadKept.modPar s (f := fun p => { p with channels := modAt p.channels i fun _ => none }) rfl rfl).note
      .generator).trans ?_
    unfold refillChannel
    split
    · exact .refl _
    · rename_i r rest _
      exact (UnloadKept.modPar _ (f := fun p => { p with queue := rest }) rfl rfl).trans (.assignChannel _ _ _)
  · split
    · exact .modPar s rfl rfl
    · exact .refl _

theorem UnloadKept.closeEnded (n : Nat) (r : Requester) (held : Bool) (t : Told) (s : State) :
    UnloadKept s.par (closeEnded n r held t s).par := by
  rw [closeEnded_par]
  have dropped := UnloadKept.dropPlace n s
  split
  · exact ⟨dropped.unload, dropped.gens⟩
  · exact dropped

/-- R91, R95: a close that ends takes no unload and no UNLOADING generator with it. -/
theorem UnloadKept.endClose (n : Nat) (t : Told) (s : State) : UnloadKept s.par (endClose n t s).par := by
  unfold Machine.endClose
  split
  case h_2 => exact .refl _
  case h_1 o ho =>
    split
    case h_1 => exact .refl _
    case h_2 ht =>
      have par : (tellAll n o t (removeOrder n o t s)).par = s.par := (tellAll_par _ _ _ _).trans (removeOrder_par _ _ _ _)
      have left : UnloadKept s.par (leaveService n t s).par := by
        rw [leaveService_close t ho ht]
        exact (UnloadKept.of_eq par).trans (.closeEnded _ _ _ _ _)
      have sent : ∀ u : State, (startWithdraw n o.tag (causeOf o.causes) u).par = u.par := fun u => by
        rw [startWithdraw_after (Internal.refl u) rfl]
        rfl
      dsimp only
      split
      · exact left.trans (.of_eq (sent _))
      · exact left

theorem UnloadKept.withdrawOwn (n : Nat) (r : Requester) (s : State) : UnloadKept s.par (withdrawOwn n r s).par := by
  unfold Machine.withdrawOwn
  split
  · split
    · exact .endClose _ _ _
    · exact .refl _
  · exact .refl _

theorem UnloadKept.withdrawSeqClose (q : SeqId) (s : State) : UnloadKept s.par (withdrawSeqClose q s).par := by
  obtain ⟨v, e, from_⟩ := withdrawSeqClose_cases q s
  rw [e, State.modSeq_par]
  rcases from_ with rfl | ⟨n, rfl⟩
  · exact .refl _
  · exact .withdrawOwn _ _ _

/-- R89 to R91: an SCH-O begins no unload. -/
theorem UnloadKept.seqOpen (q : SeqId) {n : Nat} {s : State} (hn : n < s.arb.slots.length) :
    UnloadKept s.par (seqOpen q n s).par := by
  have scheduled : Source.schO ≠ .oprO ∧ Source.schO ≠ .oprC := ⟨nofun, nofun⟩
  unfold Machine.seqOpen
  rw [awaitReply_par]
  cases present : (s.brk n).present with
  | false => rw [raiseOpen_of_absent present]; exact .refl _
  | true =>
    cases loc : (s.slot n).localCtl with
    | true => rw [raiseOpen_of_local present loc]; exact .refl _
    | false =>
      have passes : ¬((s.slot n).localCtl = true ∧ (Source.schO = .schO ∨ Source.schO = .oprO)) := by simp [loc]
      cases ho : (s.slot n).order with
      | none =>
        by_cases hp : s.pos n = .opn
        · rw [raiseOpen_found_open scheduled present passes ho hp]
          exact .refl _
        · rw [raiseOpen_put scheduled present passes ho hp]
          exact .of_eq (putOpen_made hn rfl (.seq q)).par
      | some o =>
        cases ht : o.type with
        | opn =>
          rw [raiseOpen_joined scheduled present passes ho ht]
          exact .of_eq (joinOpen_made hn rfl o (.seq q)).par
        | close =>
          rw [raiseOpen_preempted scheduled present passes ho ht]
          have slots : n < (Machine.endClose n .preempted s).arb.slots.length := by
            rw [(Internal.endClose n .preempted s).slots]
            exact hn
          exact (UnloadKept.endClose n .preempted s).trans (.of_eq (putOpen_made slots rfl (.seq q)).par)

/-! ## The end of the unload -/

/-- R158: one generator as the unload ends. -/
def unloadedGen (s : State) (k : Nat) : State := if (s.gen k).state = .unloading then setGenState k .online s else s

theorem UnloadKept.unloadedGen (s : State) (k : Nat) : UnloadKept s.par (unloadedGen s k).par := by
  unfold Machine.unloadedGen
  split
  · exact .setGenState (st := .online) k nofun s
  · exact .refl _

theorem unloadedGen_state {k : Nat} (h1 : 1 ≤ k) (s : State) : ((unloadedGen s k).gen k).state ≠ .unloading := by
  unfold unloadedGen
  split
  case isTrue h =>
    have inside : k ≤ s.par.gens.length := by
      by_contra out
      have absent : s.gen k = {} := List.getD_eq_default _ _ (by omega)
      rw [absent] at h
      exact absurd h nofun
    rw [setGenState_gen h1 inside]
    nofun
  case isFalse h => exact h

theorem UnloadKept.foldl (l : List Nat) (s : State) : UnloadKept s.par (l.foldl Machine.unloadedGen s).par := by
  induction l generalizing s with
  | nil => exact .refl _
  | cons k l ih => exact (UnloadKept.unloadedGen s k).trans (ih _)

theorem foldl_unloadedGen_state {k : Nat} (h1 : 1 ≤ k) {l : List Nat} (hk : k ∈ l) (s : State) :
    ((l.foldl unloadedGen s).gen k).state ≠ .unloading := by
  induction l generalizing s with
  | nil => cases hk
  | cons j l ih =>
    rcases List.mem_cons.1 hk with rfl | hk
    · exact fun h => unloadedGen_state h1 s ((UnloadKept.foldl l _).gens _ h)
    · exact ih hk _

theorem endUnload_eq {s : State} {x : Unload} (h : s.par.unload = some x) :
    endUnload s = allGens.foldl unloadedGen (note .generator (s.modPar fun p => { p with unload := none })) := by
  unfold endUnload
  rw [h]
  rfl

/-- R158: after the end of the unload no generator is UNLOADING. -/
theorem endUnload_gens {s : State} {x : Unload} (h : s.par.unload = some x) {k : Nat} (h1 : 1 ≤ k) (h8 : k ≤ 8) :
    ((endUnload s).gen k).state ≠ .unloading := by
  rw [endUnload_eq h]
  exact foldl_unloadedGen_state h1 (mem_allGens.2 ⟨h1, h8⟩) _

/-- R158: the owner's unload ends. -/
theorem endUnloadOf_own {q : SeqId} {s : State} {x : Unload} (h : s.par.unload = some x) (ho : x.owner = q) :
    endUnloadOf q s = endUnload s := by
  unfold endUnloadOf
  rw [h]
  exact if_pos ho

end Sys2Proof.Machine
end

section
/-!
PARK, RESUME and ABORT (O40): what derivation sees after the acts that come before it, and the three requests.
-/

namespace Sys2Proof.Machine

/-! ## What derivation sees (R115) -/

/-- Sequencer `q` derives in `t` what it derives in `s`: `t` is `s` as derivation reads it, the claim of `q` released or
not. -/
structure DerivesAlike (q : SeqId) (s t : State) : Prop where
  now : t.now = s.now
  scheme : t.scheme q = s.scheme q
  declared : ∀ v, t.declared v = s.declared v
  pos : ∀ n, t.pos n = s.pos n
  locks : ∀ b, t.busLock b = s.busLock b
  park : (t.seq q).pendingPark = (s.seq q).pendingPark
  loads : (t.seq q).lastLoad = (s.seq q).lastLoad ∧ (t.seq q).snapshot = (s.seq q).snapshot
  claim : t.seqs.claim = s.seqs.claim ∨ t.seqs.claim = claimReleased q s.seqs.claim

theorem SameGround.derivesAlike {q : SeqId} {s t : State} (h : SameGround s t) (seqs : t.seqs = s.seqs) :
    DerivesAlike q s t := by
  have seq := State.seq_of_seqs seqs q
  exact ⟨h.now, h.scheme q, h.declared, h.pos, h.busLock, congrArg Seq.pendingPark seq,
    ⟨congrArg Seq.lastLoad seq, congrArg Seq.snapshot seq⟩, .inl (congrArg Seqs.claim seqs)⟩

theorem claimReleased_twice (q : SeqId) (c : Option SeqId) : claimReleased q (claimReleased q c) = claimReleased q c := by
  unfold claimReleased
  split_ifs <;> simp_all

theorem claimReleased_other {q : SeqId} {c : Option SeqId} :
    claimReleased q c ≠ some (otherSeq q) ↔ c ≠ some (otherSeq q) := by
  unfold claimReleased
  split
  case isTrue h =>
    rw [h]
    cases q <;> simp [otherSeq]
  case isFalse => rfl

theorem DerivesAlike.derived {q : SeqId} {s t u : State} (h : DerivesAlike q s t) (k : Derived q t u) : Derived q s u := by
  obtain ⟨now, scheme, declared, pos, locks, park, loads, claim⟩ := h
  have free : t.seqs.claim ≠ some (otherSeq q) ↔ s.seqs.claim ≠ some (otherSeq q) := by
    rcases claim with e | e <;> rw [e]
    exact claimReleased_other
  have released : claimReleased q t.seqs.claim = claimReleased q s.seqs.claim := by
    rcases claim with e | e <;> rw [e]
    exact claimReleased_twice q _
  have asked : derivation t q = derivation s q := by
    unfold derivation
    simp only [locks, pos, declared, free]
  obtain ⟨state, alt, held, cleared, timers, loss, proven, kept⟩ := k
  rw [asked] at state alt held loss
  simp only [park, now, scheme, declared, loads.1, loads.2] at state loss proven kept
  exact ⟨state, alt, held.trans (congrArg (fun c => if (derivation s q).2 = some .tie then some q else c) released), cleared,
    timers, loss, proven, kept⟩

/-! ## What a withdrawn close and an ended unload leave (R111, R158) -/

/-- R95: the withdrawal of a close touches no bus lockout. -/
theorem withdrawOwn_busLock (n : Nat) (r : Requester) (s : State) (b : Bus) :
    (withdrawOwn n r s).busLock b = s.busLock b := by
  unfold withdrawOwn
  split
  · split
    · exact (OrderActs.endClose _ _ _).buses b
    · rfl
  · rfl

theorem withdrawSeqClose_derivesAlike (q : SeqId) (s : State) : DerivesAlike q s (withdrawSeqClose q s) := by
  have outside := (Internal.withdrawSeqClose q s).outside
  have made := withdrawSeqClose_seq q s
  have meas : ∀ v, (withdrawSeqClose q s).declared v = s.declared v := fun v => by
    simp only [State.declared, State.voltMeas, outside.meas]
  have kept : (∀ n, (withdrawSeqClose q s).pos n = s.pos n) ∧ ∀ b, (withdrawSeqClose q s).busLock b = s.busLock b := by
    obtain ⟨v, e, from_⟩ := withdrawSeqClose_cases q s
    have set := ((SeqSet.refl q v).modSeq fun x => { x with awaited := none }).ground
    rw [e]
    rcases from_ with rfl | ⟨n, rfl⟩
    · exact ⟨set.pos, set.busLock⟩
    · exact ⟨fun m => (set.pos m).trans ((Quiet.withdrawOwn _ _ _).pos m),
        fun b => (set.busLock b).trans (withdrawOwn_busLock _ _ _ b)⟩
  refine ⟨outside.now, outside.scheme q, meas, kept.1, kept.2, ?_, ?_, .inl made.claim⟩
  · rw [made.seq]
  · rw [made.seq]
    exact ⟨rfl, rfl⟩

/-- R158: the end of the unload touches the Paralleling Unit and the notices only. -/
theorem SameGround.endUnloadOf (q : SeqId) (s : State) : SameGround s (endUnloadOf q s) := by
  rw [(ParActs.endUnloadOf q s).frame]
  exact ⟨rfl, rfl, rfl, rfl⟩

/-- R158: after its end the unload of `q` is not in force. -/
theorem endUnloadOf_none {q : SeqId} {s : State} {x : Unload} (h : s.par.unload = some x) (ho : x.owner = q) :
    (endUnloadOf q s).par.unload = none := by
  rw [endUnloadOf_own h ho]
  exact (endUnload_par s).1

theorem DerivesAlike.trans {q : SeqId} {s t u : State} (h : DerivesAlike q s t) (k : DerivesAlike q t u) :
    DerivesAlike q s u := by
  refine ⟨k.now.trans h.now, k.scheme.trans h.scheme, fun v => (k.declared v).trans (h.declared v),
    fun n => (k.pos n).trans (h.pos n), fun b => (k.locks b).trans (h.locks b), k.park.trans h.park,
    ⟨k.loads.1.trans h.loads.1, k.loads.2.trans h.loads.2⟩, ?_⟩
  rcases k.claim with e | e <;> rcases h.claim with e' | e' <;> rw [e, e']
  · exact .inl rfl
  · exact .inr rfl
  · exact .inr rfl
  · exact .inr (claimReleased_twice _ _)

theorem releaseClaim_derivesAlike (q : SeqId) (s : State) : DerivesAlike q s (releaseClaim q s) := by
  have set := (SeqSet.refl q s).releaseClaim
  have ground := set.ground
  exact ⟨ground.now, ground.scheme q, ground.declared, ground.pos, ground.busLock, congrArg Seq.pendingPark set.seq,
    ⟨congrArg Seq.lastLoad set.seq, congrArg Seq.snapshot set.seq⟩, .inr set.claim⟩

/-! ## ABORT (R135) -/

/-- R135: what ABORT does before it derives. -/
def abortCleared (q : SeqId) (s : State) : State := releaseClaim q (endUnloadOf q (withdrawSeqClose q s))

theorem abortCleared_derivesAlike (q : SeqId) (s : State) : DerivesAlike q s (abortCleared q s) :=
  have ended := (SameGround.endUnloadOf q (withdrawSeqClose q s)).derivesAlike (BesideArb.endUnloadOf q _).seqs
  ((withdrawSeqClose_derivesAlike q s).trans ended).trans (releaseClaim_derivesAlike q _)

theorem abortCleared_other (q : SeqId) (s : State) : onlySeq q s (abortCleared q s) := by
  have released : onlySeq q (endUnloadOf q (withdrawSeqClose q s)) (abortCleared q s) :=
    (SeqSet.refl q _).releaseClaim.other
  have ended := State.seq_of_seqs (BesideArb.endUnloadOf q (withdrawSeqClose q s)).seqs (otherSeq q)
  exact (Eq.trans released ended).trans (withdrawSeqClose_seq q s).other

theorem abortCleared_unload {q : SeqId} {s : State} {x : Unload} (h : s.par.unload = some x) (ho : x.owner = q) :
    (abortCleared q s).par.unload = none := by
  have withdrawn := (UnloadKept.withdrawSeqClose q s).unload.trans h
  unfold abortCleared
  rw [(SeqSet.refl q _).releaseClaim.par]
  exact endUnloadOf_none withdrawn ho

/-! ## PARK (R134) -/

/-- R110, chapter 6.3: the stable states. -/
theorem isStable_iff {st : SeqState} : isStable st = true ↔
    st = .parked ∨ st = .preferred ∨ st = .onAlternate ∨ st = .returnWatch ∨ st = .deadBus ∨ st = .lockedOut := by
  cases st <;> decide

/-- RESUME, ABORT and RETRANSFER_NOW are taken in SERVICE only. -/
theorem Taken.not_config {k : Kind} {r : Request} {rest : List Request} {s : State} (h : Taken k r rest s)
    (hk : (takenIn k).configTables = false ∧ (takenIn k).config = false) : s.inConfig = false := by
  have taken := h.state
  rw [Bool.eq_false_iff, ne_eq, inConfig_iff]
  rintro ⟨fromService, e⟩
  rw [e] at taken
  cases fromService
  · exact absurd (hk.2.symm.trans taken) nofun
  · exact absurd (hk.1.symm.trans taken) nofun

section
variable {q : SeqId} {s : State}

theorem parkSeq_parked (h : (s.seq q).state = .parked) : parkSeq q s = s := if_pos h

theorem parkSeq_stable (hp : (s.seq q).state ≠ .parked) (h : isStable (s.seq q).state = true) :
    parkSeq q s = enterParked q s := (if_neg hp).trans (if_pos h)

theorem parkSeq_pending (hp : (s.seq q).state ≠ .parked) (h : ¬isStable (s.seq q).state = true) :
    parkSeq q s = setPendingPark q true s := (if_neg hp).trans (if_neg h)

theorem parkSeq_other (q : SeqId) (s : State) : onlySeq q s (parkSeq q s) := by
  by_cases hp : (s.seq q).state = .parked
  · rw [parkSeq_parked hp]
    exact rfl
  by_cases h : isStable (s.seq q).state = true
  · rw [parkSeq_stable hp h]
    exact (SeqActs.enterParked q s).other
  · rw [parkSeq_pending hp h]
    exact ((SeqSet.refl q s).setPendingPark true).other

/-! ## RESUME (R134) -/

theorem resumeSeq_refused (h : (s.seq q).state = .starting ∨ (s.seq q).state = .parked ∧ s.mgmt.mode = .blocked ∨
    (s.seq q).state ≠ .lockedOut ∧ (s.seq q).state ≠ .parked ∧ (s.seq q).pendingPark = false) : resumeSeq q s = none := by
  unfold resumeSeq
  rcases h with h | ⟨h, mode⟩ | ⟨h1, h2, h3⟩
  · simp [h]
  · simp [h, mode]
  · simp [h1, h2, h3]

theorem resumeSeq_derives (config : s.inConfig = false) (h : (s.seq q).state = .parked ∧ s.mgmt.mode ≠ .blocked ∨
    (s.seq q).state = .lockedOut ∧ (s.seq q).pendingPark = false) : resumeSeq q s = some (derive q s) := by
  unfold resumeSeq
  rcases h with ⟨h, mode⟩ | ⟨h, park⟩
  · simp [h, mode, config]
  · simp [h, park]

theorem resumeSeq_unparks (h1 : (s.seq q).state ≠ .starting) (h2 : (s.seq q).state ≠ .parked)
    (h3 : (s.seq q).pendingPark = true) : resumeSeq q s = some (setPendingPark q false s) := by
  unfold resumeSeq
  simp [h1, h2, h3]

theorem abortSeq_refused (h : (s.seq q).state = .starting ∨ (s.seq q).state = .parked) : abortSeq q s = none := if_pos h

theorem abortSeq_derives (h1 : (s.seq q).state ≠ .starting) (h2 : (s.seq q).state ≠ .parked) :
    abortSeq q s = some (derive q (abortCleared q s)) := if_neg (not_or.2 ⟨h1, h2⟩)

end

/-- Settles O40: PARK, RESUME and ABORT by the state of the sequencer. -/
theorem parkResumeAbort : Obligations.ParkResumeAbort := by
  intro q r rest s safe named s' st stable
  have ground : SameGround s s' := .setRequests rest s
  have alike : DerivesAlike q s s' := ground.derivesAlike rfl
  have tries : ∀ (k : Kind) (act : SeqId → State → Option State) (v : Option State), Taken k r rest s → act q s' = v →
      takeKind k (seqRequest fun q r s => tryRequest (act q s) r s) s = settleQueue (tryRequest v r s') :=
    fun k act v taken e => (takeKind_named named taken _).trans (by rw [← e])
  refine ⟨fun taken config => ?_, fun taken => ?_, fun taken => ?_⟩
  case refine_1 =>
    have acts : actPark q r s' = answerDone r (finish (parkSeq q s')) := by
      unfold actPark
      exact congrArg (answerDone r) (if_neg (Bool.eq_false_iff.1 config))
    refine ⟨_, congrArg Host.Outcome.next ((takeKind_named named taken actPark).trans (congrArg settleQueue acts)),
      parkSeq_other q s', (Internal.parkSeq q s').outside, fun parked => parkSeq_parked parked, fun h => ?_, fun h hp => ?_⟩
    · have hp : (s'.seq q).state ≠ .parked := by
        rcases h with h | h | h | h | h <;> exact fun e => absurd (h.symm.trans e) nofun
      rw [parkSeq_stable hp (isStable_iff.2 (.inr h)), (enterParked_set q s').seq, parkedRecord_eq]
      exact ⟨rfl, rfl, rfl, rfl, rfl, rfl, rfl⟩
    · have moving : ¬isStable (s'.seq q).state = true := fun e => (isStable_iff.1 e).elim hp h
      have made := (SeqSet.refl q s').setPendingPark true
      rw [parkSeq_pending (s := s') hp moving]
      exact ⟨made.seq, made.ground.arb⟩
  case refine_2 =>
    have config : s'.inConfig = false := taken.not_config ⟨rfl, rfl⟩
    have refused : resumeSeq q s' = none → exec .resume s = .next (settleQueue (refuse r .wrongState s')) := fun e =>
      congrArg Host.Outcome.next (tries .resume resumeSeq _ taken e)
    have resumed : ∀ v, resumeSeq q s' = some v → exec .resume s = .next (settleQueue (answerDone r (finish v))) :=
      fun v e => congrArg Host.Outcome.next (tries .resume resumeSeq _ taken e)
    refine ⟨fun h => refused (resumeSeq_refused (.inl h)), fun h mode => refused (resumeSeq_refused (.inr (.inl ⟨h, mode⟩))),
      fun h1 h2 h3 => refused (resumeSeq_refused (.inr (.inr ⟨h1, h2, h3⟩))), fun h => ?_, fun h1 h2 h3 => ?_⟩
    · obtain ⟨derived, x, c, set⟩ := derive_set q s'
      exact ⟨_, resumed _ (resumeSeq_derives config h), alike.derived derived, set.other, (Internal.derive q s').outside,
        set.ground.arb⟩
    · have made := (SeqSet.refl q s').setPendingPark false
      exact ⟨_, resumed _ (resumeSeq_unparks h1 h2 h3), made.seq, made.other, (Internal.setPendingPark q false s').outside,
        made.ground.arb⟩
  case refine_3 =>
    refine ⟨fun h => congrArg Host.Outcome.next (tries .abort abortSeq _ taken (abortSeq_refused h)), fun h1 h2 => ?_⟩
    obtain ⟨derived, x, c, set⟩ := derive_set q (abortCleared q s')
    have cleared : Internal s' (abortCleared q s') :=
      ((Internal.withdrawSeqClose q s').trans (.endUnloadOf q _)).trans (.releaseClaim q _)
    refine ⟨_, congrArg Host.Outcome.next (tries .abort abortSeq _ taken (abortSeq_derives h1 h2)),
      (alike.trans (abortCleared_derivesAlike q s')).derived derived, set.other.trans (abortCleared_other q s'),
      (cleared.trans (.derive q _)).outside, fun x hx ho => ?_⟩
    rw [set.par]
    exact abortCleared_unload (s := s') hx ho

end Sys2Proof.Machine
end

section
/-!
The parallel timer and the soft limit (O38): the open with PROT, the OVERRUN record, and the end of the soft unload.
-/

namespace Sys2Proof.Machine

/-! ## No record is made (R163) -/

/-- R163: each OPEN record of `t` is, by its first time, an OPEN record of `s`. -/
structure NoneOpened (s t : State) : Prop where
  open_ : ∀ r ∈ t.records.queue, r.complete = false →
    ∃ r' ∈ s.records.queue, r'.complete = false ∧ r'.firstTime = r.firstTime

theorem NoneOpened.of_queue {s t : State} (h : t.records.queue = s.records.queue) : NoneOpened s t :=
  ⟨fun r hr hc => ⟨r, h ▸ hr, hc, rfl⟩⟩

theorem NoneOpened.refl (s : State) : NoneOpened s s := .of_queue rfl

theorem NoneOpened.trans {s t u : State} (h : NoneOpened s t) (k : NoneOpened t u) : NoneOpened s u := by
  refine ⟨fun r hr hc => ?_⟩
  obtain ⟨r1, hr1, hc1, h1⟩ := k.open_ r hr hc
  obtain ⟨r2, hr2, hc2, h2⟩ := h.open_ r1 hr1 hc1
  exact ⟨r2, hr2, hc2, h2.trans h1⟩

theorem NoneOpened.ite {s t u : State} {c : Prop} [Decidable c] (ht : NoneOpened s t) (hu : NoneOpened s u) :
    NoneOpened s (if c then t else u) := by
  split
  · exact ht
  · exact hu

theorem ParActs.noneOpened {s t : State} (h : ParActs s t) : NoneOpened s t := .of_queue (by rw [h.frame])

theorem NoneOpened.note (c : NoticeClass) (s : State) : NoneOpened s (note c s) := (ParActs.note c s).noneOpened

theorem NoneOpened.modSlot (s : State) (n : Nat) (f : ArbSlot → ArbSlot) : NoneOpened s (s.modSlot n f) := .of_queue rfl

theorem NoneOpened.modEmu (s : State) (n : Nat) (f : Emu → Emu) : NoneOpened s (modEmu n f s) := .of_queue rfl

theorem NoneOpened.sendFrame (n : Nat) (c : OrderCode) (tag : Nat) (x : Source) (s : State) :
    NoneOpened s (sendFrame n c tag x s) := by
  have one : ∀ p k f u, NoneOpened u (enqueue p k f u) := fun p k f u => .ite (.of_queue rfl) (.refl u)
  unfold Machine.sendFrame originate
  split
  · split
    · exact .refl s
    · exact (one _ _ _ _).trans (one _ _ _ _)
  · exact .refl s

theorem NoneOpened.endClose (n : Nat) (t : Told) (s : State) : NoneOpened s (endClose n t s) := by
  have removed : ∀ o, NoneOpened s (removeOrder n o t s) := fun o =>
    ((NoneOpened.modSlot s n _).trans (.ite (.modEmu _ n _) (.refl _))).trans (.note _ _)
  unfold Machine.endClose
  split
  case h_2 => exact .refl s
  case h_1 o ho =>
    split
    case h_1 => exact .refl s
    case h_2 ht =>
      have left : NoneOpened s (leaveService n t s) := by
        rw [leaveService_close t ho ht]
        exact (removed o).trans ((ParActs.tellAll n o t _).trans (.closeEnded _ _ _ _ _)).noneOpened
      dsimp only
      split
      · exact left.trans ((NoneOpened.modSlot _ n _).trans (.sendFrame _ _ _ _ _))
      · exact left

theorem NoneOpened.testRecords (s : State) : NoneOpened s (testRecords s) := by
  refine ⟨fun r hr hc => ?_⟩
  rw [(testRecords_tested s).queue] at hr
  obtain ⟨r', hr', rfl⟩ := List.mem_map.1 hr
  unfold settled at hc ⊢
  split at hc
  · exact absurd hc nofun
  · rename_i idle
    rw [if_neg idle]
    exact ⟨r', hr', hc, rfl⟩

theorem NoneOpened.startProtective (n : Nat) (x : Source) (s : State) : NoneOpened s (startProtective n x s) := by
  have reported : ∀ u, NoneOpened u (reportBf n .timing u) := fun u => by
    have viewed : NoneOpened u (u.modRecords fun r => { r with bfView := modAt r.bfView n fun _ => .timing }) :=
      .of_queue rfl
    exact (viewed.trans (.note _ _)).trans (.testRecords _)
  have bf : NoneOpened s (startBf n s) :=
    .ite ((NoneOpened.modSlot s n _).trans (reported _)) (.refl s)
  have line : ∀ u, NoneOpened u (energizeLine n u) := fun u => .ite (.modSlot u n _) (.refl u)
  exact .ite (bf.trans (line _)) (.refl s)

theorem NoneOpened.putOpen (n : Nat) (x : Source) (r : Requester) (s : State) : NoneOpened s (putOpen n x r s) := by
  have sent : ∀ u, NoneOpened u (sendOrder n u) := fun u => by
    unfold sendOrder
    split
    · exact .sendFrame _ _ _ _ _
    · exact .refl u
  have moved : ∀ t u, NoneOpened u (setMove n t u) := fun t u => .ite (.modEmu u n _) (.refl u)
  have issued : ∀ u, NoneOpened u (issue n u) := fun u => by
    unfold issue
    split
    · exact .refl u
    · exact ((NoneOpened.modSlot u n _).trans (moved _ _)).trans (sent _)
  exact (((NoneOpened.modSlot s n _).trans (.note _ _)).trans (issued _)).trans (.startProtective _ _ _)

/-! ## The open with PROT (R89 to R91) -/

section
variable {n : Nat} {s : State} {r : Requester}

/-- R89: neither a local control nor an operator window stands in the way of PROT. -/
theorem prot_passes : (Source.prot ≠ .oprO ∧ Source.prot ≠ .oprC) ∧
    ¬((s.slot n).localCtl = true ∧ (Source.prot = .schO ∨ Source.prot = .oprO)) := by simp

theorem NoneOpened.raiseOpen_prot : NoneOpened s (raiseOpen .prot r n s).1 := by
  obtain ⟨plain, passes⟩ := prot_passes (n := n) (s := s)
  cases present : (s.brk n).present with
  | false => rw [raiseOpen_of_absent present]; exact .refl s
  | true =>
    cases ho : (s.slot n).order with
    | none =>
      by_cases hp : s.pos n = .opn
      · rw [raiseOpen_found_open plain present passes ho hp]
        exact .refl s
      · rw [raiseOpen_put plain present passes ho hp]
        exact .putOpen n .prot r s
    | some o =>
      cases ht : o.type with
      | opn =>
        rw [raiseOpen_joined plain present passes ho ht]
        exact .ite (.modSlot s n _) ((NoneOpened.modSlot s n _).trans (.startProtective _ _ _))
      | close =>
        rw [raiseOpen_preempted plain present passes ho ht]
        exact (NoneOpened.endClose n .preempted s).trans (.putOpen n .prot r _)

/-- R89: an open of PROT put in service. -/
theorem putOpen_order (hn : n < s.arb.slots.length) :
    ((putOpen n .prot r s).slot n).order = some (issuedOrder s.now .opn .prot r (s.slot n)) := by
  unfold putOpen
  rw [startProtective_order, (issue_putOrder_made hn .opn .prot r).slot]

/-- R90: an open that PROT joins. -/
theorem joinOpen_order {o : Order} (ho : (s.slot n).order = some o) :
    ((joinOpen n o .prot r s).slot n).order = some (joinedBy .prot r o) := by
  have joined : ((s.modSlot n fun a => { a with order := some (joinedBy .prot r o) }).slot n).order =
      some (joinedBy .prot r o) :=
    congrArg ArbSlot.order (State.modSlot_slot_same s n _ (slot_lt_of_order ho))
  unfold joinOpen
  dsimp only
  split
  · exact joined
  · rw [startProtective_order]
    exact joined

/-- R89 to R91: after PROT was raised on a present breaker that is not OPEN, an open with that cause is in service and named
by the reply. -/
theorem raiseOpen_prot_carried (hn : n < s.arb.slots.length) (present : (s.brk n).present = true) (hp : s.pos n ≠ .opn) :
    ∃ o, ((raiseOpen .prot r n s).1.slot n).order = some o ∧ o.type = .opn ∧ .prot ∈ o.causes ∧ r ∈ o.requesters ∧
      (raiseOpen .prot r n s).2 = .taken o.tag := by
  obtain ⟨plain, passes⟩ := prot_passes (n := n) (s := s)
  cases ho : (s.slot n).order with
  | none =>
    rw [raiseOpen_put plain present passes ho hp]
    exact ⟨_, putOpen_order hn, rfl, List.mem_singleton_self _, List.mem_singleton_self _, rfl⟩
  | some o =>
    cases ht : o.type with
    | opn =>
      rw [raiseOpen_joined plain present passes ho ht]
      refine ⟨_, joinOpen_order ho, ht, ?_, List.mem_append_right _ (List.mem_singleton_self _), rfl⟩
      dsimp only [joinedBy]
      split
      case isTrue h => exact h
      case isFalse => exact List.mem_append_right _ (List.mem_singleton_self _)
    | close =>
      have acts := Internal.endClose n .preempted s
      have tag : nextTag ((endClose n .preempted s).slot n) = nextTag (s.slot n) := by
        rw [(endClose_closeEnded .preempted ho ht).slot]
        rfl
      rw [raiseOpen_preempted plain present passes ho ht]
      exact ⟨_, putOpen_order (acts.slots ▸ hn), rfl, List.mem_singleton_self _, List.mem_singleton_self _,
        congrArg Reply.taken tag.symm⟩

end

/-! ## The OVERRUN record (R163, R164) -/

theorem enterSlot_keeps (s : State) (r : Record) (n : Nat) :
    (enterSlot s r n).kind = r.kind ∧ (enterSlot s r n).overrun = r.overrun := by
  rcases enterSlot_cases (s := s) (r := r) (n := n) with h | ⟨b, waits, h⟩ <;> rw [h] <;> exact ⟨rfl, rfl⟩

/-- R163 case 3: an OVERRUN trigger that no record takes makes one that carries it. -/
theorem takeTrigger_overrun (o : OverrunPart) {s : State} (hl : s.records.queue.length ≤ 16)
    (past : ∀ r ∈ s.records.queue, r.complete = true ∨ r.firstTime + 1000000 < s.now) :
    ∃ r ∈ (takeTrigger (.overrun o) s).records.queue, r.kind = .overrun ∧ r.overrun = some o := by
  have now : (freed (.overrun o) s).now = s.now := by
    rcases freed_cases (.overrun o) s with h | h
    · rw [h]
    · rw [h]
      rfl
  have records := freed_records (.overrun o) s
  generalize hv : freed (.overrun o) s = v at now records
  have closed : ∀ y ∈ v.records.queue, ¬mayTake v (.overrun o) y = true := fun y hy => by
    rw [mayTake_iff hy]
    rintro (held | ⟨-, window⟩)
    · exact absurd held nofun
    · obtain ⟨hc, recent⟩ := inWindow_iff.1 window
      rw [records] at hy
      rcases past y hy with h | h
      · exact absurd (hc.symm.trans h) nofun
      · rw [now] at recent
        omega
  subst hv
  obtain ⟨placed, -⟩ := takeTrigger_created (t := .overrun o) (s := s) (by rw [records]; exact hl) closed
  rw [placed.queue]
  refine ⟨_, List.mem_map_of_mem (List.mem_append_right _ (List.mem_singleton_self _)), ?_⟩
  have merged : ∀ r : Record, r.overrun = none → (mergeTrigger (freed (.overrun o) s) (.overrun o) r).kind = r.kind ∧
      (mergeTrigger (freed (.overrun o) s) (.overrun o) r).overrun = some o := fun r h => by
    obtain ⟨kind, overrun⟩ := enterSlot_keeps (freed (.overrun o) s) (addTrigger (.overrun o) r) o.slot
    have added : addTrigger (.overrun o) r =
        { r with overrun := some o, pickupIdx := min r.pickupIdx o.index, operIdx := min r.operIdx o.index } := by
      unfold addTrigger
      simp only [h, Option.isNone_none, ↓reduceIte]
    rw [added] at kind overrun
    have single : mergeTrigger (freed (.overrun o) s) (.overrun o) r =
        enterSlot (freed (.overrun o) s) (addTrigger (.overrun o) r) o.slot := rfl
    rw [single, added]
    exact ⟨kind, overrun⟩
  obtain ⟨kind, overrun⟩ := merged (newRecord (freed (.overrun o) s) (.overrun o)) rfl
  unfold settled
  split
  · exact ⟨kind, overrun⟩
  · exact ⟨kind, overrun⟩

/-! ## The overrun (R127) -/

/-- The parallel timer taken and the overrun marked. -/
def overrunMarked (q : SeqId) (s : State) : State := s.modSeq q fun x => { x with parallel := none, overrun := true }

/-- R127: the alternate raised with PROT. -/
def overrunOpened (q : SeqId) (n : Nat) (s : State) : State :=
  awaitReply q n .opn (raiseOpen .prot (.seq q) n (overrunMarked q s))

theorem overrunMarked_set (q : SeqId) (s : State) :
    SeqSet q { s.seq q with parallel := none, overrun := true } s.seqs.claim s (overrunMarked q s) :=
  (SeqSet.refl q s).modSeq fun x => { x with parallel := none, overrun := true }

section
variable (q : SeqId) (n : Nat) (s : State)

theorem Internal.overrunOpened : Internal s (overrunOpened q n s) :=
  ((Internal.modSeq s q _).trans (.raiseOpen .prot (.seq q) n _)).trans (.awaitReply q n .opn _)

theorem overrunOpened_seq : ∃ tag, SeqIs q { s.seq q with
    parallel := none, overrun := true, awaited := some ⟨n, .opn, tag⟩ } s.seqs.claim s (overrunOpened q n s) := by
  have raised := (overrunMarked_set q s).toSeqIs.of_seqs (Quiet.raiseOpen .prot (.seq q) n (overrunMarked q s)).seqs
  have set := awaitReply_set q n .opn (raiseOpen .prot (.seq q) n (overrunMarked q s))
  rw [raised.seq, raised.claim] at set
  exact ⟨_, raised.trans set⟩

theorem NoneOpened.overrunOpened : NoneOpened s (overrunOpened q n s) := by
  have marked : NoneOpened s (overrunMarked q s) := .of_queue (congrArg Rec.queue (State.modSeq_records s q _))
  refine (marked.trans .raiseOpen_prot).trans (.of_queue (congrArg Rec.queue (awaitReply_records q n .opn _)))

/-- R89 to R91: the alternate is opened with PROT, whatever its LOC. -/
theorem overrunOpened_carried (hn : n < s.arb.slots.length) (present : (s.brk n).present = true) (hp : s.pos n ≠ .opn) :
    ∃ o, ((overrunOpened q n s).slot n).order = some o ∧ o.type = .opn ∧ .prot ∈ o.causes ∧ .seq q ∈ o.requesters ∧
      ((overrunOpened q n s).seq q).awaited = some ⟨n, .opn, some o.tag⟩ := by
  have ground := (overrunMarked_set q s).ground
  obtain ⟨o, order, type, cause, requester, reply⟩ := raiseOpen_prot_carried (r := .seq q) (s := overrunMarked q s) (n := n)
    (by rw [ground.arb]; exact hn) (by rw [ground.brk]; exact present) (by rw [ground.pos]; exact hp)
  unfold overrunOpened
  rw [awaitReply_slot, awaitReply_awaited, reply]
  exact ⟨o, order, type, cause, requester, rfl⟩

theorem raiseOverrun_eq {a : Alt} (alt : (s.seq q).alt = some a) : raiseOverrun q s =
    takeTrigger (.overrun ⟨q, altSlot q a, s.intake.count⟩) (overrunOpened q (altSlot q a) s) := by
  have same : raiseOverrun q s = takeTrigger (.overrun ⟨q, inUseSlot s q, (overrunOpened q (inUseSlot s q) s).intake.count⟩)
      (overrunOpened q (inUseSlot s q) s) := rfl
  rw [same, (SeqSet.refl q s).inUseSlot_eq alt, (Internal.overrunOpened q (altSlot q a) s).outside.intake]

end

/-! ## The end of the soft unload (R128) -/

/-- R127, R128: a sequencer's record as PARALLEL_FAST is entered from another state. -/
theorem SeqSet.enterParallelFast {q : SeqId} {a : Alt} {s t : State} {x : Seq} {c : Option SeqId} (h : SeqSet q x c s t)
    (hn : s.arb.slots.length = 25) (alt : x.alt = some a) :
    SeqOpens q (altSlot q a) s (enterParallelFast q t) ∧ UnloadKept s.par (enterParallelFast q t).par ∧ ∃ tag,
      SeqIs q { inState .parallelFast x with
        parallel := some (s.now + (s.scheme q).maxParallel * 1000), awaited := some ⟨altSlot q a, .opn, tag⟩ } c s
        (enterParallelFast q t) := by
  have entered := (h.setSeqState .parallelFast).modSeq fun y =>
    { y with parallel := some (s.now + (s.scheme q).maxParallel * 1000) }
  have run : Machine.enterParallelFast q t = seqOpen q (altSlot q a)
      ((Machine.setSeqState q .parallelFast t).modSeq q fun y =>
        { y with parallel := some (s.now + (s.scheme q).maxParallel * 1000) }) := by
    unfold Machine.enterParallelFast
    rw [h.inUseSlot_eq alt, h.ground.now, h.ground.scheme]
    rfl
  rw [run]
  generalize (Machine.setSeqState q .parallelFast t).modSeq q (fun y =>
    { y with parallel := some (s.now + (s.scheme q).maxParallel * 1000) }) = v at entered
  have slots : altSlot q a < v.arb.slots.length := by
    rw [entered.ground.arb, hn]
    exact altSlot_lt q a
  exact ⟨entered.ground.opens (seqOpen_opens q slots), entered.par ▸ UnloadKept.seqOpen q slots, entered.toSeqIs.seqOpen _⟩

/-- Settles O38: the overrun at the parallel timer, and the end of the soft unload at the soft limit. -/
theorem parallelAndSoftLimits : Obligations.ParallelAndSoftLimits := by
  intro q a t s safe alt
  refine ⟨fun state timer due => ?_, fun state timer due => ?_⟩
  case refine_1 =>
    have expired : parallelDue s q = true := by simp [parallelDue, state, timerDue_iff, timer, due]
    have acts := Internal.overrunOpened q (altSlot q a) s
    have outside := (Internal.raiseOverrun q s).outside
    have beside := BesideArb.takeTrigger (.overrun ⟨q, altSlot q a, s.intake.count⟩) (overrunOpened q (altSlot q a) s)
    obtain ⟨tag, opened⟩ := overrunOpened_seq q (altSlot q a) s
    have made := opened.of_seqs beside.seqs
    refine ⟨_, congrArg Host.Outcome.next (exec_whenDue expired), ?_⟩
    rw [raiseOverrun_eq q s alt] at outside ⊢
    refine ⟨made.other, outside, ?_, ?_, ?_, ?_, fun present hp => ?_, fun past => ?_⟩
    · rw [made.seq]
    · rw [made.seq]
    · rw [made.seq]
      exact state
    · rw [made.seq]
      exact alt
    · rw [beside.slot, State.seq_of_seqs beside.seqs]
      exact overrunOpened_carried q _ s (by rw [safe.slots]; exact altSlot_lt q a) present hp
    · refine takeTrigger_overrun _ (acts.records safe.records) fun r hr => ?_
      rw [acts.outside.now]
      cases hc : r.complete with
      | true => exact .inl rfl
      | false =>
        obtain ⟨r', hr', open_, time⟩ := (NoneOpened.overrunOpened q (altSlot q a) s).open_ r hr hc
        rcases past r' hr' with h | h
        · exact absurd (open_.symm.trans h) nofun
        · exact .inr (time ▸ h)
  case refine_2 =>
    have expired : softDue s q = true := by simp [softDue, state, timerDue_iff, timer, due]
    have ground := SameGround.endUnloadOf q s
    have seqs := (BesideArb.endUnloadOf q s).seqs
    have same := State.seq_of_seqs seqs q
    have set := SeqSet.refl q (endUnloadOf q s)
    obtain ⟨opens, unload, tag, made⟩ := set.enterParallelFast (a := a) (by rw [ground.arb]; exact safe.slots)
      (by rw [same]; exact alt)
    have leaves : ((endUnloadOf q s).seq q).state ≠ .parallelFast := by
      rw [same, state]
      nofun
    refine ⟨_, congrArg Host.Outcome.next (exec_whenDue expired), Eq.trans made.other (State.seq_of_seqs seqs _),
      (Internal.endSoft q s).outside, ?_⟩
    unfold endSoft
    rw [made.seq, inState_of_ne leaves, ground.now, ground.scheme]
    refine ⟨rfl, rfl, rfl, ground.opens opens, fun x hx ho =>
      ⟨unload.unload.trans (endUnloadOf_none hx ho), fun k h1 h8 h => ?_⟩⟩
    have ended := unload.gens (k - 1) h
    rw [endUnloadOf_own hx ho] at ended
    exact endUnload_gens hx h1 h8 ended

end Sys2Proof.Machine
end

section
/-!
SET_MODE and the breaker emulator's moves (O58).
-/

namespace Sys2Proof.Machine

/-! ## The emulated position of a slot (R189, R190) -/

theorem emuOf_eq_some {n : Nat} {e : Emu} {s : State} : s.emuOf n = some e ↔ s.mgmt.emu[n]? = some (some e) := by
  unfold State.emuOf
  rw [List.getD_eq_getElem?_getD]
  cases s.mgmt.emu[n]? <;> simp

theorem emuOf_of_mgmt {s t : State} (h : t.mgmt = s.mgmt) (n : Nat) : t.emuOf n = s.emuOf n := by
  unfold State.emuOf
  rw [h]

theorem modEmu_emuOf {n : Nat} {e : Emu} {s : State} (h : s.emuOf n = some e) (f : Emu → Emu) :
    (modEmu n f s).emuOf n = some (f e) := by
  rw [emuOf_eq_some] at h ⊢
  exact (modAt_getElem? _ _ _).trans (by rw [h]; rfl)

theorem pos_of_loop {n : Nat} {e : Emu} {s : State} (loop : s.mgmt.mode = .loop) (h : s.emuOf n = some e) :
    s.pos n = e.pos := by
  unfold State.pos
  rw [loop, h]

/-! ## An order that leaves service (R87, R189) -/

/-- `t` has the Management Unit of `s` and takes back no message. -/
structure MgmtKept (s t : State) : Prop where
  mgmt : t.mgmt = s.mgmt
  mail : ∀ m ∈ s.mail, m ∈ t.mail

theorem MgmtKept.refl (s : State) : MgmtKept s s := ⟨rfl, fun _ h => h⟩

theorem MgmtKept.trans {s t u : State} (h : MgmtKept s t) (k : MgmtKept t u) : MgmtKept s u :=
  ⟨k.mgmt.trans h.mgmt, fun m hm => k.mail m (h.mail m hm)⟩

theorem ParActs.mgmtKept {s t : State} (h : ParActs s t) (k : BesideArb s t) : MgmtKept s t :=
  ⟨by rw [h.frame], k.mail⟩

theorem MgmtKept.afterService (n : Nat) (o : Order) (t : Told) (s : State) : MgmtKept s (afterService n o t s) := by
  have line : MgmtKept s (releaseLine n s) := by
    unfold releaseLine
    split
    · exact ⟨rfl, fun _ h => h⟩
    · exact .refl s
  have report : ∀ u, MgmtKept u (reportOpenEnd n o.tag t u) := fun u => by
    refine ⟨?_, (BesideArb.reportOpenEnd n o.tag t u).mail⟩
    rw [reportOpenEnd_eq, (testRecords_tested _).frame]
    rfl
  unfold Machine.afterService
  split
  · exact (ParActs.closeEnded _ _ _ _ _).mgmtKept (.closeEnded _ _ _ _ _)
  · split
    · exact line.trans (report _)
    · exact line

/-- R189: an order that leaves service leaves a slot without a pending move as it stands. -/
theorem leaveService_emulated {n : Nat} {p : Pos} {s : State} (t : Told) (h : s.emuOf n = some { pos := p }) :
    (leaveService n t s).emuOf n = some { pos := p } ∧ ∀ m ∈ s.mail, m ∈ (leaveService n t s).mail := by
  unfold leaveService
  split
  case h_1 => exact ⟨h, fun _ hm => hm⟩
  case h_2 o _ =>
    have removed : (removeOrder n o t s).emuOf n = some { pos := p } ∧ ∀ m ∈ s.mail, m ∈ (removeOrder n o t s).mail := by
      unfold removeOrder cancelMove
      have noted := ParActs.note .position
        (if s.mgmt.mode = .loop then modEmu n (fun e => { e with move := none }) (s.modSlot n fun a =>
          { a with order := none, lastResult := some ⟨o.type, o.tag, o.causes, t⟩ })
        else s.modSlot n fun a => { a with order := none, lastResult := some ⟨o.type, o.tag, o.causes, t⟩ })
      have kept := noted.mgmtKept (.note _ _)
      refine ⟨(emuOf_of_mgmt kept.mgmt n).trans ?_, fun m hm => kept.mail m ?_⟩
      · split
        · exact modEmu_emuOf h _
        · exact h
      · split <;> exact hm
    have told := (ParActs.tellAll n o t (removeOrder n o t s)).mgmtKept (.tellAll n o t _)
    have rest := told.trans (MgmtKept.afterService n o t _)
    exact ⟨(emuOf_of_mgmt rest.mgmt n).trans removed.1, fun m hm => rest.mail m (removed.2 m hm)⟩

/-! ## A move that is due (R189) -/

/-- R189, R190: the emulated position of a slot moved and published, before completion is tested. -/
def moved (n : Nat) (t : OrdType) (s : State) : State :=
  let v := modEmu n (fun _ => { pos := orderedPos t, move := none }) s
  if s.pos n = orderedPos t then v else (note .position v).post (.posChanged n (s.pos n) (orderedPos t))

theorem takeMove_eq (n : Nat) (t : OrdType) (s : State) : takeMove n t s = testCompletion n (moved n t s) := rfl

section
variable {n : Nat} {t : OrdType} {e : Emu} {s : State} (loop : s.mgmt.mode = .loop) (he : s.emuOf n = some e)
include loop he

/-- What the move leaves before completion is tested. -/
theorem moved_leaves : (moved n t s).arb = s.arb ∧ (moved n t s).mgmt.mode = .loop ∧
    (moved n t s).emuOf n = some { pos := orderedPos t } ∧
    (e.pos ≠ orderedPos t → .posChanged n e.pos (orderedPos t) ∈ (moved n t s).mail) := by
  have set : (modEmu n (fun _ => { pos := orderedPos t, move := none }) s).emuOf n = some { pos := orderedPos t } :=
    modEmu_emuOf he _
  have kept := (ParActs.note .position (modEmu n (fun _ => { pos := orderedPos t, move := none }) s)).mgmtKept (.note _ _)
  have arb := (BesideArb.note .position (modEmu n (fun _ => { pos := orderedPos t, move := none }) s)).arb
  unfold moved
  dsimp only
  rw [pos_of_loop loop he]
  split
  case isTrue same => exact ⟨rfl, loop, set, fun h => absurd same h⟩
  case isFalse => exact ⟨arb, (congrArg Mgmt.mode kept.mgmt).trans loop, (emuOf_of_mgmt kept.mgmt n).trans set,
      fun _ => List.mem_append_right _ (List.mem_singleton_self _)⟩

end

/-- R96: completion by the emulated position keeps what the move brought. -/
theorem testCompletion_emulated {n : Nat} {t : OrdType} {s : State} (loop : s.mgmt.mode = .loop)
    (h : s.emuOf n = some { pos := orderedPos t }) :
    onlySlot n s (testCompletion n s) ∧ (testCompletion n s).emuOf n = some { pos := orderedPos t } ∧
      ((testCompletion n s).slot n).position = (s.slot n).position ∧ (∀ m ∈ s.mail, m ∈ (testCompletion n s).mail) ∧
      ∀ o, (s.slot n).order = some o → o.phase = .issued → o.type = t → ((testCompletion n s).slot n).order = none ∧
        ((testCompletion n s).slot n).lastResult = some ⟨t, o.tag, o.causes, .done⟩ := by
  have pos : s.pos n = orderedPos t := pos_of_loop loop h
  by_cases due : ∃ o, (s.slot n).order = some o ∧ o.phase = .issued ∧ s.pos n = orderedPos o.type
  · obtain ⟨o, ho, hi, hp⟩ := due
    have left := testCompletion_done (slot_lt_of_order ho) ho hi hp
    have run : testCompletion n s = leaveService n .done s := by
      unfold testCompletion
      rw [ho]
      exact if_pos ⟨hi, hp⟩
    obtain ⟨emu, mail⟩ := leaveService_emulated .done h
    rw [run] at left ⊢
    rw [left.slot]
    refine ⟨left.acts.slots, emu, rfl, mail, fun o' ho' _ ht => ?_⟩
    cases ho.symm.trans ho'
    rw [← ht]
    exact ⟨rfl, rfl⟩
  · rw [testCompletion_none fun o ho hi hp => due ⟨o, ho, hi, hp⟩]
    exact ⟨⟨fun _ _ => rfl, rfl, rfl, rfl⟩, h, rfl, fun _ hm => hm, fun o ho hi ht => absurd ⟨o, ho, hi, ht ▸ pos⟩ due⟩

/-! ## A change of mode (R187 to R191) -/

theorem modeBusy_iff {s : State} : modeBusy s = true ↔
    (∃ n, n < 25 ∧ (s.brk n).present = true ∧ (s.slot n).order ≠ none) ∨ ∃ q, isStable (s.seq q).state = false := by
  have either : (∃ q, isStable (s.seq q).state = false) ↔
      isStable s.seqs.seq1.state = false ∨ isStable s.seqs.seq2.state = false :=
    ⟨fun ⟨q, h⟩ => by cases q <;> [exact .inl h; exact .inr h], fun h => h.elim (fun h => ⟨.seq1, h⟩) fun h => ⟨.seq2, h⟩⟩
  simp only [either, modeBusy, Bool.or_eq_true, List.any_eq_true, mem_allSlots, Bool.and_eq_true, Bool.not_eq_true',
    Option.isSome_iff_ne_none, or_assoc]

/-- R187: the new mode stands, and is noted. -/
theorem setModeField_eq (m : Mode) (s : State) : ∃ r, setModeField m s =
    { s with mgmt := { s.mgmt with mode := m }, records := r } := note_eq .sequencer _

/-- R187, R191: the state in which a mode is entered, LOOP left before. -/
def modeLeft (m : Mode) (s : State) : State :=
  if s.mgmt.mode = .loop then leaveLoop (setModeField m s) else setModeField m s

theorem changeMode_live (s : State) : changeMode .live s = modeLeft .live s := rfl

theorem changeMode_blocked (s : State) : changeMode .blocked s = enterBlocked (modeLeft .blocked s) := rfl

theorem changeMode_loop (s : State) : changeMode .loop s = enterLoop (modeLeft .loop s) := rfl

theorem modeLeft_internal (m : Mode) (s : State) :
    Internal (s.modMgmt fun x => { x with mode := m }) (modeLeft m s) :=
  (Internal.note _ _).trans (.ite (.leaveLoop _) (.refl _))

theorem SameOutside.dropLines (s : State) : SameOutside s (dropLines s) :=
  ⟨rfl, rfl, rfl, rfl, rfl, rfl, rfl, rfl, rfl, rfl, rfl, rfl, rfl, .inl rfl⟩

/-- R187 to R191: a change of mode leaves what lies outside the mode, the emulator and the blocks that act in it. -/
theorem changeMode_outside (m : Mode) (s : State) :
    SameOutside (s.modMgmt fun x => { x with mode := m }) (changeMode m s) := by
  have left := (modeLeft_internal m s).outside
  cases m with
  | live => exact left
  | blocked =>
    have parked := (Internal.enterParked .seq1 (modeLeft .blocked s)).trans (.enterParked .seq2 _)
    exact ((left.trans parked.outside).trans (.dropLines _)).trans (finish_outside _)
  | loop =>
    refine left.trans (SameOutside.trans ?_ (.dropLines _))
    exact ⟨rfl, rfl, rfl, rfl, rfl, rfl, rfl, rfl, rfl, rfl, rfl, rfl, rfl, .inl rfl⟩

theorem SameOutside.inService {s t : State} (h : SameOutside s t) : t.inService = s.inService := by
  unfold State.inService
  rcases h.part with e | ⟨e, e'⟩
  · rw [e]
  · rw [e, e']

/-- R188, R189: no line is energized outside LIVE. -/
theorem State.Safe.lineOn {s : State} (h : s.Safe) (hm : s.mgmt.mode ≠ .live) (n : Nat) : (s.slot n).lineOn = none := by
  unfold State.slot
  by_cases hn : n < s.arb.slots.length
  · rw [List.getD_eq_getElem _ _ hn]
    exact h.lines hm _ (List.getElem_mem hn)
  · rw [List.getD_eq_default _ _ (Nat.le_of_not_lt hn)]

/-! ## LOOP is left (R191) -/

/-- R191: the emulated positions dropped and the real ones that differ published. -/
def loopDropped (s : State) : State :=
  allSlots.foldl (publishReal s) (s.modMgmt fun m => { m with emu := List.replicate 25 none })

theorem leaveLoop_eq (s : State) :
    leaveLoop s = finish (deriveUnparked .seq2 (finish (deriveUnparked .seq1 (finish (loopDropped s))))) := rfl

theorem publishReal_acts (old s : State) (n : Nat) : BesideArb s (publishReal old s n) ∧
    (publishReal old s n).par = s.par ∧ (publishReal old s n).mgmt = s.mgmt := by
  have posted : ∀ m, BesideArb s ((note .position s).post m) ∧ ((note .position s).post m).par = s.par ∧
      ((note .position s).post m).mgmt = s.mgmt := fun m =>
    ⟨(BesideArb.note _ _).trans (.post _ _), note_par _ s, ((ParActs.note .position s).mgmtKept (.note _ _)).mgmt⟩
  unfold publishReal
  split
  · split
    · exact posted _
    · exact ⟨.refl s, rfl, rfl⟩
  · exact ⟨.refl s, rfl, rfl⟩

theorem foldl_publishReal_acts (old : State) (l : List Nat) (s : State) : BesideArb s (l.foldl (publishReal old) s) ∧
    (l.foldl (publishReal old) s).par = s.par ∧ (l.foldl (publishReal old) s).mgmt = s.mgmt := by
  induction l generalizing s with
  | nil => exact ⟨.refl s, rfl, rfl⟩
  | cons n l ih =>
    obtain ⟨first, par, mgmt⟩ := publishReal_acts old s n
    obtain ⟨rest, par', mgmt'⟩ := ih (publishReal old s n)
    exact ⟨first.trans rest, par'.trans par, mgmt'.trans mgmt⟩

/-- R191: the real position of each slot that differs is published. -/
theorem mem_foldl_publishReal {old : State} {n : Nat} {e : Emu} (he : old.emuOf n = some e)
    (present : (old.brk n).present = true) (hne : e.pos ≠ (old.slot n).position) {l : List Nat} (hn : n ∈ l) (s : State) :
    .posChanged n e.pos (old.slot n).position ∈ (l.foldl (publishReal old) s).mail := by
  induction l generalizing s with
  | nil => cases hn
  | cons k l ih =>
    rcases List.mem_cons.1 hn with rfl | hn
    · refine (foldl_publishReal_acts old l _).1.mail _ ?_
      unfold publishReal
      rw [he]
      dsimp only
      rw [if_pos ⟨present, hne⟩]
      exact List.mem_append_right _ (List.mem_singleton_self _)
    · exact ih hn _

theorem emuOf_replicate {s : State} (h : s.mgmt.emu = List.replicate 25 none) (n : Nat) : s.emuOf n = none := by
  unfold State.emuOf
  rw [h, List.getD_eq_getElem?_getD, List.getElem?_replicate]
  split <;> rfl

/-- R189: on entry to LOOP a present slot's emulated position is its real one. -/
theorem enterLoop_emuOf {n : Nat} {s : State} (hn : n < 25) (present : (s.brk n).present = true) :
    (enterLoop s).emuOf n = some { pos := (s.slot n).position } := by
  rw [emuOf_eq_some]
  unfold enterLoop dropLines
  simp only [State.modArb, State.modMgmt, List.getElem?_map, List.getElem?_range hn, Option.map_some, present, ↓reduceIte]

theorem dropLines_position (n : Nat) (s : State) : ((dropLines s).slot n).position = (s.slot n).position := by
  unfold State.slot dropLines
  simp only [State.modArb, List.getD_eq_getElem?_getD, List.getElem?_map]
  cases s.arb.slots[n]? <;> rfl

theorem dropLines_seq (q : SeqId) (s : State) : (dropLines s).seq q = s.seq q := rfl

/-! ## SET_MODE, mode by mode -/

section
variable {m : Mode} {s : State}

/-- R188, R189: BLOCKED and LOOP are entered with every line out. -/
theorem changeMode_lineOn (safe : s.Safe) (hm : m ≠ .live) (n : Nat) : ((changeMode m s).slot n).lineOn = none :=
  (Keeps.changeMode m s safe).lineOn (by rw [(changeMode_outside m s).mode]; exact hm) n

/-- R189: LOOP begins with the emulated positions equal to the real ones. -/
theorem changeMode_emuOf {n : Nat} (hn : n < 25) (present : (s.brk n).present = true) :
    (changeMode .loop s).emuOf n = some { pos := ((changeMode .loop s).slot n).position } := by
  have image := (modeLeft_internal .loop s).outside.image
  have row : ((modeLeft .loop s).brk n).present = true := by
    rw [brk_of_image image]
    exact present
  rw [changeMode_loop, enterLoop_emuOf hn row]
  exact congrArg (fun p => some ({ pos := p } : Emu)) (dropLines_position n _).symm

/-- R188: BLOCKED parks both sequencers, with no pending park. -/
theorem changeMode_parks : ∃ v, changeMode .blocked s = finish v ∧
    ∀ q, (v.seq q).state = .parked ∧ (v.seq q).pendingPark = false := by
  rw [changeMode_blocked]
  generalize modeLeft .blocked s = w
  refine ⟨_, rfl, fun q => ?_⟩
  rw [dropLines_seq]
  cases q with
  | seq1 =>
    have kept : (enterParked .seq2 (enterParked .seq1 w)).seq .seq1 = (enterParked .seq1 w).seq .seq1 :=
      (SeqActs.enterParked .seq2 _).other
    rw [kept]
    exact enterParked_seq .seq1 w
  | seq2 => exact enterParked_seq .seq2 _

theorem modeLeft_plain (hm : s.mgmt.mode ≠ .loop) : modeLeft m s = setModeField m s := if_neg hm

/-- R187, R189: LIVE is left for LOOP without an act of a sequencer or the Paralleling Unit. -/
theorem changeMode_live_loop (hs : s.mgmt.mode = .live) :
    (changeMode .loop s).seqs = s.seqs ∧ (changeMode .loop s).par = s.par := by
  obtain ⟨r, e⟩ := setModeField_eq .loop s
  rw [changeMode_loop, modeLeft_plain (by rw [hs]; nofun), e]
  exact ⟨rfl, rfl⟩

/-- R187: BLOCKED is left for LIVE without an act of any block. -/
theorem changeMode_blocked_live (hs : s.mgmt.mode = .blocked) : (changeMode .live s).seqs = s.seqs ∧
    (changeMode .live s).par = s.par ∧ (changeMode .live s).arb = s.arb ∧ (changeMode .live s).link = s.link := by
  obtain ⟨r, e⟩ := setModeField_eq .live s
  rw [changeMode_live, modeLeft_plain (by rw [hs]; nofun), e]
  exact ⟨rfl, rfl, rfl, rfl⟩

/-- R191: as LOOP is left, the emulated positions are dropped and each real one that differs is published. -/
theorem loopDropped_leaves (m : Mode) (s : State) :
    let v := loopDropped (setModeField m s)
    v.mgmt.mode = m ∧ (∀ n, v.emuOf n = none) ∧ v.seqs = s.seqs ∧ v.par = s.par ∧ v.arb = s.arb ∧ v.link = s.link ∧
      ∀ n e, n < 25 → (s.brk n).present = true → s.emuOf n = some e → e.pos ≠ (s.slot n).position →
        .posChanged n e.pos (s.slot n).position ∈ v.mail := by
  obtain ⟨r, e⟩ := setModeField_eq m s
  obtain ⟨beside, par, mgmt⟩ := foldl_publishReal_acts (setModeField m s) allSlots
    ((setModeField m s).modMgmt fun x => { x with emu := List.replicate 25 none })
  refine ⟨?_, fun n => emuOf_replicate ?_ n, ?_, ?_, ?_, ?_, fun n x hn present hx hne => ?_⟩
  · exact (congrArg Mgmt.mode mgmt).trans (by rw [e]; rfl)
  · exact congrArg Mgmt.emu mgmt
  · exact beside.seqs.trans (by rw [e]; rfl)
  · exact par.trans (by rw [e]; rfl)
  · exact beside.arb.trans (by rw [e]; rfl)
  · exact beside.link.trans (by rw [e]; rfl)
  · have slot : (setModeField m s).slot n = s.slot n := by rw [e]; rfl
    have published := mem_foldl_publishReal (old := setModeField m s) (n := n) (e := x) (by rw [e]; exact hx)
      (by rw [e]; exact present) (by rw [slot]; exact hne) (mem_allSlots.2 hn)
      ((setModeField m s).modMgmt fun x => { x with emu := List.replicate 25 none })
    rw [slot] at published
    exact published

end

theorem actSetMode_eq {r : Request} {m : Mode} (args : r.args = .mode (some m)) (s : State) :
    actSetMode r s = setMode r m s := by
  unfold actSetMode
  rw [args]

/-- R115, R138: on leaving LOOP a sequencer that is not PARKED derives. -/
theorem deriveUnparked_derives (q : SeqId) (w : State) : ((w.seq q).state = .parked → deriveUnparked q w = w) ∧
    ((w.seq q).state ≠ .parked → Derived q w (deriveUnparked q w) ∧ onlySeq q w (deriveUnparked q w)) := by
  refine ⟨fun h => if_pos h, fun h => ?_⟩
  obtain ⟨derived, x, c, set⟩ := derive_set q w
  rw [show deriveUnparked q w = derive q w from if_neg h]
  exact ⟨derived, set.other⟩

/-- Settles O58: SET_MODE by the modes it leaves and enters, and the moves of the breaker emulator. -/
theorem modesAndEmulatedMoves : Obligations.ModesAndEmulatedMoves := by
  refine ⟨fun r rest m s safe taken args => ?_, deriveUnparked_derives, fun n due t e s safe loop he hmove => ?_⟩
  case refine_1 =>
    intro s' busy
    have busy_iff : modeBusy s' = true ↔ busy := modeBusy_iff (s := s')
    have runs : ∀ u, setMode r m s' = u → exec .setMode s = .next (settleQueue u) := fun u h =>
      congrArg Host.Outcome.next ((takeKind_taken taken actSetMode).trans
        (congrArg settleQueue ((actSetMode_eq args s').trans h)))
    refine ⟨fun same => runs _ (if_pos same), fun other h => runs _ ((if_neg other).trans (if_pos (busy_iff.2 h))),
      fun other h => ⟨changeMode m s', runs _ ((if_neg other).trans (if_neg (mt busy_iff.1 h))), ?_⟩⟩
    have outside := changeMode_outside m s'
    have service : s.inService = true := by
      have now := taken.state
      rw [inService_iff]
      cases hp : s.mgmt.part with
      | service starting => exact ⟨starting, rfl⟩
      | loading | unconfigured => rw [hp] at now; exact absurd now nofun
      | config fromService => rw [hp] at now; cases fromService <;> exact absurd now nofun
    have safe' : s'.Safe := { safe with
      requests := by
        have shorter := safe.requests
        rw [taken.head] at shorter
        exact Nat.le_of_succ_le shorter }
    refine ⟨outside.mode, changeMode_lineOn safe', fun hm n hn present => ?_, fun hm => ?_, fun live hm => ?_,
      fun blocked hm => ?_, fun hl => ?_, outside.inService.trans service, outside.nv, outside.intake⟩
    · subst hm
      exact changeMode_emuOf hn present
    · subst hm
      exact changeMode_parks
    · subst hm
      exact changeMode_live_loop live
    · have hm' : m = .live := by
        cases m with
        | live => rfl
        | blocked => exact absurd blocked other
        | loop => exact absurd rfl hm
      subst hm'
      exact changeMode_blocked_live blocked
    · have left : modeLeft m s' = leaveLoop (setModeField m s') := if_pos hl
      refine ⟨loopDropped (setModeField m s'), ⟨fun hm => ?_, fun hm => ?_⟩, loopDropped_leaves m s'⟩
      · subst hm
        exact (changeMode_live s').trans (left.trans (leaveLoop_eq _))
      · subst hm
        exact (changeMode_blocked s').trans (congrArg enterBlocked (left.trans (leaveLoop_eq _)))
  case refine_2 =>
    have held := emuOf_eq_some.2 he
    have moves : ∀ x, moveDue s n = some x ↔ x = t ∧ due ≤ s.now := fun x => by
      rw [moveDue_eq_some]
      constructor
      · rintro ⟨-, e', due', he', hmove', hd⟩
        cases held.symm.trans he'
        cases hmove.symm.trans hmove'
        exact ⟨rfl, hd⟩
      · rintro ⟨rfl, hd⟩
        exact ⟨loop, e, due, held, hmove, hd⟩
    refine ⟨fun hd => ?_, fun early => ?_⟩
    · have run : moveIfDue n s = finish (takeMove n t s) := by
        unfold moveIfDue
        rw [(moves t).2 ⟨rfl, hd⟩]
      obtain ⟨arb, mode, emu, posted⟩ := moved_leaves (t := t) loop held
      have completed := testCompletion_emulated mode emu
      rw [← takeMove_eq] at completed
      obtain ⟨only, emu', position, mail, done⟩ := completed
      have slot := State.slot_of_arb arb
      obtain ⟨others, bus1, bus2, gbus⟩ := only
      refine ⟨takeMove n t s, congrArg Host.Outcome.next run, ?_, (Internal.takeMove n t s).outside, emu', ?_,
        fun h => mail _ (posted h), fun o ho => done o ((slot n).symm ▸ ho)⟩
      · exact ⟨fun m hm => (others m hm).trans (slot m), bus1.trans (congrArg Arb.bus1 arb),
          bus2.trans (congrArg Arb.bus2 arb), gbus.trans (congrArg Arb.gbus arb)⟩
      · exact position.trans (congrArg ArbSlot.position (slot n))
    · have idle : moveDue s n = none := by
        cases h : moveDue s n with
        | none => rfl
        | some x => exact absurd ((moves x).1 h).2 (Nat.not_le.2 early)
      have run : moveIfDue n s = s := by
        unfold moveIfDue
        rw [idle]
      exact congrArg Host.Outcome.next run

end Sys2Proof.Machine
end


section
/-!
The closes on a live GBUS (O46), refuted: the statement has them leave the dead-bus grant as it was, and nothing in its
hypotheses keeps the grant from being held by an eligible generator. A close of that generator that the ladder refuses
releases the grant (R148). An update on a live GBUS releases the grant before it comes to these closes, but the statement
asks it of every safe state.
-/

namespace Sys2Proof.Machine

/-- A part in SERVICE on a live GBUS, the demand RAISED: G1, READY with its breaker OPEN in local control, holds the
dead-bus grant. No channel is in use and no request waits. -/
def grantOnLiveBus : State :=
  { arb := { slots := List.replicate 5 {} ++ { position := .opn, localCtl := true } :: List.replicate 19 {} }
    meas := { volt := List.replicate 4 {} ++ { declared := .healthy } :: { declared := .healthy } :: List.replicate 7 {} }
    par := { gens := { state := .ready } :: List.replicate 7 {}
             demand := true, grant := some ⟨1, .par, true⟩ }
    mgmt := { part := .service false
              image := some ⟨{ breakers := List.replicate 5 {} ++ { present := true } :: List.replicate 19 {}
                               gens := { present := true } :: List.replicate 7 {} }, .a⟩ } }

theorem grantOnLiveBus_safe : grantOnLiveBus.Safe where
  port1 := ⟨Nat.zero_le _, Nat.zero_le _, Nat.zero_le _⟩
  port2 := ⟨Nat.zero_le _, Nat.zero_le _, Nat.zero_le _⟩
  dup := Nat.zero_le _
  requests := Nat.zero_le _
  records := Nat.zero_le _
  biases := fun g hg => by
    rcases List.mem_cons.1 hg with rfl | hg
    · exact ⟨by decide, by decide⟩
    · rw [List.eq_of_mem_replicate hg]
      exact ⟨by decide, by decide⟩
  lines := fun h => absurd rfl h
  slots := rfl
  gens := rfl
  channels := rfl
  views := rfl
  streams := rfl
  elements := rfl

theorem grantOnLiveBus_placeless (n : Nat) :
    channelOf grantOnLiveBus n = none ∧ ∀ e ∈ grantOnLiveBus.par.queue, e.slot ≠ n :=
  ⟨rfl, fun _ h => nomatch h⟩

/-- The close of G1 meets the local control of its breaker, and the refusal releases the grant. -/
theorem grantOnLiveBus_releases : eligible grantOnLiveBus 1 = true ∧ closeLadder grantOnLiveBus (genSlot 1) = .refused .loc ∧
    grantOnLiveBus.par.grant = some ⟨1, .par, true⟩ ∧ (closeLive grantOnLiveBus).par.grant = none := by decide

/-- Refutes O46: on a live GBUS the refused close of the generator that holds the grant takes the grant with it. -/
theorem not_closesAndCapacity : ¬ Obligations.ClosesAndCapacity := by
  rintro ⟨-, -, -, -, onLive, -⟩
  obtain ⟨-, raised⟩ := onLive grantOnLiveBus grantOnLiveBus_safe fun k _ _ _ => grantOnLiveBus_placeless (genSlot k)
  obtain ⟨-, -, kept, -⟩ := raised ⟨rfl, rfl, nofun, rfl⟩
  obtain ⟨-, -, held, released⟩ := grantOnLiveBus_releases
  rw [released, held] at kept
  exact nomatch kept

end Sys2Proof.Machine
end


section
/-!
Acts on one generator and on the order of its breaker (O44, O50): what they leave of the Paralleling Unit and of the other
generators, one by one and over a list of generators.
-/

namespace Sys2Proof.Machine

/-! ## The present generators (R139) -/

theorem mem_presentGens {s : State} {k : Nat} : k ∈ presentGens s ↔ (1 ≤ k ∧ k ≤ 8) ∧ (s.genRow k).present = true := by
  rw [presentGens, List.mem_filter, mem_allGens]

theorem presentGens_nodup (s : State) : (presentGens s).Nodup := List.Nodup.filter _ (by decide)

theorem presentGens_of_image {s t : State} (h : t.mgmt.image = s.mgmt.image) : presentGens t = presentGens s := by
  unfold presentGens State.genRow State.tbl
  rw [h]

/-! ## The Paralleling Unit beside an order (R148, R151, R153) -/

/-- R151: a generator as it was, or one that was READY and has entered CLOSING. -/
def AsWas (g g' : Gen) : Prop := g' = g ∨ g.state = .ready ∧ g' = { g with state := .closing }

theorem AsWas.refl (g : Gen) : AsWas g g := .inl rfl

theorem AsWas.trans {g g' g'' : Gen} (h : AsWas g g') (k : AsWas g' g'') : AsWas g g'' := by
  rcases h with rfl | ⟨ready, rfl⟩
  · exact k
  · rcases k with rfl | ⟨again, _⟩
    · exact .inr ⟨ready, rfl⟩
    · exact nomatch again

theorem AsWas.eq {g g' : Gen} (h : AsWas g g') (hr : g.state ≠ .ready) : g' = g :=
  h.resolve_right fun k => hr k.1

/-- `p'` is `p` but for the grant, the channels and the queue, and for READY generators that have entered CLOSING. -/
structure ParKept (p p' : Par) : Prop where
  frame : p' = { p with gens := p'.gens, channels := p'.channels, queue := p'.queue, grant := p'.grant }
  gens : ∀ i, AsWas (p.gens.getD i {}) (p'.gens.getD i {})

theorem ParKept.refl (p : Par) : ParKept p p := ⟨rfl, fun _ => .refl _⟩

theorem ParKept.of_eq {p p' : Par} (h : p' = p) : ParKept p p' := h ▸ .refl p

theorem ParKept.trans {p p' p'' : Par} (h : ParKept p p') (k : ParKept p' p'') : ParKept p p'' :=
  ⟨by rw [k.frame, h.frame], fun i => (h.gens i).trans (k.gens i)⟩

theorem ParKept.note {p : Par} {s : State} (h : ParKept p s.par) (c : NoticeClass) : ParKept p (note c s).par :=
  note_par c s ▸ h

theorem ParKept.modPar (s : State) {f : Par → Par} (gens : (f s.par).gens = s.par.gens)
    (frame : f s.par = { s.par with
      gens := (f s.par).gens, channels := (f s.par).channels, queue := (f s.par).queue, grant := (f s.par).grant }) :
    ParKept s.par (s.modPar f).par := by
  refine ⟨frame, fun i => ?_⟩
  rw [State.modPar_par, gens]
  exact .refl _

theorem ParKept.readyToClosing (k : Nat) (s : State) : ParKept s.par (readyToClosing k s).par := by
  unfold Machine.readyToClosing setGenState
  split
  case isFalse => exact .refl _
  case isTrue ready =>
    split
    · exact .refl _
    refine ParKept.note ?_ _
    unfold State.modGen
    split
    · exact .refl _
    refine ⟨rfl, fun i => ?_⟩
    rw [State.modPar_par]
    by_cases hi : i = k - 1
    · subst hi
      have inside : k - 1 < s.par.gens.length := by
        by_contra out
        rw [State.gen, List.getD_eq_default _ _ (Nat.le_of_not_lt out)] at ready
        exact nomatch ready
      rw [modAt_getD_same _ _ _ _ inside]
      exact .inr ⟨ready, rfl⟩
    · rw [modAt_getD_other _ _ _ _ _ hi]
      exact .refl _

theorem ParKept.assignChannel (i : Nat) (r : SyncReq) (s : State) : ParKept s.par (assignChannel i r s).par := by
  refine ((ParKept.modPar s (f := fun p => { p with channels := modAt p.channels i fun _ => some (channelFor r) })
    rfl rfl).trans ?_).note _
  unfold channelTaken
  split
  · exact .readyToClosing _ _
  · exact .refl _

theorem ParKept.dropPlace (n : Nat) (s : State) : ParKept s.par (dropPlace n s).par := by
  unfold Machine.dropPlace
  split
  case h_1 i _ =>
    refine ((ParKept.modPar s (f := fun p => { p with channels := modAt p.channels i fun _ => none }) rfl rfl).note
      .generator).trans ?_
    unfold refillChannel
    split
    · exact .refl _
    · rename_i r rest _
      exact (ParKept.modPar _ (f := fun p => { p with queue := rest }) rfl rfl).trans (.assignChannel _ _ _)
  case h_2 =>
    split
    · exact .modPar s rfl rfl
    · exact .refl _

theorem ParKept.closeEnded (n : Nat) (r : Requester) (held : Bool) (t : Told) (s : State) :
    ParKept s.par (closeEnded n r held t s).par := by
  rw [closeEnded_par]
  have dropped := ParKept.dropPlace n s
  split
  · exact dropped.trans ⟨rfl, fun _ => .refl _⟩
  · exact dropped

theorem startWithdraw_par (n tag : Nat) (c : Source) (s : State) : (startWithdraw n tag c s).par = s.par := by
  rw [startWithdraw_after (Internal.refl s) rfl]
  rfl

/-- R91, R95: a close that ends gives up its place and its grant. -/
theorem ParKept.endClose (n : Nat) (t : Told) (s : State) : ParKept s.par (endClose n t s).par := by
  unfold Machine.endClose
  split
  case h_2 => exact .refl _
  case h_1 o ho =>
    split
    case h_1 => exact .refl _
    case h_2 ht =>
      have par : (tellAll n o t (removeOrder n o t s)).par = s.par := (tellAll_par _ _ _ _).trans (removeOrder_par _ _ _ _)
      have left : ParKept s.par (leaveService n t s).par := by
        rw [leaveService_close t ho ht]
        exact (ParKept.of_eq par).trans (.closeEnded _ _ _ _ _)
      dsimp only
      split
      · exact left.trans (.of_eq (startWithdraw_par _ _ _ _))
      · exact left

theorem ParKept.withdrawOwn (n : Nat) (r : Requester) (s : State) : ParKept s.par (withdrawOwn n r s).par := by
  unfold Machine.withdrawOwn
  split
  · split
    · exact .endClose _ _ _
    · exact .refl _
  · exact .refl _

theorem sendOrder_par (n : Nat) (s : State) : (sendOrder n s).par = s.par := by
  unfold sendOrder
  split
  · rw [sendFrame_after (Internal.refl s) rfl]
  · rfl

theorem issue_par (n : Nat) (s : State) : (issue n s).par = s.par := by
  unfold issue
  split
  · rfl
  · rename_i o _
    obtain ⟨m, moved⟩ := setMove_frame n o.type
      (s.modSlot n fun a => { a with order := some { o with phase := .issued, issueTime := some s.now, nextRepeat := s.now + ms 10 } })
    rw [sendOrder_par, moved]
    rfl

theorem joinOpen_par (n : Nat) (o : Order) (r : Requester) (s : State) : (joinOpen n o .schO r s).par = s.par := by
  unfold joinOpen
  dsimp only
  rw [apply_ite State.par]
  exact ite_self _

/-- R89 to R91: an SCH-O moves no generator but by the close it preempts. -/
theorem ParKept.raiseOpen (r : Requester) (n : Nat) (s : State) : ParKept s.par (raiseOpen .schO r n s).1.par := by
  have scheduled : Source.schO ≠ .oprO ∧ Source.schO ≠ .oprC := ⟨nofun, nofun⟩
  have put : ∀ u, (putOpen n .schO r u).par = u.par := fun u => (issue_par n _).trans (putOrder_par n .opn .schO r u)
  cases present : (s.brk n).present with
  | false => rw [raiseOpen_of_absent present]; exact .refl _
  | true =>
    cases loc : (s.slot n).localCtl with
    | true => rw [raiseOpen_of_local present loc]; exact .refl _
    | false =>
      rw [raiseOpen_passed scheduled present (by simp [loc])]
      split
      · split
        · exact .of_eq (joinOpen_par _ _ _ _)
        · exact (ParKept.endClose n .preempted s).trans (.of_eq (put _))
      · split
        · exact .refl _
        · exact .of_eq (put s)

/-! ## Acts on the generators of a list -/

/-- `t` comes from `s` by internal acts that leave the sequencers as they are, of the Paralleling Unit what `ParKept` keeps, and
of the generators beside those of `l` every one as it was. -/
structure GenActs (l : List Nat) (s t : State) : Prop where
  internal : Internal s t
  seqs : t.seqs = s.seqs
  frame : t.par = { s.par with gens := t.par.gens, channels := t.par.channels, queue := t.par.queue, grant := t.par.grant }
  others : ∀ j, 1 ≤ j → j ∉ l → AsWas (s.gen j) (t.gen j)

theorem GenActs.refl (l : List Nat) (s : State) : GenActs l s s := ⟨.refl s, rfl, rfl, fun _ _ _ => .refl _⟩

theorem GenActs.trans {l : List Nat} {s t u : State} (h : GenActs l s t) (k : GenActs l t u) : GenActs l s u :=
  ⟨h.internal.trans k.internal, k.seqs.trans h.seqs, by rw [k.frame, h.frame],
    fun j h1 hj => (h.others j h1 hj).trans (k.others j h1 hj)⟩

theorem GenActs.mono {l m : List Nat} {s t : State} (h : GenActs l s t) (sub : l ⊆ m) : GenActs m s t :=
  { h with others := fun j h1 hj => h.others j h1 fun hm => hj (sub hm) }

theorem GenActs.ite {l : List Nat} {s t u : State} {c : Prop} [Decidable c] (ht : GenActs l s t) (hu : GenActs l s u) :
    GenActs l s (if c then t else u) := by
  split
  · exact ht
  · exact hu

theorem GenActs.demand {l : List Nat} {s t : State} (h : GenActs l s t) : t.par.demand = s.par.demand := by rw [h.frame]

/-- Acts on orders are acts on no generator. -/
theorem ParKept.genActs {s t : State} (h : ParKept s.par t.par) (internal : Internal s t) (seqs : t.seqs = s.seqs)
    (l : List Nat) : GenActs l s t :=
  ⟨internal, seqs, h.frame, fun j _ _ => h.gens (j - 1)⟩

theorem GenActs.foldl {f : State → Nat → State} (hf : ∀ s k, GenActs [k] s (f s k)) (l : List Nat) (s : State) :
    GenActs l s (l.foldl f s) := by
  induction l generalizing s with
  | nil => exact .refl [] s
  | cons k l ih => exact ((hf s k).mono (by simp)).trans ((ih _).mono (by simp))

/-- A fold of acts on one generator each, seen from one of its generators: what its own act finds is as it was, and what that
act makes stays so. -/
theorem GenActs.foldl_at {f : State → Nat → State} (hf : ∀ s k, GenActs [k] s (f s k)) {l : List Nat} (nd : l.Nodup)
    {k : Nat} (h1 : 1 ≤ k) (hk : k ∈ l) (s : State) : ∃ (a : List Nat) (u : State), GenActs a s u ∧
      AsWas (s.gen k) (u.gen k) ∧ AsWas ((f u k).gen k) ((l.foldl f s).gen k) := by
  obtain ⟨a, b, rfl⟩ := List.append_of_mem hk
  have before : k ∉ a := fun h => (List.nodup_append.1 nd).2.2 k h k (by simp) rfl
  have after : k ∉ b := (List.nodup_cons.1 (List.nodup_append.1 nd).2.1).1
  have acts := GenActs.foldl hf a s
  refine ⟨a, _, acts, acts.others k h1 before, ?_⟩
  rw [List.foldl_append, List.foldl_cons]
  exact (GenActs.foldl hf b _).others k h1 after

/-! ## Acts on one generator -/

theorem GenActs.note {l : List Nat} {s t : State} (h : GenActs l s t) (c : NoticeClass) : GenActs l s (note c t) :=
  h.trans ((ParKept.of_eq (note_par c t)).genActs (.note c t) (BesideArb.note c t).seqs l)

theorem GenActs.post (l : List Nat) (s : State) (m : Msg) : GenActs l s (s.post m) :=
  ⟨.post s m, rfl, rfl, fun _ _ _ => .refl _⟩

theorem GenActs.modGen (s : State) (k : Nat) (f : Gen → Gen)
    (hf : ∀ g, (f g).bias = g.bias ∨ (f g).bias = 0 := by intro g; simp) : GenActs [k] s (s.modGen k f) := by
  obtain ⟨g, e⟩ := modGen_par s k f
  refine ⟨.modGen s k f hf, State.modGen_seqs _ _ _, by rw [e], fun j h1 hj => .inl ?_⟩
  exact State.modGen_gen_other s k j f h1 fun e => hj (e ▸ List.mem_singleton_self _)

theorem GenActs.setGenState (k : Nat) (st : GenState) (s : State) : GenActs [k] s (setGenState k st s) :=
  .ite (.refl _ s) ((GenActs.modGen s k _).note _)

theorem GenActs.zeroBias (k : Nat) (s : State) : GenActs [k] s (zeroBias k s) := .modGen s k _

theorem GenActs.clearAwaited (k : Nat) (s : State) : GenActs [k] s (clearAwaited k s) := .modGen s k _

theorem GenActs.startIfDemanded (k : Nat) (s : State) : GenActs [k] s (startIfDemanded k s) :=
  .ite ((GenActs.setGenState k .starting s).trans (.ite (.setGenState k .ready _) (.refl _ _))) (.refl _ s)

theorem GenActs.enterOff (k : Nat) (s : State) : GenActs [k] s (enterOff k s) :=
  ((GenActs.setGenState k .off s).trans (.zeroBias k _)).trans (.startIfDemanded k _)

theorem GenActs.endClose (l : List Nat) (n : Nat) (t : Told) (s : State) : GenActs l s (endClose n t s) :=
  (ParKept.endClose n t s).genActs (.endClose n t s) (Quiet.endClose n t s).seqs l

theorem GenActs.withdrawGenClose (k : Nat) (s : State) : GenActs [k] s (withdrawGenClose k s) :=
  ((ParKept.withdrawOwn _ _ s).genActs (.withdrawOwn _ _ s) (Quiet.withdrawOwn _ _ s).seqs [k]).trans (.clearAwaited k _)

theorem GenActs.raiseGenOpen (k : Nat) (s : State) : GenActs [k] s (raiseGenOpen k s) := by
  have raised := (ParKept.raiseOpen .par (genSlot k) s).genActs (.raiseOpen _ _ _ s) (Quiet.raiseOpen _ _ _ s).seqs [k]
  have ended : ∀ u told, GenActs [k] u (parAtOnce k .opn told u) := fun u told =>
    (GenActs.modGen u k fun g => { g with awaited := some ⟨genSlot k, .opn, none⟩ }).trans
      (.post [k] _ _)
  unfold Machine.raiseGenOpen
  split
  · rename_i e; rw [e] at raised; exact raised.trans (.modGen _ _ _)
  · rename_i e; rw [e] at raised; exact raised.trans (ended _ _)
  · rename_i e; rw [e] at raised; exact raised.trans (ended _ _)

theorem GenActs.enterFailed (k : Nat) (c : FailCause) (s : State) : GenActs [k] s (enterFailed k c s) := by
  by_cases hs : (s.gen k).state = .failed
  · rw [show Machine.enterFailed k c s = s from if_pos hs]
    exact .refl _ s
  · have dropped : GenActs [k] s (closeDropped k c s) :=
      ((((GenActs.modGen s k _).trans (.setGenState k .failed _)).trans (.zeroBias k _)).trans
        (.endClose [k] (genSlot k) .withdrawn _)).trans (.clearAwaited k _)
    rw [enterFailed_eq hs]
    exact dropped.trans (.ite (.refl _ _) (.raiseGenOpen k _))

end Sys2Proof.Machine
end


section
/-!
The stop timer (O44): the demand is dropped, and every generator on its way to the bus goes to OFF.
-/

namespace Sys2Proof.Machine

theorem GenActs.demandDropped (k : Nat) (s : State) : GenActs [k] s (demandDropped k s) := by
  unfold Machine.demandDropped
  split
  · exact .enterOff k s
  · exact .enterOff k s
  · exact (GenActs.withdrawGenClose k s).trans (.enterOff k _)
  · exact .refl _ s

/-- R144: what the demand's drop makes of a generator. -/
theorem demandDropped_gen {k : Nat} {s : State} (h1 : 1 ≤ k) (hk : k ≤ s.par.gens.length) (hd : s.par.demand = false) :
    ((s.gen k).state = .starting ∨ (s.gen k).state = .ready ∨ (s.gen k).state = .closing →
      ((demandDropped k s).gen k).state = .off ∧ ((demandDropped k s).gen k).bias = 0 ∧
        ((demandDropped k s).gen k).filter = 0) ∧
    ((s.gen k).state ≠ .starting → (s.gen k).state ≠ .ready → (s.gen k).state ≠ .closing → demandDropped k s = s) := by
  have off := fun {u : State} (hu : k ≤ u.par.gens.length) (hd : u.par.demand = false) => enterOff_gen h1 hu hd
  unfold demandDropped
  split
  case h_1 => rw [off hk hd]; simp_all
  case h_2 => rw [off hk hd]; simp_all
  case h_3 =>
    have acts := GenActs.withdrawGenClose k s
    rw [off (acts.internal.gens ▸ hk) (acts.demand.trans hd)]
    simp_all
  case h_4 => simp_all

/-- R146: the stop timer has expired, and no generator has moved yet. -/
def demandGone (s : State) : State :=
  note .generator (s.modPar fun p => { p with demand := false, stopTimer := none, stopPending := true })

theorem demandGone_par (s : State) :
    (demandGone s).par = { s.par with demand := false, stopTimer := none, stopPending := true } := by
  unfold demandGone
  rw [note_par]
  rfl

theorem demandGone_internal (s : State) : Internal s (demandGone s) := (Internal.modPar s _).trans (.note _ _)

/-- Settles O44: every present generator meets the drop of the demand as the expiry found it, but for a READY one that a
freed channel has moved to CLOSING; and one in OFF stays there. -/
theorem stopTimerDropsDemand : Obligations.StopTimerDropsDemand := by
  intro t s safe timer
  have due : timerDue s s.par.stopTimer = true ↔ t ≤ s.now := by simp [timerDue, timer]
  refine ⟨fun expired => ?_, fun early => ?_⟩
  case refine_2 => exact congrArg Host.Outcome.next (if_neg fun h => absurd (due.1 h) (Nat.not_le.2 early))
  have par := demandGone_par s
  have gone := demandGone_internal s
  have seqs : (demandGone s).seqs = s.seqs := (Calm.modPar s _).trans (Quiet.note _ _).toCalm |>.seqs
  have gen : ∀ k, (demandGone s).gen k = s.gen k := fun k => by
    unfold State.gen
    rw [par]
  have present := presentGens_of_image gone.outside.image
  have acts := GenActs.foldl (fun u j => .demandDropped j u) (presentGens (demandGone s)) (demandGone s)
  refine ⟨stopExpired s, congrArg Host.Outcome.next (exec_whenDue (due.2 expired)), acts.demand.trans (by rw [par]), ?_, ?_,
    acts.seqs.trans seqs, (gone.trans acts.internal).outside, fun k h1 h8 hp => ?_⟩
  · exact (congrArg Par.stopTimer acts.frame).trans (by rw [par])
  · exact (congrArg Par.stopPending acts.frame).trans (by rw [par])
  · have hk : k ∈ presentGens (demandGone s) := present ▸ mem_presentGens.2 ⟨⟨h1, h8⟩, hp⟩
    obtain ⟨a, u, before, found, made⟩ := GenActs.foldl_at (fun u j => .demandDropped j u) (presentGens_nodup _) h1 hk (demandGone s)
    obtain ⟨drops, stays⟩ := demandDropped_gen (s := u) h1 (before.internal.gens.trans (gone.gens.trans safe.gens) ▸ h8)
      (before.demand.trans (by rw [par]))
    rw [gen] at found
    refine ⟨fun moving => ?_, fun hs hr hc => ?_⟩
    · have there : (u.gen k).state = .starting ∨ (u.gen k).state = .ready ∨ (u.gen k).state = .closing := by
        rcases found with e | ⟨_, e⟩
        · rwa [e]
        · rw [e]; exact .inr (.inr rfl)
      obtain ⟨off, bias, filter⟩ := drops there
      have same : (stopExpired s).gen k = _ := made.eq (by rw [off]; nofun)
      rw [same]
      exact ⟨off, bias, filter⟩
    · have same := found.eq hr
      rw [stays (same ▸ hs) (same ▸ hr) (same ▸ hc), same] at made
      have kept : (stopExpired s).gen k = _ := made.eq hr
      rw [kept]
      exact ⟨rfl, rfl⟩

end Sys2Proof.Machine
end


section
/-!
Notices, the removal of a record, and CLEAR (O50): the class that is sent, the queue after a removal, and each subset of CLEAR
by what it changes.
-/

namespace Sys2Proof.Machine

/-! ## NOTICE_SEND (R169) -/

theorem mem_noticeOrder (c : NoticeClass) : c ∈ noticeOrder := by cases c <;> decide

theorem noticeOrder_sorted : noticeOrder.Pairwise fun x y => noticeCode x < noticeCode y := by decide

/-- R169: the highest class of the pending set is the one of the lowest code. -/
theorem highestNotice_of_lowest {c : NoticeClass} {s : State} (mem : c ∈ s.records.pendingNotices)
    (lowest : ∀ d ∈ s.records.pendingNotices, noticeCode c ≤ noticeCode d) : highestNotice s = some c := by
  obtain ⟨before, after, order⟩ := List.append_of_mem (mem_noticeOrder c)
  have sorted := order ▸ noticeOrder_sorted
  refine List.find?_eq_some_iff_append.2 ⟨decide_eq_true mem, before, after, order, fun d hd => ?_⟩
  have above : noticeCode d < noticeCode c := (List.pairwise_append.1 sorted).2.2 d hd c (by simp)
  simpa using fun pending => absurd (lowest d pending) (Nat.not_le.2 above)

theorem sendNotice_due {c : NoticeClass} {s : State} (due : noticeDue s = true) (highest : highestNotice s = some c) :
    sendNotice s = originate (s.site.noticeDest.getD 65535) (.notice c (snapshot s c)) (s.modRecords fun r =>
      { r with pendingNotices := r.pendingNotices.filter fun x => decide (x ≠ c), lastSend := some s.now }) := by
  unfold sendNotice
  rw [due, highest]

theorem sendNotice_early {s : State} (early : noticeDue s = false) : sendNotice s = s := by
  unfold sendNotice
  rw [early]

/-! ## The removal of records (R167) -/

theorem exec_discardRecord {r : Request} {rest : List Request} {m : Nat} {s : State} (taken : Taken .discardRecord r rest s)
    (args : r.args = .recordNo m) :
    exec .discardRecord s = .next (settleQueue (removeRecord r m (setRequests rest s))) := by
  refine congrArg Host.Outcome.next ((takeKind_taken taken _).trans (congrArg settleQueue ?_))
  unfold actDiscardRecord
  rw [args]

theorem removeRecord_named {r : Request} {x : Record} {m : Nat} {s : State} (oldest : oldestComplete s = some x)
    (named : x.number = m) : removeRecord r m s = answerDone r (discardRecord m s) := by
  unfold removeRecord
  rw [oldest]
  exact if_pos named

theorem removeRecord_other {r : Request} {m : Nat} {s : State} (other : ∀ x, oldestComplete s = some x → x.number ≠ m) :
    removeRecord r m s = refuse r .badRow s := by
  unfold removeRecord
  split
  · rename_i x oldest
    exact if_neg (other x oldest)
  · rfl

theorem discardRecord_frame (m : Nat) (s : State) : discardRecord m s = { s with records := (discardRecord m s).records } :=
  (recordEvent_noted m .discarded _).frame

theorem discardRecord_records (m : Nat) (s : State) :
    (discardRecord m s).records.queue = s.records.queue.eraseP (fun y => y.complete) ∧
      (discardRecord m s).records.lastEvent = some (m, .discarded) := by
  unfold discardRecord
  rw [(recordEvent_noted m .discarded _).records]
  exact ⟨rfl, rfl⟩

/-- R167: CLEAR leaves the OPEN records. -/
theorem clearRecords_eq (s : State) : ∃ r, clearRecords s = { s with records := r } ∧
    r.queue = s.records.queue.filter fun y => !y.complete := by
  unfold clearRecords
  split
  case h_1 x _ =>
    have noted := recordEvent_noted x.number .cleared
      (s.modRecords fun y => { y with queue := y.queue.filter fun z => !z.complete })
    exact ⟨_, noted.frame, congrArg Rec.queue noted.records⟩
  case h_2 none_ =>
    refine ⟨s.records, rfl, (List.filter_eq_self.2 fun y hy => ?_).symm⟩
    have open_ := List.filter_eq_nil_iff.1 (List.getLast?_eq_none_iff.1 none_) y hy
    simpa using open_

/-! ## The subsets TARGETS and DIVERGENCE (R30, R72) -/

theorem clearTargets_eq (s : State) : ∃ r, r.queue = s.records.queue ∧ clearTargets s = { s with
    prot := { s.prot with
      targetsA := keepIndicated s s.prot.targetsA, targetsB := keepIndicated s s.prot.targetsB }, records := r } := by
  unfold clearTargets
  dsimp only
  split
  case isTrue same =>
    refine ⟨s.records, rfl, ?_⟩
    rw [same.1, same.2]
  case isFalse =>
    have noted := note_onRecords .protection (s.modProt fun p => { p with
      targetsA := keepIndicated s s.prot.targetsA, targetsB := keepIndicated s s.prot.targetsB })
    refine ⟨_, ?_, noted.frame⟩
    rw [note_records]
    rfl

theorem keepIndicated_getD {s : State} {i : Nat} (clear : (s.prot.operated.getD i none).isNone = true)
    (l : List (Option Target)) : (keepIndicated s l).getD i none = none := by
  have off : (s.prot.operated.getD i none).isSome = false := by rwa [Option.isSome_eq_false_iff]
  unfold keepIndicated
  rw [List.getD_eq_getElem?_getD, List.getElem?_mapIdx, off]
  cases l[i]? <;> rfl

theorem phaseRec_of_intake {s t : State} (h : t.intake = s.intake) (pt : PointId) (ph : Phase) :
    phaseRec t pt ph = phaseRec s pt ph := by
  unfold phaseRec
  rw [h]

theorem phaseRec_clearAllDivergence (s : State) (pt : PointId) (ph : Phase) :
    phaseRec (clearAllDivergence s) pt ph = clearDivergence (phaseRec s pt ph) := by
  have each : ∀ x : Four PhaseRec, (mapFour clearDivergence x).get ph = clearDivergence (x.get ph) := fun x => by
    cases ph <;> rfl
  have mapped : ∀ (l : List (Four PhaseRec)) (n : Nat), ((l.map (mapFour clearDivergence)).getD n ⟨{}, {}, {}, {}⟩).get ph =
      clearDivergence ((l.getD n ⟨{}, {}, {}, {}⟩).get ph) := fun l n =>
    (congrArg (fun x : Four PhaseRec => x.get ph) (List.getD_map l ⟨{}, {}, {}, {}⟩ (mapFour clearDivergence))).trans
      (each _)
  cases pt with
  | cur n => exact mapped s.intake.cur n
  | volt n => exact mapped s.intake.volt n

/-- R30, R72: `w` is `s` once the subsets TARGETS and DIVERGENCE have been cleared where they are named. -/
structure FrontCleared (t d : Bool) (s w : State) : Prop where
  frame : w = { s with prot := w.prot, intake := w.intake, records := w.records }
  queue : w.records.queue = s.records.queue
  prot : t = false → w.prot = s.prot
  intake : d = false → w.intake = s.intake
  targets : t = true → ∀ i, (s.prot.operated.getD i none).isNone = true →
    w.prot.targetsA.getD i none = none ∧ w.prot.targetsB.getD i none = none
  divergence : d = true → ∀ pt ph, phaseRec w pt ph = clearDivergence (phaseRec s pt ph)

/-- The subsets of CLEAR that come before the generators. -/
def clearFront (t d : Bool) (s : State) : State :=
  let s := if t then clearTargets s else s
  if d then clearAllDivergence s else s

theorem clearFront_cleared (t d : Bool) (s : State) : FrontCleared t d s (clearFront t d s) := by
  have targets : FrontCleared t false s (if t then clearTargets s else s) := by
    cases t with
    | false => exact ⟨rfl, rfl, fun _ => rfl, fun _ => rfl, nofun, nofun⟩
    | true =>
      obtain ⟨r, queue, e⟩ := clearTargets_eq s
      rw [if_pos rfl, e]
      exact ⟨rfl, queue, nofun, fun _ => rfl, fun _ i clear => ⟨keepIndicated_getD clear _, keepIndicated_getD clear _⟩, nofun⟩
  unfold clearFront
  dsimp only
  generalize (if t then clearTargets s else s) = v at targets
  cases d with
  | false => exact targets
  | true =>
    have same := phaseRec_of_intake (targets.intake rfl)
    refine ⟨?_, targets.queue, targets.prot, nofun, targets.targets, fun _ pt ph => ?_⟩
    · rw [if_pos rfl, clearAllDivergence, targets.frame]
      rfl
    · rw [if_pos rfl, phaseRec_clearAllDivergence, same]

/-! ## The subset GENERATORS (R144) -/

/-- R144: the FAILED generator Gk in OFF, its fail cause gone. -/
def failureCleared (k : Nat) (s : State) : State :=
  zeroBias k (setGenState k .off (s.modGen k fun g => { g with cause := none }))

theorem GenActs.failureCleared (k : Nat) (s : State) : GenActs [k] s (failureCleared k s) :=
  ((GenActs.modGen s k _).trans (.setGenState k .off _)).trans (.zeroBias k _)

theorem clearFailed_failed {k : Nat} {s : State} (failed : (s.gen k).state = .failed) : clearFailed k s =
    if ((failureCleared k s).gen k).fault then enterFailed k .controller (failureCleared k s)
    else if ((failureCleared k s).gen k).lost then enterFailed k .statusLost (failureCleared k s)
    else startIfDemanded k (failureCleared k s) := if_pos failed

theorem clearFailed_other {k : Nat} {s : State} (other : (s.gen k).state ≠ .failed) : clearFailed k s = s := if_neg other

theorem GenActs.clearFailed (k : Nat) (s : State) : GenActs [k] s (clearFailed k s) := by
  by_cases failed : (s.gen k).state = .failed
  · rw [clearFailed_failed failed]
    exact (GenActs.failureCleared k s).trans (.ite (.enterFailed _ _ _) (.ite (.enterFailed _ _ _) (.startIfDemanded _ _)))
  · rw [clearFailed_other failed]
    exact .refl _ s

/-- R144: the state in which a start demand leaves an OFF generator without a controller fault. -/
def startedState (demand : Bool) (g : Gen) : GenState :=
  if demand = true ∧ g.manualMode = false then (if g.running = true ∧ g.ready = true then .ready else .starting) else .off

section
variable {k : Nat} {s : State} (h1 : 1 ≤ k) (hk : k ≤ s.par.gens.length)
include h1 hk

theorem startIfDemanded_gen (off : (s.gen k).state = .off) (sound : (s.gen k).fault = false) :
    (startIfDemanded k s).gen k = { s.gen k with state := startedState s.par.demand (s.gen k) } := by
  have starting := setGenState_gen h1 hk .starting
  have ready := setGenState_gen (s := setGenState k .starting s) h1 ((Internal.setGenState k .starting s).gens ▸ hk) .ready
  by_cases raised : s.par.demand = true ∧ (s.gen k).manualMode = false
  · have begun : startIfDemanded k s = if (s.gen k).running = true ∧ (s.gen k).ready = true then
        setGenState k .ready (setGenState k .starting s) else setGenState k .starting s :=
      if_pos ⟨raised.1, off, raised.2, sound⟩
    rw [begun, startedState, if_pos raised]
    split
    · rw [ready, starting]
    · exact starting
  · have stays : startIfDemanded k s = s := if_neg fun h => raised ⟨h.1, h.2.2.1⟩
    rw [stays, startedState, if_neg raised, ← off]

theorem failureCleared_gen : (failureCleared k s).gen k =
    { s.gen k with cause := none, state := .off, filter := 0, bias := 0 } := by
  have noted := State.modGen_gen_same s k (fun g => { g with cause := none }) h1 hk
  have size := modGen_size s k fun g => { g with cause := none }
  unfold failureCleared
  generalize (s.modGen k fun g => { g with cause := none }) = u at noted size
  rw [zeroBias_gen h1 ((Internal.setGenState k .off u).gens.trans size ▸ hk), setGenState_gen h1 (size ▸ hk), noted]

/-- R144: what CLEAR makes of a FAILED generator, by its last status. -/
theorem clearFailed_gen (failed : (s.gen k).state = .failed) :
    let g := s.gen k
    let b := (clearFailed k s).gen k
    (b.bias = 0 ∧ b.filter = 0) ∧ (g.fault = true → b.state = .failed ∧ b.cause = some .controller) ∧
      (g.fault = false → g.lost = true → b.state = .failed ∧ b.cause = some .statusLost) ∧
      (g.fault = false → g.lost = false → b.cause = none ∧ b.state = startedState s.par.demand g) := by
  dsimp only
  have acts := GenActs.failureCleared k s
  have gen := failureCleared_gen h1 hk
  have hk' := acts.internal.gens ▸ hk
  have fails := fun c => enterFailed_gen (s := failureCleared k s) h1 hk' c (by rw [gen]; nofun)
  rw [clearFailed_failed failed]
  cases fault : (s.gen k).fault with
  | true =>
    obtain ⟨w, e, _⟩ := fails .controller
    rw [if_pos (by rw [gen]; exact fault), e]
    exact ⟨⟨rfl, rfl⟩, fun _ => ⟨rfl, rfl⟩, nofun, nofun⟩
  | false =>
    rw [if_neg (by rw [gen]; simp [fault])]
    cases lost : (s.gen k).lost with
    | true =>
      obtain ⟨w, e, _⟩ := fails .statusLost
      rw [if_pos (by rw [gen]; exact lost), e]
      exact ⟨⟨rfl, rfl⟩, nofun, fun _ _ => ⟨rfl, rfl⟩, fun _ => nofun⟩
    | false =>
      have started := startIfDemanded_gen (s := failureCleared k s) h1 hk' (by rw [gen]) (by rw [gen]; exact fault)
      rw [if_neg (by rw [gen]; simp [lost]), started, gen, acts.demand]
      exact ⟨⟨rfl, rfl⟩, nofun, fun _ => nofun, fun _ _ => ⟨rfl, rfl⟩⟩

end

/-- R144: the generators as CLEAR has taken each of them, before the messages are delivered. -/
def failuresCleared (s : State) : State := (presentGens s).foldl (fun s k => clearFailed k s) s

/-- R144: every present generator meets its CLEAR as it was, and is as it leaves it, but for one that is READY and is assigned
a channel that another gives up. -/
theorem failuresCleared_gen {k : Nat} {s : State} (h1 : 1 ≤ k) (h8 : k ≤ 8) (eight : s.par.gens.length = 8)
    (present : (s.genRow k).present = true) :
    let a := s.gen k
    let b := (failuresCleared s).gen k
    (a.state ≠ .failed → AsWas a b) ∧ (a.state = .failed → b.bias = 0 ∧ b.filter = 0) ∧
      (a.state = .failed → a.fault = true → b.state = .failed ∧ b.cause = some .controller) ∧
      (a.state = .failed → a.fault = false → a.lost = true → b.state = .failed ∧ b.cause = some .statusLost) ∧
      (a.state = .failed → a.fault = false → a.lost = false → b.cause = none ∧
        (b.state = startedState s.par.demand a ∨ startedState s.par.demand a = .ready ∧ b.state = .closing)) := by
  obtain ⟨l, u, before, found, made⟩ := GenActs.foldl_at (fun v j => .clearFailed j v) (presentGens_nodup s) h1
    (mem_presentGens.2 ⟨⟨h1, h8⟩, present⟩) s
  rw [show (presentGens s).foldl (fun s k => clearFailed k s) s = failuresCleared s from rfl] at made
  have cleared := clearFailed_gen (s := u) h1 (before.internal.gens.trans eight ▸ h8)
  dsimp only at cleared ⊢
  by_cases failed : (s.gen k).state = .failed
  · have same := found.eq (by rw [failed]; nofun)
    rw [same, before.demand] at cleared
    obtain ⟨⟨bias, filter⟩, fault, lost, sound⟩ := cleared failed
    generalize (failuresCleared s).gen k = b at made
    generalize (clearFailed k u).gen k = c at made bias filter fault lost sound
    have moved : (b.bias = c.bias ∧ b.filter = c.filter ∧ b.cause = c.cause) ∧
        (b.state = c.state ∨ c.state = .ready ∧ b.state = .closing) := by
      rcases made with rfl | ⟨ready, rfl⟩
      · exact ⟨⟨rfl, rfl, rfl⟩, .inl rfl⟩
      · exact ⟨⟨rfl, rfl, rfl⟩, .inr ⟨ready, rfl⟩⟩
    obtain ⟨⟨sameBias, sameFilter, sameCause⟩, state⟩ := moved
    have stays : c.state = .failed → b.state = .failed := fun h =>
      state.elim (·.trans h) fun r => absurd (r.1.symm.trans h) nofun
    refine ⟨fun h => absurd failed h, fun _ => ⟨sameBias.trans bias, sameFilter.trans filter⟩, fun _ hf => ?_,
      fun _ hf hl => ?_, fun _ hf hl => ?_⟩
    · exact ⟨stays (fault hf).1, sameCause.trans (fault hf).2⟩
    · exact ⟨stays (lost hf hl).1, sameCause.trans (lost hf hl).2⟩
    · rw [← (sound hf hl).2]
      exact ⟨sameCause.trans (sound hf hl).1, state⟩
  · have other : (u.gen k).state ≠ .failed := by
      rcases found with e | ⟨_, e⟩
      · rwa [e]
      · rw [e]; nofun
    rw [clearFailed_other other] at made
    exact ⟨fun _ => found.trans made, fun h => absurd h failed, fun h => absurd h failed, fun h => absurd h failed,
      fun h => absurd h failed⟩

/-! ## The statement -/

theorem exec_clear {r : Request} {rest : List Request} {t d g x : Bool} {s : State} (taken : Taken .clear r rest s)
    (args : r.args = .clear t d g x) :
    exec .clear s = .next (settleQueue (answerDone r (clearSubsets t d g x (setRequests rest s)))) := by
  refine congrArg Host.Outcome.next ((takeKind_taken taken _).trans (congrArg settleQueue ?_))
  unfold actClear
  rw [args]

/-- R144: a generator that is as it was is in its state, or in CLOSING where that was READY, with its fail cause. -/
theorem AsWas.enters {g g' : Gen} (h : AsWas g g') :
    (g'.state = g.state ∨ g.state = .ready ∧ g'.state = .closing) ∧ g'.cause = g.cause := by
  rcases h with rfl | ⟨ready, rfl⟩
  · exact ⟨.inl rfl, rfl⟩
  · exact ⟨.inr ⟨ready, rfl⟩, rfl⟩

/-- R167: CLEAR with or without the subset RECORDS. -/
theorem recordsCleared (x : Bool) (y : State) : ∃ r, (if x then clearRecords y else y) = { y with records := r } ∧
    (x = true → r.queue = y.records.queue.filter fun z => !z.complete) := by
  cases x with
  | false => exact ⟨y.records, rfl, nofun⟩
  | true =>
    obtain ⟨r, e, queue⟩ := clearRecords_eq y
    exact ⟨r, (if_pos rfl).trans e, fun _ => queue⟩

/-- Settles O50: the highest class is sent, the oldest COMPLETE record is removed, and each subset of CLEAR is cleared by its
own act. -/
theorem noticesAndRecords : Obligations.NoticesAndRecords := by
  refine ⟨fun c s site mem lowest => ⟨fun apart => ?_, fun t last early => ?_⟩,
    fun r rest m s taken args => ?_, fun r rest t d g x s safe taken args => ?_⟩
  · have due := noticeDue_iff.2 ⟨⟨c, mem⟩, apart⟩
    exact ⟨_, congrArg Host.Outcome.next ((if_pos site).trans (sendNotice_due due (highestNotice_of_lowest mem lowest))),
      rfl, rfl⟩
  · have early' : noticeDue s = false := Bool.eq_false_iff.2 fun due =>
      absurd ((noticeDue_iff.1 due).2 t last) (Nat.not_le.2 early)
    exact congrArg Host.Outcome.next ((if_pos site).trans (sendNotice_early early'))
  · intro s'
    have run := exec_discardRecord taken args
    refine ⟨fun x oldest named => ?_, fun other => ?_⟩
    · obtain ⟨queue, event⟩ := discardRecord_records m s'
      rw [removeRecord_named (s := s') oldest named] at run
      exact ⟨_, run, discardRecord_frame m s', queue, event⟩
    · rw [removeRecord_other (s := s') other] at run
      exact run
  · have run := exec_clear taken args
    have front := clearFront_cleared t d (setRequests rest s)
    have parts : clearSubsets t d g x (setRequests rest s) =
        let y := if g then clearGenerators (clearFront t d (setRequests rest s)) else clearFront t d (setRequests rest s)
        if x then clearRecords y else y := rfl
    generalize clearFront t d (setRequests rest s) = w at front parts
    dsimp only at parts
    have outside : SameOutside w (if g then clearGenerators w else w) :=
      (Internal.ite (.clearGenerators w) (.refl w)).outside
    obtain ⟨rec, e, cleared⟩ := recordsCleared x (if g then clearGenerators w else w)
    have kept := parts.trans e
    have prot := (congrArg State.prot kept).trans outside.prot
    have intake := (congrArg State.intake kept).trans outside.intake
    have par : w.par = s.par := by rw [front.frame]; rfl
    have row : ∀ k, w.genRow k = s.genRow k := fun k => by rw [front.frame]; rfl
    refine ⟨_, run, fun hg => ?_, fun ht => prot.trans (front.prot ht), fun hd => intake.trans (front.intake hd), ?_, ?_,
      fun ht i _ clear => by rw [prot]; exact front.targets ht i clear, fun hd pt ph => ?_, fun hx z hz => ?_,
      fun hx hg => ?_, fun hg => ?_⟩
    · subst hg
      rw [kept, if_neg nofun, front.frame]
    · exact (congrArg State.meas kept).trans (outside.meas.trans (by rw [front.frame]; rfl))
    · exact (congrArg State.nv kept).trans (outside.nv.trans (by rw [front.frame]; rfl))
    · rw [phaseRec_of_intake intake, front.divergence hd]
      exact ⟨rfl, rfl, rfl⟩
    · rw [kept] at hz
      have hz' : z ∈ rec.queue := hz
      rw [cleared hx] at hz'
      simpa using (List.mem_filter.1 hz').2
    · subst hg
      rw [kept]
      exact (cleared hx).trans (by rw [if_neg nofun, front.queue]; rfl)
    · subst hg
      refine ⟨failuresCleared w, parts, (GenActs.foldl (fun v j => .clearFailed j v) _ w).seqs.trans (by rw [front.frame]; rfl),
        fun k h1 h8 present => ?_⟩
      obtain ⟨others, bias, fault, lost, sound⟩ :=
        failuresCleared_gen (s := w) (k := k) h1 h8 (par ▸ safe.gens) (by rw [row]; exact present)
      rw [gen_of_par par, par] at *
      exact ⟨fun h => (others h).enters, bias, fault, lost, sound⟩

end Sys2Proof.Machine
end


section
/-!
Load sharing and the soft unload (O47): the trim of a channel, the filter and bias of each generator at a sharing update, the
GENCMD frames, and the beginning and end of a soft unload.
-/

namespace Sys2Proof.Machine

/-! ## Sums and limits -/

theorem limitTrim_eq (x : Int) : limitTrim x = max (-10) (min 10 (x.tdiv 20)) := clampInt_eq _ (by decide)

theorem limitBias_eq (x : Int) : limitBias x = max (-1000) (min 1000 x) := clampInt_eq _ (by decide)

/-- A sum formed along a list, from any start. -/
theorem foldl_add_eq_sum {α M : Type} [AddCommMonoid M] (f : α → M) (l : List α) (a : M) :
    l.foldl (fun acc x => acc + f x) a = a + (l.map f).sum := by
  induction l generalizing a with
  | nil => simp
  | cons x xs ih => rw [List.foldl_cons, ih, List.map_cons, List.sum_cons, add_assoc]

/-! ## The trim of a channel (R154) -/

section
variable {s : State} {c : Channel} {k : Nat}

theorem trimOf_none (h : c.fired = true ∨ c.pair = none) : trimOf s c k = 0 := by
  unfold trimOf
  split
  case h_1 fired pair => simp_all
  case h_2 => rfl

theorem trimOf_matching {angle slip : Int} (fired : c.fired = false) (pair : c.pair = some (angle, slip)) : trimOf s c k =
    if c.slot = genSlot k then
      if (s.gen k).state = .online ∨ (s.gen k).state = .ready ∨ (s.gen k).state = .closing then limitTrim (100 - slip) else 0
    else if (s.gen k).state ≠ .online then 0
    else if c.slot = 0 then if s.pos 3 = .closed then limitTrim (slip - 100) else 0
    else if c.slot = 1 then if s.pos 4 = .closed then limitTrim (slip - 100) else 0
    else if c.slot = 2 then
      if s.pos 4 = .closed ∧ ¬s.pos 3 = .closed then limitTrim (slip - 100)
      else if s.pos 3 = .closed ∧ ¬s.pos 4 = .closed then limitTrim (-slip - 100)
      else 0
    else 0 := by
  unfold trimOf
  rw [fired, pair]
  simp

end

/-! The channel's slot says which trim it gives: the generator's own, one section's GM, the tie between the sections, or none. -/

section
variable {s : State} {c : Channel} {k : Nat} {angle slip : Int} (fired : c.fired = false) (pair : c.pair = some (angle, slip))
include fired pair

theorem trimOf_own (h : c.slot = genSlot k) : trimOf s c k =
    if (s.gen k).state = .online ∨ (s.gen k).state = .ready ∨ (s.gen k).state = .closing then limitTrim (100 - slip) else 0 := by
  rw [trimOf_matching fired pair, if_pos h]

theorem trimOf_offBus (h : c.slot ≠ genSlot k) (off : (s.gen k).state ≠ .online) : trimOf s c k = 0 := by
  rw [trimOf_matching fired pair, if_neg h, if_pos off]

theorem trimOf_gm1 (h : c.slot = 0) :
    trimOf s c k = if (s.gen k).state = .online ∧ s.pos 3 = .closed then limitTrim (slip - 100) else 0 := by
  rw [trimOf_matching fired pair, if_neg (by unfold genSlot; omega), if_pos h]
  simp only [ite_not, ite_and]

theorem trimOf_gm2 (h : c.slot = 1) :
    trimOf s c k = if (s.gen k).state = .online ∧ s.pos 4 = .closed then limitTrim (slip - 100) else 0 := by
  rw [trimOf_matching fired pair, if_neg (by unfold genSlot; omega), if_neg (show ¬c.slot = 0 by omega), if_pos h]
  simp only [ite_not, ite_and]

theorem trimOf_tie (h : c.slot = 2) : trimOf s c k = if (s.gen k).state ≠ .online then 0
    else if s.pos 4 = .closed ∧ ¬s.pos 3 = .closed then limitTrim (slip - 100)
    else if s.pos 3 = .closed ∧ ¬s.pos 4 = .closed then limitTrim (-slip - 100)
    else 0 := by
  rw [trimOf_matching fired pair, if_neg (by unfold genSlot; omega), if_neg (show ¬c.slot = 0 by omega),
    if_neg (show ¬c.slot = 1 by omega), if_pos h]

theorem trimOf_elsewhere (far : 3 ≤ c.slot) (h : c.slot ≠ genSlot k) : trimOf s c k = 0 := by
  rw [trimOf_matching fired pair, if_neg h, if_neg (show ¬c.slot = 0 by omega), if_neg (show ¬c.slot = 1 by omega),
    if_neg (show ¬c.slot = 2 by omega), ite_self]

end

/-- R154: what a channel gives Gk, nothing where it is not in use. -/
def channelTrim (s : State) (k : Nat) (c : Option Channel) : Int :=
  match c with
  | some c => trimOf s c k
  | none => 0

theorem trimSum_eq (s : State) (k : Nat) :
    trimSum s k = max (-10) (min 10 ((s.par.channels.map (channelTrim s k)).sum)) := by
  have summed : s.par.channels.foldl (fun acc c =>
      match c with
      | some c => acc + trimOf s c k
      | none => acc) 0 = (s.par.channels.map (channelTrim s k)).sum := by
    rw [← zero_add (List.sum _), ← foldl_add_eq_sum]
    refine List.foldl_ext _ _ _ fun acc c _ => ?_
    cases c with
    | some c => rfl
    | none => exact (add_zero acc).symm
  rw [← summed]
  exact clampInt_eq _ (by decide)

theorem sumOver_eq (l : List Nat) (f : Nat → Int) : sumOver l f = (l.map f).sum :=
  (foldl_add_eq_sum f l 0).trans (zero_add _)

/-! ## The sharing set (R155) -/

theorem mem_onlineAuto {s : State} {k : Nat} : k ∈ onlineAuto s ↔
    1 ≤ k ∧ k ≤ 8 ∧ (s.genRow k).present = true ∧ (s.gen k).state = .online ∧ (s.gen k).manualMode = false := by
  simp [onlineAuto, mem_presentGens, and_assoc]

theorem onlineAuto_nodup (s : State) : (onlineAuto s).Nodup := (presentGens_nodup s).filter _

theorem mem_sharingSet {s : State} {k : Nat} : k ∈ sharingSet s ↔ 1 ≤ k ∧ k ≤ 8 ∧ (s.genRow k).present = true ∧
    if s.par.unload.isSome then (s.gen k).state = .unloading
    else (s.gen k).state = .online ∧ (s.gen k).manualMode = false := by
  unfold sharingSet
  split
  · simp [mem_presentGens, and_assoc]
  · exact mem_onlineAuto

theorem sharingSet_nodup (s : State) : (sharingSet s).Nodup := by
  unfold sharingSet
  split
  · exact (presentGens_nodup s).filter _
  · exact onlineAuto_nodup s

/-! ## Load sharing (R155) -/

/-- R155: the set is not empty and the P of every member is known. -/
def sharingAble (s : State) : Bool := !(sharingSet s).isEmpty && (sharingSet s).all fun k => (genPower s k).isSome

/-- R155, R157: the P that the set shares. -/
def sharingTotal (s : State) : Int :=
  match s.par.unload with
  | some x => x.ttot
  | none => ((sharingSet s).map fun k => (genPower s k).getD 0).sum

/-- R155: the ratings of the set. -/
def sharingRatings (s : State) : Int := ((sharingSet s).map fun k => ((s.genRow k).rating : Int)).sum

theorem sharingAble_iff {s : State} :
    sharingAble s = true ↔ sharingSet s ≠ [] ∧ ∀ k ∈ sharingSet s, genPower s k ≠ none := by
  simp [sharingAble, Option.isSome_iff_ne_none]

theorem shareLoad_frame (s : State) : shareLoad s = { s with par := { s.par with gens := (shareLoad s).par.gens } } := rfl

theorem shareLoad_size (s : State) : (shareLoad s).par.gens.length = s.par.gens.length := (Internal.shareLoad s).gens

section
variable {s : State} {k : Nat} (h1 : 1 ≤ k) (hk : k ≤ s.par.gens.length)
include h1 hk

theorem shareLoad_gen : (shareLoad s).gen k =
    if (s.genRow k).present = false then s.gen k
    else if sharingAble s = true ∧ k ∈ sharingSet s then
      let r := shareStep s.tbl.par.gain s.tbl.par.stepLimit (s.genRow k).rating
        ((sharingTotal s * (s.genRow k).rating).tdiv (sharingRatings s)) ((genPower s k).getD 0) (s.gen k).filter (s.gen k).bias
        (trimSum s k)
      { s.gen k with filter := r.1, bias := r.2 }
    else { s.gen k with bias := limitBias ((s.gen k).bias + trimSum s k) } := by
  have entry : s.par.gens[k - 1]? = some (s.gen k) := by
    rw [State.gen, List.getD_eq_getElem?_getD, List.getElem?_eq_getElem (by omega)]
    rfl
  unfold shareLoad
  rw [State.gen, State.modPar_par]
  simp only [List.getD_eq_getElem?_getD, List.getElem?_mapIdx, entry, Option.map_some, Option.getD_some,
    Nat.sub_add_cancel h1, sumOver_eq]
  rfl

theorem shareLoad_absent (absent : (s.genRow k).present = false) : (shareLoad s).gen k = s.gen k := by
  rw [shareLoad_gen h1 hk, if_pos absent]

section
variable (present : (s.genRow k).present = true)
include present

theorem shareLoad_trimmed (unshared : ¬(sharingAble s = true ∧ k ∈ sharingSet s)) : (shareLoad s).gen k =
    { s.gen k with bias := limitBias ((s.gen k).bias + trimSum s k) } := by
  rw [shareLoad_gen h1 hk, if_neg (by rw [present]; nofun), if_neg unshared]

theorem shareLoad_shared (able : sharingAble s = true) (mem : k ∈ sharingSet s) : (shareLoad s).gen k =
    let rating := ((s.genRow k).rating : Int)
    let error := (sharingTotal s * rating).tdiv (sharingRatings s) - (genPower s k).getD 0
    let filter := (s.gen k).filter + (error - (s.gen k).filter).tdiv 4
    let limit := (s.tbl.par.stepLimit : Int)
    let step := max (-limit) (min limit ((filter * (s.tbl.par.gain : Int)).tdiv rating))
    { s.gen k with filter := filter, bias := limitBias ((s.gen k).bias + step + trimSum s k) } := by
  rw [shareLoad_gen h1 hk, if_neg (by rw [present]; nofun), if_pos ⟨able, mem⟩]
  unfold shareStep
  simp only [clampInt_eq _ (show -(s.tbl.par.stepLimit : Int) ≤ s.tbl.par.stepLimit by omega)]

end

end

/-! ## The GENCMD frames (R142) -/

theorem startRequest_iff {s : State} {k : Nat} : startRequest s k = true ↔
    (s.gen k).manualMode = false ∧ (s.gen k).state ≠ .failed ∧ (s.gen k).state ≠ .manual ∧
      (s.par.demand = true ∨ (s.gen k).state = .closing ∨ (s.gen k).state = .online ∨ (s.gen k).state = .unloading) := by
  simp [startRequest, and_assoc, or_assoc]

theorem sentBias_eq (g : Gen) :
    sentBias g = if g.state = .off ∨ g.state = .failed ∨ g.state = .manual then 0 else g.bias := by
  unfold sentBias
  cases g.state <;> rfl

theorem modGen_frame (s : State) (k : Nat) (f : Gen → Gen) :
    ∃ g, s.modGen k f = { s with par := { s.par with gens := g } } := by
  unfold State.modGen
  split <;> exact ⟨_, rfl⟩

/-- R142: the GENCMD frame of Gk as `s` has it leaves after `w`. -/
def gencmdAfter (s w : State) (k : Nat) : State :=
  originate (s.genRow k).station (.gencmd k (startRequest s k) (sentBias (s.gen k))) w

/-- R142: `t` is `s` once the GENCMD frames of the generators in `l` have left, in that order. -/
structure GencmdsSent (l : List Nat) (s t : State) : Prop where
  frame : t = { s with par := { s.par with gens := t.par.gens }, link := t.link }
  size : t.par.gens.length = s.par.gens.length
  sent : ∀ k ∈ l, 1 ≤ k → k ≤ s.par.gens.length → t.gen k = { s.gen k with startSent := startRequest s k }
  others : ∀ k, 1 ≤ k → k ∉ l → t.gen k = s.gen k
  link : t.link = (l.foldl (gencmdAfter s) s).link

theorem sendGencmds (s : State) {l : List Nat} (nd : l.Nodup) (pos : ∀ k ∈ l, 1 ≤ k) :
    GencmdsSent l s (l.foldl (fun u k => sendGencmd k u) s) := by
  induction l using List.reverseRecOn with
  | nil => exact ⟨rfl, rfl, nofun, fun _ _ _ => rfl, rfl⟩
  | append_singleton l k ih =>
    obtain ⟨ndl, -, apart⟩ := List.nodup_append.1 nd
    have new : k ∉ l := fun h => apart k h k (by simp) rfl
    have h1 : 1 ≤ k := pos k (by simp)
    obtain ⟨frame, size, sent, others, link⟩ := ih ndl fun j hj => pos j (by simp [hj])
    rw [List.foldl_append, List.foldl_cons, List.foldl_nil]
    generalize l.foldl (fun u k => sendGencmd k u) s = t at *
    have gen := others k h1 new
    have request : startRequest t k = startRequest s k := by
      unfold startRequest
      rw [gen, show t.par.demand = s.par.demand by rw [frame]]
    have row : t.genRow k = s.genRow k := by rw [frame]; rfl
    have bias : sentBias (t.gen k) = sentBias (s.gen k) := by rw [gen]
    have step : sendGencmd k t = { t.modGen k (fun g => { g with startSent := startRequest s k }) with
        link := (gencmdAfter s (l.foldl (gencmdAfter s) s) k).link } := by
      unfold sendGencmd gencmdAfter
      rw [request, row, bias]
      exact originate_of_link ((State.modGen_link _ _ _).trans link) _ _
    obtain ⟨g, e⟩ := modGen_frame t k fun g => { g with startSent := startRequest s k }
    have set := State.modGen_gen_same t k (fun g => { g with startSent := startRequest s k }) h1
    have kept := fun j h1 hj => State.modGen_gen_other t k j (fun g => { g with startSent := startRequest s k }) h1 hj
    rw [step]
    refine ⟨?_, (modGen_size t k _).trans size, fun j hj j1 j8 => ?_, fun j j1 hj => ?_, ?_⟩
    · rw [e, frame]
    · rcases List.mem_append.1 hj with hj | hj
      · exact (kept j j1 fun h => new (h ▸ hj)).trans (sent j hj j1 j8)
      · obtain rfl := List.mem_singleton.1 hj
        exact (set (size ▸ j8)).trans (by rw [gen])
    · rw [List.mem_append, not_or, List.mem_singleton] at hj
      exact (kept j j1 hj.2).trans (others j j1 hj.1)
    · rw [List.foldl_append, List.foldl_cons, List.foldl_nil]

theorem sharingUpdate_eq (s : State) : sharingUpdate s =
    (presentGens s).foldl (fun u k => sendGencmd k u) (shareLoad (stepUnload s)) := rfl

/-! ## Changes of state, generator by generator -/

theorem setGenState_gen_other {k j : Nat} (h1 : 1 ≤ k) (hj : j ≠ k) (st : GenState) (s : State) :
    (setGenState j st s).gen k = s.gen k := by
  unfold setGenState
  split
  · rfl
  · exact (gen_of_par (note_par _ _) k).trans (State.modGen_gen_other s j k _ h1 hj.symm)

/-- A fold of acts that each make `φ` of their own generator makes it of the generators of the list. -/
theorem foldl_gen {f : State → Nat → State} {φ : Gen → Gen} {k : Nat} (idem : ∀ g, φ (φ g) = φ g)
    (size : ∀ s j, (f s j).par.gens.length = s.par.gens.length)
    (own : ∀ s, k ≤ s.par.gens.length → (f s k).gen k = φ (s.gen k))
    (other : ∀ s j, j ≠ k → (f s j).gen k = s.gen k) (l : List Nat) {s : State} (hk : k ≤ s.par.gens.length) :
    (l.foldl f s).gen k = if k ∈ l then φ (s.gen k) else s.gen k := by
  induction l generalizing s with
  | nil => rfl
  | cons j l ih =>
    rw [List.foldl_cons, ih ((size s j).symm ▸ hk)]
    by_cases hj : j = k
    · subst hj
      rw [own s hk, if_pos (List.mem_cons_self), idem, ite_self]
    · rw [other s j hj]
      simp [Ne.symm hj]

/-! ## The soft unload (R157, R158) -/

theorem unloadedGen_size (s : State) (j : Nat) : (unloadedGen s j).par.gens.length = s.par.gens.length := by
  unfold unloadedGen
  exact (Internal.ite (.setGenState j .online s) (.refl s)).gens

/-- The state of the unload is set and noted: the generators are as they were. -/
theorem noteUnload_gens (x : Option Unload) (s : State) :
    (note .generator (s.modPar fun p => { p with unload := x })).par.gens = s.par.gens := by
  rw [note_par]
  rfl

theorem noteUnload_gen (x : Option Unload) (s : State) (k : Nat) :
    (note .generator (s.modPar fun p => { p with unload := x })).gen k = s.gen k := by
  unfold State.gen
  rw [noteUnload_gens]

/-- R158: what the end of a soft unload makes of a generator. -/
def unloadedTo (g : Gen) : Gen := if g.state = .unloading then { g with state := .online } else g

theorem endUnload_gen {s : State} {x : Unload} (running : s.par.unload = some x) {k : Nat} (h1 : 1 ≤ k) (h8 : k ≤ 8)
    (hk : k ≤ s.par.gens.length) : (endUnload s).gen k = unloadedTo (s.gen k) := by
  rw [endUnload_eq running, foldl_gen (f := unloadedGen) (φ := unloadedTo) ?_ unloadedGen_size (fun u hu => ?_)
    (fun u j hj => ?_) _ (noteUnload_gens none s ▸ hk), if_pos (mem_allGens.2 ⟨h1, h8⟩), noteUnload_gen]
  · intro g
    unfold unloadedTo
    split <;> simp_all
  · unfold unloadedGen unloadedTo
    split
    · exact setGenState_gen h1 hu .online
    · rfl
  · unfold unloadedGen
    split
    · exact setGenState_gen_other h1 hj .online u
    · rfl

theorem endUnload_idle {s : State} (free : s.par.unload = none) : endUnload s = s := by
  unfold endUnload
  rw [free]

theorem ceilDiv_eq (a : Nat) {b : Nat} (h : 0 < b) : ceilDiv a b = (a + (b - 1)) / b := by
  unfold ceilDiv
  rw [Nat.add_sub_assoc h]

/-- R157: the soft unload that begins. -/
def unloadBegun (q : SeqId) (ramp : Nat) (s : State) : Unload :=
  let sum := ((onlineAuto s).map fun k => (s.genRow k).rating).sum
  ⟨q, ((onlineAuto s).map (genLoad s)).sum, max 1 (ceilDiv (sum * ramp) (100 * sharingRate s)), sum⟩

theorem beginUnload_starts {q : SeqId} {ramp : Nat} {s : State} (free : s.par.unload = none)
    (opn : s.pos (gmSlot (otherSeq q)) = .opn) : beginUnload q ramp s = (onlineAuto s).foldl
      (fun s k => setGenState k .unloading s)
      (note .generator (s.modPar fun p => { p with unload := some (unloadBegun q ramp s) })) := by
  unfold beginUnload unloadBegun
  rw [if_pos ⟨by rw [free]; rfl, opn⟩]
  dsimp only
  rw [sumOver_eq, foldl_add_eq_sum, zero_add]

theorem beginUnload_stays {q : SeqId} {ramp : Nat} {s : State}
    (not : ¬(s.par.unload = none ∧ s.pos (gmSlot (otherSeq q)) = .opn)) : beginUnload q ramp s = s :=
  if_neg fun h => not ⟨Option.isNone_iff_eq_none.1 h.1, h.2⟩

theorem foldl_setGenState_unload (st : GenState) (l : List Nat) (s : State) :
    (l.foldl (fun s k => setGenState k st s) s).par.unload = s.par.unload := by
  induction l generalizing s with
  | nil => rfl
  | cons k l ih => exact (ih _).trans (setGenState_par k st s).2

theorem beginUnload_gen {q : SeqId} {ramp : Nat} {s : State} (free : s.par.unload = none)
    (opn : s.pos (gmSlot (otherSeq q)) = .opn) {k : Nat} (h1 : 1 ≤ k) (hk : k ≤ s.par.gens.length) :
    (beginUnload q ramp s).gen k = if k ∈ onlineAuto s then { s.gen k with state := .unloading } else s.gen k := by
  rw [beginUnload_starts free opn, foldl_gen (φ := fun g => { g with state := .unloading }) (fun _ => rfl)
    (fun u j => (Internal.setGenState j .unloading u).gens) (fun u hu => setGenState_gen h1 hu .unloading)
    (fun u j hj => setGenState_gen_other h1 hj .unloading u) _ (noteUnload_gens _ s ▸ hk), noteUnload_gen]

theorem BesideArb.beginUnload (q : SeqId) (ramp : Nat) (s : State) : BesideArb s (beginUnload q ramp s) :=
  .ite (((BesideArb.modPar s _).trans (.note _ _)).trans (.foldl (fun u k => .setGenState k .unloading u) _ _)) (.refl s)

/-! ## The statement -/

/-- Settles O47: the trim by the channel's slot, the sharing of the load generator by generator, the GENCMD frames along the
present generators, and the soft unload as a fold of changes of state. -/
theorem trimAndSharing : Obligations.TrimAndSharing := by
  refine ⟨fun s c k h1 h8 => ⟨trimOf_none, fun angle slip fired pair => ?trim⟩, trimSum_eq, fun s safe => ?share,
    fun s safe => ?update, fun q ramp s safe => ?begins, fun s safe => ?ends⟩
  case trim =>
    simp only [← limitTrim_eq]
    refine ⟨fun h hs => ?_, fun h g1 hs => ?_, fun h g2 hs => ?_, fun h g2 g1 hs => ?_, fun h g1 g2 hs => ?_, fun h both => ?_,
      fun h g1 => ?_, fun h g2 => ?_, trimOf_elsewhere fired pair, fun off own => ?_⟩
    · rw [trimOf_own fired pair h, if_pos hs]
    · rw [trimOf_gm1 fired pair h, if_pos ⟨hs, g1⟩]
    · rw [trimOf_gm2 fired pair h, if_pos ⟨hs, g2⟩]
    · rw [trimOf_tie fired pair h, if_neg (not_not.2 hs), if_pos ⟨g2, g1⟩]
    · rw [trimOf_tie fired pair h, if_neg (not_not.2 hs), if_neg fun g => g2 g.1, if_pos ⟨g1, g2⟩]
    · rw [trimOf_tie fired pair h, if_neg fun g : s.pos 4 = .closed ∧ ¬s.pos 3 = .closed => g.2 (both.2 g.1),
        if_neg fun g : s.pos 3 = .closed ∧ ¬s.pos 4 = .closed => g.2 (both.1 g.1), ite_self]
    · rw [trimOf_gm1 fired pair h, if_neg fun g => g1 g.2]
    · rw [trimOf_gm2 fired pair h, if_neg fun g => g2 g.2]
    · by_cases h : c.slot = genSlot k
      · obtain ⟨ready, closing⟩ := own.resolve_left (not_not.2 h)
        rw [trimOf_own fired pair h, if_neg fun hs => hs.elim off fun hs => hs.elim ready closing]
      · exact trimOf_offBus fired pair h off
  case share =>
    refine ⟨shareLoad_frame s, (shareLoad_size s).trans safe.gens, sharingSet s, sharingSet_nodup s, fun k => mem_sharingSet,
      fun k h1 h8 => ?_⟩
    have hk : k ≤ s.par.gens.length := safe.gens.symm ▸ h8
    simp only [← limitBias_eq]
    refine ⟨shareLoad_absent h1 hk, fun present unshared => ?_, fun present able mem => ?_⟩
    · exact shareLoad_trimmed h1 hk present fun h =>
        unshared.elim (fun n => n (sharingAble_iff.1 h.1)) fun n => n h.2
    · exact shareLoad_shared h1 hk present (sharingAble_iff.2 able) mem
  case update =>
    have size : (shareLoad (stepUnload s)).par.gens.length = 8 := (shareLoad_size _).trans safe.gens
    have sent := sendGencmds (shareLoad (stepUnload s)) (presentGens_nodup s) fun k hk => (mem_presentGens.1 hk).1.1
    have own : ∀ k b, 1 ≤ k → k ≤ 8 → (s.genRow k).present = true → startRequest (shareLoad (stepUnload s)) k = b →
        (sharingUpdate s).gen k = { (shareLoad (stepUnload s)).gen k with startSent := b } :=
      fun k b h1 h8 present hb => hb ▸ sent.sent k (mem_presentGens.2 ⟨⟨h1, h8⟩, present⟩) h1 (size ▸ h8)
    refine ⟨sent.frame, fun k h1 h8 => ⟨fun absent => ?_, fun present asked => ?_, fun present idle => ?_⟩, ?_⟩
    · exact sent.others k h1 fun hk => by rw [(mem_presentGens.1 hk).2] at absent; cases absent
    · exact own k true h1 h8 present (startRequest_iff.2 asked)
    · exact own k false h1 h8 present (Bool.eq_false_iff.2 fun h => idle (startRequest_iff.1 h))
    · refine sent.link.trans (congrArg State.link (List.foldl_ext _ _ _ fun w k hk => ?_))
      obtain ⟨⟨h1, h8⟩, present⟩ := mem_presentGens.1 hk
      dsimp only
      rw [own k _ h1 h8 present rfl, ← sentBias_eq]
      rfl
  case begins =>
    refine ⟨beginUnload_stays, fun ⟨free, opn⟩ => ?_⟩
    have beside := BesideArb.beginUnload q ramp s
    refine ⟨(Internal.beginUnload q ramp s).outside, beside.seqs, beside.arb, beside.link, onlineAuto s, onlineAuto_nodup s,
      fun k => mem_onlineAuto, ?_, fun k h1 h8 => ?_⟩
    · rw [beginUnload_starts free opn, foldl_setGenState_unload, note_par]
      refine congrArg (fun x => some (Unload.mk q _ (max 1 x) _)) (ceilDiv_eq _ ?_)
      unfold sharingRate
      split <;> decide
    · rw [beginUnload_gen free opn h1 (safe.gens.symm ▸ h8)]
      exact ⟨fun h => if_pos h, fun h => if_neg h⟩
  case ends =>
    refine ⟨endUnload_idle, fun running => ?_⟩
    obtain ⟨x, running⟩ := Option.ne_none_iff_exists'.1 running
    have beside := BesideArb.endUnload s
    refine ⟨(endUnload_par s).1, (Internal.endUnload s).outside, beside.seqs, beside.arb, beside.link, fun k h1 h8 => ?_⟩
    rw [endUnload_gen running h1 h8 (safe.gens.symm ▸ h8)]
    exact ⟨fun h => if_pos h, fun h => if_neg h⟩

end Sys2Proof.Machine
end


section
/-!
The contents of a notice (O49): every list of a snapshot is picked from an ascending list of slots, rows or generators, so
that it is ascending itself, and its entries are those that the pick keeps.
-/

namespace Sys2Proof.Machine

/-! ## What is picked from an ascending list -/

theorem allSlots_ascending : allSlots.Pairwise (· < ·) := List.pairwise_lt_range

theorem presentGens_ascending (s : State) : (presentGens s).Pairwise (· < ·) :=
  List.Pairwise.filter _ (by decide : allGens.Pairwise (· < ·))

/-- A pick that puts each entry under the number it comes from. -/
theorem filterMap_ascending {β : Type} {l : List Nat} {f : Nat → Option β} {key : β → Nat} (sorted : l.Pairwise (· < ·))
    (keyed : ∀ n, ∀ y ∈ f n, key y = n) : (l.filterMap f).Pairwise fun x y => key x < key y :=
  List.pairwise_filterMap.2 (sorted.imp fun h x hx y hy => by rwa [keyed _ x hx, keyed _ y hy])

section
variable {α β : Type} (p : α → Prop) [DecidablePred p] (f : α → β)

/-- The names of the entries kept stand in the order of the list. -/
theorem kept_sublist (l : List α) :
    ((l.filterMap fun a => if p a then some (a, f a) else none).map Prod.fst).Sublist l := by
  induction l with
  | nil => exact .slnil
  | cons a l ih =>
    by_cases h : p a
    · simpa [h] using ih
    · simpa [h] using ih.cons a

theorem kept_ascending (f : Nat → β) (p : Nat → Prop) [DecidablePred p] {l : List Nat} (sorted : l.Pairwise (· < ·)) :
    (l.filterMap fun n => if p n then some (n, f n) else none).Pairwise fun x y => x.1 < y.1 :=
  List.pairwise_map.1 (sorted.sublist (kept_sublist p f l))

theorem mem_kept {l : List α} {a : α} {b : β} :
    (a, b) ∈ l.filterMap (fun a => if p a then some (a, f a) else none) ↔ a ∈ l ∧ p a ∧ f a = b := by
  simp [List.mem_filterMap, Option.ite_none_right_eq_some]

end

/-- An entry of a list of options that is there and holds a value. -/
theorem getD_none_eq_some {α : Type} {l : List (Option α)} {i : Nat} {x : α} :
    l.getD i none = some x ↔ l[i]? = some (some x) := by
  rw [List.getD_eq_getElem?_getD]
  cases l[i]? <;> simp

/-- In a list of 64 rows, an entry that holds a value is that of one of the rows. -/
theorem row_lt_and_getD {α : Type} {l : List (Option α)} {i : Nat} {x : α} (size : l.length = 64) :
    i < 64 ∧ l.getD i none = some x ↔ l[i]? = some (some x) := by
  rw [getD_none_eq_some]
  exact and_iff_right_of_imp fun h => size ▸ (List.getElem?_eq_some_iff.1 h).1

/-! ## PROTECTION -/

theorem operatedRows_ascending (s : State) : (operatedRows s).Pairwise fun x y => x.1 < y.1 :=
  filterMap_ascending List.pairwise_lt_range fun n y hy => by
    obtain ⟨g, -, rfl⟩ := Option.map_eq_some_iff.1 hy
    rfl

theorem mem_operatedRows {s : State} (size : s.prot.operated.length = 64) {i : Nat} {g : Group} :
    (i, g) ∈ operatedRows s ↔ s.prot.operated[i]? = some (some g) := by
  rw [← row_lt_and_getD size]
  simp [operatedRows]

/-- The latched targets of one row. -/
def latchedRow (s : State) (i : Nat) : List (Group × Nat × Target) :=
  ([Group.a, .b]).filterMap fun g => ((targetsOf g s).getD i none).map fun t => (g, i, t)

theorem latchedTargets_eq (s : State) : latchedTargets s = (List.range 64).flatMap (latchedRow s) := by
  refine List.flatMap_congr fun i _ => ?_
  cases ha : s.prot.targetsA.getD i none <;> cases hb : s.prot.targetsB.getD i none <;>
    simp only [latchedRow, targetsOf, List.filterMap, ha, hb, Option.map] <;> rfl

theorem mem_latchedRow {s : State} {i : Nat} {x : Group × Nat × Target} :
    x ∈ latchedRow s i ↔ x.2.1 = i ∧ (targetsOf x.1 s).getD i none = some x.2.2 := by
  obtain ⟨g, j, t⟩ := x
  cases g <;> simp [latchedRow, eq_comm, and_comm]

/-- Log 91: the target of group A first. -/
theorem latchedRow_groupA_first (s : State) (i : Nat) : (latchedRow s i).Pairwise fun x y => x.1 = .a ∧ y.1 = .b := by
  refine List.pairwise_filterMap.2 (List.pairwise_pair.2 fun x hx y hy => ?_)
  obtain ⟨t, -, rfl⟩ := Option.map_eq_some_iff.1 hx
  obtain ⟨u, -, rfl⟩ := Option.map_eq_some_iff.1 hy
  exact ⟨rfl, rfl⟩

theorem latchedTargets_ascending (s : State) :
    (latchedTargets s).Pairwise fun x y => x.2.1 < y.2.1 ∨ (x.2.1 = y.2.1 ∧ x.1 = .a ∧ y.1 = .b) := by
  rw [latchedTargets_eq, List.pairwise_flatMap]
  constructor
  · intro i _
    refine (latchedRow_groupA_first s i).imp_of_mem fun hx hy groups => .inr ⟨?_, groups⟩
    rw [(mem_latchedRow.1 hx).1, (mem_latchedRow.1 hy).1]
  · refine List.pairwise_lt_range.imp fun h x hx y hy => .inl ?_
    rwa [(mem_latchedRow.1 hx).1, (mem_latchedRow.1 hy).1]

theorem mem_latchedTargets {s : State} {g : Group} {i : Nat} {t : Target} (size : (targetsOf g s).length = 64) :
    (g, i, t) ∈ latchedTargets s ↔ (targetsOf g s)[i]? = some (some t) := by
  rw [latchedTargets_eq, ← row_lt_and_getD size]
  simp [mem_latchedRow]

/-! ## POSITION, SEQUENCER, GENERATOR and STREAM -/

theorem posView_eq_iff {s : State} {n : Nat} {x : PosView} : posView s n = x ↔ x.slot = n ∧
    x.position = s.pos n ∧ x.localCtl = (s.slot n).localCtl ∧ x.ready = (s.slot n).ready ∧
      x.order = (s.slot n).order.map (fun o => (o.type, o.tag, o.phase)) ∧
      x.lastResult = (s.slot n).lastResult.map fun o => (o.type, o.tag, o.result) := by
  cases x
  simp [posView, eq_comm]

/-- Log 18: a begun second counts as one. -/
theorem ceilDiv_second (r : Nat) : ceilDiv r 1000000 = (r + 999999) / 1000000 := ceilDiv_eq r (by decide)

theorem secondsLeft_eq (s : State) (t : Option Nat) :
    secondsLeft s t = t.map fun e => (e - s.now + 999999) / 1000000 := by
  unfold secondsLeft remaining
  cases t with
  | none => simp only [Option.map_none]
  | some e => simp only [Option.map_some, ceilDiv_second]

/-- R136: no time is left of an inhibit that is not active. -/
theorem inhibitLeft_eq (s : State) : (if s.inhibitActive then (secondsLeft s s.seqs.inhibit).getD 0 else 0) =
    (secondsLeft s s.seqs.inhibit).getD 0 := by
  refine ite_eq_left_iff.2 fun ended => ?_
  unfold State.inhibitActive at ended
  rw [secondsLeft_eq]
  cases h : s.seqs.inhibit with
  | none => rfl
  | some e =>
    have past : ¬s.now < e := by simpa [h] using ended
    simp [Nat.sub_eq_zero_of_le (Nat.not_lt.1 past)]

/-- The entry of a channel among those of a slot. -/
def channelMark (n : Nat) (c : Option Channel) : Option (Nat × Bool) :=
  (c.filter fun x => x.slot = n).map fun x => (n, x.fired)

theorem channelMark_eq_some {n : Nat} {c : Option Channel} {y : Nat × Bool} :
    channelMark n c = some y ↔ ∃ x, c = some x ∧ x.slot = n ∧ (n, x.fired) = y := by
  simp [channelMark, Option.map_eq_some_iff, Option.filter_eq_some_iff, and_assoc]

theorem channelStates_eq (s : State) :
    channelStates s = allSlots.flatMap fun n => s.par.channels.filterMap (channelMark n) := by
  refine List.flatMap_congr fun n _ => List.filterMap_congr fun c _ => ?_
  cases c with
  | none => rfl
  | some x => by_cases h : x.slot = n <;> simp [channelMark, h]

/-- A slot may have more than one channel, so that its number may come twice. -/
theorem channelStates_ascending (s : State) : (channelStates s).Pairwise fun x y => x.1 ≤ y.1 := by
  have slotOf : ∀ n, ∀ x ∈ s.par.channels.filterMap (channelMark n), x.1 = n := fun n x hx => by
    obtain ⟨c, -, hc⟩ := List.mem_filterMap.1 hx
    obtain ⟨_, -, -, rfl⟩ := channelMark_eq_some.1 hc
    rfl
  rw [channelStates_eq, List.pairwise_flatMap]
  constructor
  · exact fun n _ => List.pairwise_of_forall_mem_list fun x hx y hy => by rw [slotOf n x hx, slotOf n y hy]
  · exact allSlots_ascending.imp fun h x hx y hy => by rw [slotOf _ x hx, slotOf _ y hy]; exact h.le

theorem mem_channelStates {s : State} {n : Nat} {fired : Bool} :
    (n, fired) ∈ channelStates s ↔ n < 25 ∧ ∃ c, some c ∈ s.par.channels ∧ c.slot = n ∧ c.fired = fired := by
  simp only [channelStates_eq, List.mem_flatMap, List.mem_filterMap, mem_allSlots, channelMark_eq_some, Prod.mk.injEq]
  constructor
  · rintro ⟨m, hm, _, mem, c, rfl, slot, rfl, fired⟩
    exact ⟨hm, c, mem, slot, fired⟩
  · rintro ⟨hn, c, mem, slot, fired⟩
    exact ⟨n, hn, some c, mem, c, rfl, slot, rfl, fired⟩

theorem enabledStreams_ascending (s : State) : (enabledStreams s).Pairwise fun x y => x.1 < y.1 :=
  kept_ascending _ _ List.pairwise_lt_range

theorem mem_enabledStreams {s : State} {r : Nat} {st : StreamState} :
    (r, st) ∈ enabledStreams s ↔ r < 48 ∧ (s.sub r).enabled = true ∧ (s.stream r).state = st :=
  (mem_kept (fun r => (s.sub r).enabled = true) fun r => (s.stream r).state).trans
    (and_congr_left fun _ => List.mem_range)

/-- Settles O49, class by class. -/
theorem snapshotContents : Obligations.SnapshotContents := by
  intro s safe sizeA sizeB sizeOp seconds
  refine ⟨?protection, ?breakerFailure, ?lockout, ?position, ?sequencer, ?generator, ?stream, ?record⟩
  case protection =>
    refine ⟨_, _, rfl, operatedRows_ascending s, fun i g => mem_operatedRows sizeOp,
      List.pairwise_map.2 (latchedTargets_ascending s), fun g i k => ?_⟩
    have size : (targetsOf g s).length = 64 := by cases g <;> assumption
    refine Iff.trans ?_ (exists_congr fun x => and_congr_right fun _ => mem_latchedTargets (t := x) size)
    simp only [List.mem_map, Prod.exists, Prod.mk.injEq]
    constructor
    · rintro ⟨_, _, t, mem, rfl, rfl, rfl⟩
      exact ⟨t, rfl, mem⟩
    · rintro ⟨t, rfl, mem⟩
      exact ⟨g, i, t, mem, rfl, rfl, rfl⟩
  case breakerFailure =>
    refine ⟨_, rfl, filterMap_ascending allSlots_ascending fun n y hy => ?_, fun n b k => ?_⟩
    · obtain ⟨-, ⟨⟩⟩ := Option.ite_none_left_eq_some.1 hy
      rfl
    · simp only [List.mem_filterMap, mem_allSlots, Option.ite_none_left_eq_some, Option.some.injEq, Prod.mk.injEq]
      constructor
      · rintro ⟨_, hn, running, rfl, rfl, timer⟩
        exact ⟨hn, rfl, running, timer⟩
      · rintro ⟨hn, rfl, running, timer⟩
        exact ⟨n, hn, running, rfl, rfl, timer⟩
  case lockout =>
    refine ⟨_, _, rfl, kept_ascending _ _ allSlots_ascending, fun n k => ?_, kept_sublist _ _ _, fun b k => ?_⟩
    · rw [mem_kept, mem_allSlots]
    · rw [mem_kept]
      exact and_iff_right (by cases b <;> decide)
  case position =>
    refine ⟨_, rfl, List.pairwise_map.2 (allSlots_ascending.filter _), fun x => ?_⟩
    simp only [List.mem_map, List.mem_filter, mem_allSlots, posView_eq_iff]
    constructor
    · rintro ⟨_, ⟨hn, present⟩, rfl, contents⟩
      exact ⟨hn, present, contents⟩
    · rintro ⟨hn, present, contents⟩
      exact ⟨x.slot, ⟨hn, present⟩, rfl, contents⟩
  case sequencer =>
    refine ⟨_, rfl, fun idle => ?_, fun t running => ?_⟩
    · rw [inhibitLeft_eq, secondsLeft_eq, idle, Option.map_none, Option.getD_none]
    · rw [inhibitLeft_eq, secondsLeft_eq, running, Option.map_some, Option.getD_some]
  case generator =>
    refine ⟨_, _, congrArg (Snapshot.generator _ · _ _ _ _ _ _) (secondsLeft_eq s s.par.stopTimer),
      List.pairwise_map.2 (presentGens_ascending s), fun k st b => ?_, channelStates_ascending s,
      fun n fired => mem_channelStates⟩
    refine Iff.trans (List.mem_map (l := presentGens s)) ?_
    simp only [mem_presentGens, Prod.mk.injEq]
    constructor
    · rintro ⟨_, ⟨⟨first, last⟩, present⟩, rfl, state, bias⟩
      exact ⟨first, last, present, state, bias⟩
    · rintro ⟨first, last, present, state, bias⟩
      exact ⟨k, ⟨⟨first, last⟩, present⟩, rfl, state, bias⟩
  case stream =>
    refine ⟨_, congrArg (Snapshot.stream · _) ?_, enabledStreams_ascending s, fun r st => mem_enabledStreams⟩
    cases s.intake.k <;> rfl
  case record =>
    refine ⟨_, _, ?_, rfl, rfl⟩
    rw [List.head?_filter]
    rfl

end Sys2Proof.Machine
end

section
/-!
An image brought into force (O56): COMMIT and DISCARD by the path each takes, and what stands once every block has taken its
state at a commit.
-/

namespace Sys2Proof.Machine

/-! ## The blocks at a commit -/

/-- R182: `t` is `s` but for the Arbiter, the sequencers without the inhibit, the Paralleling Unit, the records and the
non-volatile memories. -/
def CommitActs (s t : State) : Prop :=
  t = { s with
    arb := t.arb, seqs := { t.seqs with inhibit := s.seqs.inhibit }, par := t.par, records := t.records, nv := t.nv }

theorem CommitActs.trans {s t u : State} (h : CommitActs s t) (k : CommitActs t u) : CommitActs s u := by
  refine Eq.trans k ?_
  rw [h]

theorem CommitActs.of_records {s t : State} (h : ∃ r, t = { s with records := r }) : CommitActs s t := by
  obtain ⟨r, rfl⟩ := h
  rfl

theorem CommitActs.of_restored {s t : State} (h : Restored s t) : CommitActs s t := by
  rw [h.frame]
  rfl

theorem CommitActs.note (c : NoticeClass) (s : State) : CommitActs s (note c s) := .of_records (note_eq c s)

theorem CommitActs.noteIf (b : Prop) [Decidable b] (c : NoticeClass) (s : State) :
    CommitActs s (if b then Machine.note c s else s) := by
  split
  · exact .note c s
  · rfl

theorem CommitActs.commitArb (s : State) : CommitActs s (commitArb s) := by
  have slots : CommitActs s (s.modArb fun a => { a with slots := a.slots.map commitSlot }) := rfl
  exact ((slots.trans (.noteIf _ _ _)).trans (.noteIf _ _ _)).trans (.of_restored (restoreLockouts_restored _))

theorem CommitActs.seqsAtService (s : State) : CommitActs s (seqsAtService s.seqs.inhibit s) := rfl

theorem CommitActs.commitPar (s : State) : CommitActs s (commitPar s) := by
  have reset : CommitActs s (s.modPar fun _ => parAtCommit s) := rfl
  unfold Machine.commitPar
  dsimp only
  split
  · exact reset
  · exact reset.trans (.note _ _)

theorem CommitActs.commitRecords (s : State) : CommitActs s (commitRecords s) :=
  .trans (.of_records (closeRecords_eq .withdrawn s)) (.of_records ⟨_, rfl⟩)

/-- R33: the Intake Unit is emptied, the Measurement Unit cleared and the change reported. -/
theorem resetIntake_frame (s : State) : ∃ m r, resetIntake s = { s with intake := {}, meas := m, records := r } := by
  unfold resetIntake
  dsimp only
  split
  · obtain ⟨r, noted⟩ := note_eq .stream ((s.modMeas fun m => { thr := m.thr }).modIntake fun _ => {})
    exact ⟨_, r, noted⟩
  · exact ⟨_, _, rfl⟩

/-- R80: the Protection Unit takes the group of the image and loses its pending selection and its runtime slots. -/
theorem commitProt_frame (g : Group) (s : State) : ∃ r, commitProt g s =
    { s with prot := { clearSlots s.prot with active := g, pendingGroup := none }, records := r } := by
  unfold commitProt
  split
  · exact ⟨_, rfl⟩
  · exact note_eq _ _

theorem enterService_frame (s : State) : ∃ r, enterService s =
    { s with mgmt := { s.mgmt with serviceAt := some s.now, part := .service true }, records := r } := setPart_frame _ _

/-! ## The image in force -/

/-- The state in which the image is in force under its station number, before the blocks take their states at a commit. -/
def imageSet (im : Image) (s : State) : State :=
  let s := s.modMgmt fun m => { m with image := some im, edit := none, mode := .live, emu := List.replicate 25 none }
  setStation (s.site.station.getD commissioningNumber) s

/-- The state in which Intake, Measurement and Protection have taken their states at a commit. -/
def imageMeasured (im : Image) (clear : Bool) (s : State) : State :=
  commitProt im.group (refreshThresholds (if clear then resetIntake (imageSet im s) else imageSet im s))

/-- The state in which every other block has. -/
def imageCommitted (im : Image) (clear : Bool) (s : State) : State :=
  let s := commitArb (imageMeasured im clear s)
  commitRecords (commitPar (seqsAtService s.seqs.inhibit s))

theorem bringIntoForce_eq (im : Image) (clear : Bool) (s : State) :
    bringIntoForce im clear s = finish (enterService (imageCommitted im clear s)) := rfl

/-- R182, R183: an image in force with Intake, Measurement and Protection at a commit. -/
structure ImageMeasured (im : Image) (clear : Bool) (s t : State) : Prop where
  now : t.now = s.now
  mgmt : t.mgmt = { s.mgmt with image := some im, edit := none, mode := .live, emu := List.replicate 25 none }
  station : t.link.station = some (im.tables.site.station.getD 65534)
  prot : t.prot = { clearSlots s.prot with active := im.group, pendingGroup := none }
  inhibit : t.seqs.inhibit = s.seqs.inhibit
  intake : t.intake = if clear then {} else s.intake

theorem imageMeasured_holds (im : Image) (clear : Bool) (s : State) :
    ImageMeasured im clear s (imageMeasured im clear s) := by
  obtain ⟨l, numbered, station, _⟩ := setStation_eq (im.tables.site.station.getD commissioningNumber)
    (s.modMgmt fun m => { m with image := some im, edit := none, mode := .live, emu := List.replicate 25 none })
  have set : imageSet im s = _ := numbered
  unfold imageMeasured
  cases clear with
  | true =>
    obtain ⟨m, r, cleared⟩ := resetIntake_frame (imageSet im s)
    obtain ⟨r', switched⟩ := commitProt_frame im.group (refreshThresholds (resetIntake (imageSet im s)))
    rw [if_pos rfl, switched, cleared, set]
    exact ⟨rfl, rfl, station, rfl, rfl, rfl⟩
  | false =>
    obtain ⟨r', switched⟩ := commitProt_frame im.group (refreshThresholds (imageSet im s))
    rw [if_neg (by decide), switched, set]
    exact ⟨rfl, rfl, station, rfl, rfl, rfl⟩

theorem imageCommitted_acts (im : Image) (clear : Bool) (s : State) :
    CommitActs (imageMeasured im clear s) (imageCommitted im clear s) :=
  (((CommitActs.commitArb _).trans (.seqsAtService _)).trans (.commitPar _)).trans (.commitRecords _)

/-- R182, R183: the image in force once the messages are delivered, in SERVICE. -/
structure InForce (im : Image) (clear : Bool) (s t : State) : Prop where
  mgmt : ∃ starting emu, t.mgmt = { s.mgmt with
    image := some im, edit := none, mode := .live, emu := emu, serviceAt := some s.now, part := .service starting }
  station : t.link.station = some (im.tables.site.station.getD 65534)
  prot : t.prot = { clearSlots s.prot with active := im.group, pendingGroup := none }
  inhibit : t.seqs.inhibit = s.seqs.inhibit
  intake : t.intake = if clear then {} else s.intake

theorem bringIntoForce_inForce (im : Image) (clear : Bool) (s : State) :
    InForce im clear s (bringIntoForce im clear s) := by
  obtain ⟨now, mgmt, station, prot, inhibit, intake⟩ := imageMeasured_holds im clear s
  have acts := imageCommitted_acts im clear s
  obtain ⟨r, entered⟩ := enterService_frame (imageCommitted im clear s)
  have out := finish_outside (enterService (imageCommitted im clear s))
  rw [← bringIntoForce_eq, entered, acts] at out
  refine ⟨?_, out.station.trans station, out.prot.trans prot, out.inhibit.trans inhibit, out.intake.trans intake⟩
  obtain ⟨starting, part⟩ : ∃ b, (bringIntoForce im clear s).mgmt.part = .service b := by
    rcases out.part with e | ⟨_, e⟩
    · exact ⟨_, e⟩
    · exact ⟨_, e⟩
  refine ⟨starting, (bringIntoForce im clear s).mgmt.emu, out.mgmt.trans ?_⟩
  dsimp only
  rw [part, mgmt, now]

/-! ## COMMIT (R182) -/

theorem actCommit_refused {r : Request} {t : TableId} {i : Nat} {s : State} (h : commitCheck (editSet s) = some (t, i)) :
    actCommit r s = answerTo r (.refused .badValue) (.failedCheck t i) s := by
  simp only [actCommit, h]

theorem actCommit_passed {r : Request} {s : State} (h : commitCheck (editSet s) = none) :
    actCommit r s = commitTables r (editSet s) s := by
  simp only [actCommit, h]

/-! ## DISCARD (R183) -/

/-- R183: the image DISCARD brings into force, by the stored image. -/
theorem discardImage_some {s : State} {g : Nat} {im : Image} {one : Bool} (h : takenImage s.nv = some (g, im, one)) :
    discardImage s = (im, s.mgmt.fault) := by
  simp only [discardImage, h]

theorem discardImage_none {s : State} (h : takenImage s.nv = none) :
    discardImage s = (⟨s.tbl, s.prot.active⟩, true) := by
  simp only [discardImage, h]

/-- R183: the settings memory fault stands, and is set where no bank is valid. -/
theorem discardImage_fault (s : State) : (discardImage s).2 = (s.mgmt.fault || (takenImage s.nv).isNone) := by
  rcases h : takenImage s.nv with _ | ⟨g, im, one⟩
  · simp [discardImage_none h]
  · simp [discardImage_some h]

theorem actDiscard_reads {r : Request} {s : State} (h : s.mgmt.write = none) : actDiscard r s = discardRead r.src r.tag s := by
  simp [actDiscard, h]

theorem actDiscard_waits {r : Request} {s : State} (h : s.mgmt.write ≠ none) :
    actDiscard r s = s.modMgmt fun m => { m with discard := some (r.src, r.tag) } :=
  if_pos (Option.isSome_iff_ne_none.2 h)

/-- R174: while a DISCARD waits no request is taken. -/
theorem unitFree_of_discard {s : State} (h : s.mgmt.discard ≠ none) : unitFree s = false :=
  Bool.eq_false_iff.2 fun hf => h (unitFree_iff.1 hf).2.1

/-- R183: the read is made once the write in progress has ended, and not before. -/
theorem execDiscardRead_reads {x y : Nat} {s : State} (hd : s.mgmt.discard = some (x, y)) (hw : s.mgmt.write = none) :
    exec .discardRead s = .next (settleQueue (discardRead x y s)) := by
  simp only [exec, execDiscardRead, hd, hw]

theorem execDiscardRead_waits {s : State} (hw : s.mgmt.write ≠ none) : exec .discardRead s = .next s := by
  obtain ⟨w, hw⟩ := Option.ne_none_iff_exists'.1 hw
  cases hd : s.mgmt.discard <;> simp only [exec, execDiscardRead, hd, hw]

/-- Settles O56: the path of each command, and each fact about the state it leaves by the block that makes it. -/
theorem imageBroughtIntoForce : Obligations.ImageBroughtIntoForce := by
  intro s
  refine ⟨fun r rest taken => ?_, ?_⟩
  · intro s' e
    have run : exec .commit s = .next (settleQueue (actCommit r s')) := congrArg Host.Outcome.next (takeKind_taken taken _)
    refine ⟨fun t i failed => ?_, fun passed => ?_⟩
    · rw [run, actCommit_refused (s := s') failed]
    · rw [run, actCommit_passed (s := s') passed]
      rfl
  intro stored read
  have image : stored = (discardImage s).1 := by
    rcases h : takenImage s.nv with _ | ⟨g, im, one⟩
    · simp only [stored, h, discardImage_none]
    · simp only [stored, h, discardImage_some h]
  have reads : ∀ x y rest, discardRead x y (setRequests rest s) = read x y (setRequests rest s) := fun x y rest => by
    simp only [read, image, ← discardImage_fault]
    rfl
  refine ⟨fun r rest taken => ?_, fun x y waiting => ⟨fun hw => ?_, execDiscardRead_waits⟩, ?_⟩
  · have run : exec .discard s = .next (settleQueue (actDiscard r (setRequests rest s))) :=
      congrArg Host.Outcome.next (takeKind_taken taken _)
    refine ⟨fun hw => ?_, fun hw => ?_⟩
    · rw [run, actDiscard_reads (s := setRequests rest s) hw, reads]
    · rw [run, actDiscard_waits (s := setRequests rest s) hw,
        settleQueue_of_headWaits (.inl (unitFree_of_discard (Option.some_ne_none _)))]
      exact ⟨_, rfl, rfl, rfl⟩
  · rw [execDiscardRead_reads waiting hw]
    exact congrArg (fun v => Host.Outcome.next (settleQueue v)) (reads x y s.mgmt.requests)
  · intro im clear u
    obtain ⟨⟨starting, emu, mgmt⟩, station, prot, inhibit, intake⟩ := bringIntoForce_inForce im clear s
    refine ⟨?_, congrArg Mgmt.edit mgmt, congrArg Mgmt.mode mgmt, inService_iff.2 ⟨starting, congrArg Mgmt.part mgmt⟩,
      congrArg Mgmt.serviceAt mgmt, station, congrArg Prot.active prot, congrArg Prot.pendingGroup prot, ?_, inhibit, ?_, ?_,
      (congrArg Mgmt.requests mgmt :)⟩
    · simp only [State.tbl, u, mgmt]
    · rw [prot]
      exact fun x hx => congrArg RtSlot.state (List.eq_of_mem_replicate hx)
    · exact fun h => intake.trans (if_pos h)
    · exact fun h => intake.trans (if_neg (by simp [h]))

end Sys2Proof.Machine
end

section
/-!
The tests of a request (O52): what the arguments of each kind are, who is a manager, the five tests in their order at the
head of the queue, and the heads that no request row takes up.
-/

namespace Sys2Proof.Machine

/-! ## The tables (chapter 9.4) -/

theorem tableOfCode_tableRows : ∀ x ∈ tableRows, tableOfCode x.2.1 = some x.1 ∧ rowCount x.1 = x.2.2 := by decide

theorem mem_tableRows_of_code {code : Nat} {t : TableId} (h : tableOfCode code = some t) :
    (t, code, rowCount t) ∈ tableRows := by
  unfold tableOfCode at h
  split at h <;> cases h <;> decide

theorem tableRow_iff {code row : Nat} {t : TableId} :
    tableRow code row = some t ↔ ∃ rows, (t, code, rows) ∈ tableRows ∧ row < rows := by
  unfold tableRow
  constructor
  · intro h
    split at h
    case h_1 x hx =>
      obtain ⟨inside, ⟨⟩⟩ := Option.ite_none_right_eq_some.1 h
      exact ⟨_, mem_tableRows_of_code hx, inside⟩
    case h_2 => cases h
  · rintro ⟨rows, mem, inside⟩
    obtain ⟨code, count⟩ := tableOfCode_tableRows _ mem
    simp only at code count
    rw [code]
    exact if_pos (count ▸ inside)

theorem tableRow_isSome_iff {code row : Nat} : (tableRow code row).isSome = true ↔ InTables code row := by
  simp only [Option.isSome_iff_exists, tableRow_iff, InTables]

/-! ## Arguments (R174 tests 2 and 5) -/

theorem rowFits_iff {t : TableId} {row : Nat} {d : RowData} : rowFits t row d = true ↔ RowOf t row d := by
  cases t <;> cases d <;> simp [rowFits, RowOf]

/-- R176: the data of a WRITE_ROW are those of the row it names, where it names one. -/
theorem argsShape_write {code row : Nat} {d : RowData} {listsOk : Bool} :
    argsShape .writeRow (.write code row d listsOk) = true ↔
      ∀ t rows, (t, code, rows) ∈ tableRows → row < rows → RowOf t row d := by
  have named : argsShape .writeRow (.write code row d listsOk) = true ↔
      ∀ t, tableRow code row = some t → rowFits t row d = true := by
    cases h : tableRow code row <;> simp [argsShape, h]
  rw [named]
  refine forall_congr' fun t => ?_
  rw [tableRow_iff, rowFits_iff, forall_exists_index]
  exact forall_congr' fun rows => and_imp

/-- R176: CLEAR names a subset at least. -/
theorem argsShape_clear {t d g r : Bool} :
    argsShape .clear (.clear t d g r) = true ↔ t = true ∨ d = true ∨ g = true ∨ r = true := by
  simp [argsShape, or_assoc]

/-- R176: every other kind asks for one form of arguments, with the value of a named list where the form has one. -/
theorem argsShape_iff (k : Kind) (a : Args) : argsShape k a = true ↔ ArgsOf a k := by
  cases k with
  | writeRow =>
    cases a with
    | write code row d listsOk =>
      refine argsShape_write.trans ⟨fun h => ⟨_, _, _, _, rfl, h⟩, ?_⟩
      rintro ⟨_, _, _, _, ⟨⟩, h⟩
      exact h
    | _ => simp [argsShape, ArgsOf]
  | clear =>
    cases a with
    | clear t d g r =>
      refine argsShape_clear.trans ⟨fun h => ⟨_, _, _, _, rfl, h⟩, ?_⟩
      rintro ⟨_, _, _, _, ⟨⟩, h⟩
      exact h
    | _ => simp [argsShape, ArgsOf]
  | _ => cases a <;> simp [argsShape, ArgsOf, Option.isSome_iff_exists]

theorem argsNumbered_iff (a : Args) : argsNumbered a = true ↔ Numbered a := by
  cases a with
  | point p => cases p <;> simp [argsNumbered, Numbered, pointInList, Nat.lt_succ_iff]
  | element g row =>
    have groups : g.isSome = true ↔ g = some .a ∨ g = some .b := by
      rcases g with _ | ⟨⟨⟩⟩ <;> decide
    simp only [argsNumbered, Numbered, Bool.and_eq_true, decide_eq_true_eq, groups, Nat.lt_succ_iff]
  | lockBus b =>
    rcases b with _ | ⟨⟨⟩⟩ <;> simp [argsNumbered, Numbered]
  | row code row => exact tableRow_isSome_iff
  | write code row d listsOk => exact tableRow_isSome_iff
  | _ => simp [argsNumbered, Numbered, Nat.lt_succ_iff]

/-! ## Managers (R172) -/

theorem includesRight_iff (held need : Rights) :
    includesRight held need = true ↔ held = .operate ∨ need = .view ∨ held = need := by
  cases held <;> cases need <;> decide

/-- R172: without an image in force every station holds every right. -/
theorem managerRights_of_no_image {s : State} (src : Nat) (h : s.mgmt.image = none) :
    managerRights s src = some .operate := by
  simp only [managerRights, h]

theorem managerRights_of_image {s : State} {im : Image} (src : Nat) (h : s.mgmt.image = some im) : managerRights s src =
    (im.tables.managers.find? fun r => r.present && decide (r.station = src)).map fun r => r.rights := by
  simp only [managerRights, h]

theorem managerRights_eq_none_iff {s : State} {im : Image} (src : Nat) (h : s.mgmt.image = some im) :
    managerRights s src = none ↔ ∀ r ∈ im.tables.managers, r.present = true → r.station ≠ src := by
  simp [managerRights_of_image src h]

theorem managerRights_eq_some {s : State} {im : Image} {src : Nat} {x : Rights} (h : s.mgmt.image = some im)
    (hx : managerRights s src = some x) :
    ∃ r ∈ im.tables.managers, r.present = true ∧ r.station = src ∧ r.rights = x := by
  rw [managerRights_of_image src h] at hx
  obtain ⟨r, found, rfl⟩ := Option.map_eq_some_iff.1 hx
  have row := List.find?_some found
  simp only [Bool.and_eq_true, decide_eq_true_eq] at row
  exact ⟨r, List.mem_of_find?_eq_some found, row.1, row.2, rfl⟩

/-! ## The five tests -/

/-- R174: the command that takes the requests of a kind takes them by the five tests of that kind. -/
theorem exec_requestRow {k : Kind} {c : Instr} (h : requestRow (kindCodeOf k) = [c]) :
    ∃ act, ∀ s, exec c s = .next (takeKind k act s) := by
  cases k <;> (obtain rfl := List.singleton_injective h; exact ⟨_, fun _ => rfl⟩)

section
variable {k : Kind} {act : Request → State → State} {r : Request} {rest : List Request} {x : Rights} {s : State}

theorem takeKind_passedOver (hq : s.mgmt.requests = r :: rest) (h : unitFree s = false ∨ r.kind ≠ kindCodeOf k) :
    takeKind k act s = s := by
  simp only [takeKind, hq]
  refine if_neg fun ⟨hf, hk⟩ => ?_
  rcases h with h | h
  · rw [h] at hf; cases hf
  · exact h hk

theorem takeKind_tested (hq : s.mgmt.requests = r :: rest) (hf : unitFree s = true) (hk : r.kind = kindCodeOf k) :
    takeKind k act s = settleQueue (testRequest k act r (setRequests rest s)) := by
  simp only [takeKind, hq]
  exact if_pos ⟨hf, hk⟩

theorem testRequest_noManager (hr : managerRights s r.src = none) : testRequest k act r s = s := by
  simp only [testRequest, hr]

theorem testRequest_badValue (hr : managerRights s r.src = some x) (ha : argsShape k r.args = false) :
    testRequest k act r s = refuse r .badValue s := by
  simp only [testRequest, hr, ha, ↓reduceIte]

theorem testRequest_notPermitted (hr : managerRights s r.src = some x) (ha : argsShape k r.args = true)
    (hi : includesRight x (rightOf k) = false) : testRequest k act r s = refuse r .notPermitted s := by
  simp only [testRequest, hr, ha, hi, Bool.true_eq_false, ↓reduceIte]

theorem testRequest_wrongState (hr : managerRights s r.src = some x) (ha : argsShape k r.args = true)
    (hi : includesRight x (rightOf k) = true) (hs : takenNow k s.mgmt.part = false) :
    testRequest k act r s = refuse r .wrongState s := by
  simp only [testRequest, hr, ha, hi, hs, Bool.true_eq_false, ↓reduceIte]

theorem testRequest_badRow (hr : managerRights s r.src = some x) (ha : argsShape k r.args = true)
    (hi : includesRight x (rightOf k) = true) (hs : takenNow k s.mgmt.part = true) (hn : argsNumbered r.args = false) :
    testRequest k act r s = refuse r .badRow s := by
  simp only [testRequest, hr, ha, hi, hs, hn, Bool.true_eq_false, ↓reduceIte]

end

/-! ## Heads that no request row takes up (log 25) -/

theorem knownKind_iff {n : Nat} : knownKind n = true ↔ 1 ≤ n ∧ n ≤ 23 := decide_eq_true_iff

theorem knownKind_eq_false_iff {n : Nat} : knownKind n = false ↔ n = 0 ∨ 23 < n := by
  rw [← Bool.not_eq_true, knownKind_iff]
  omega

theorem refuse_requests (r : Request) (why : Reason) (s : State) :
    (refuse r why s).mgmt.requests = s.mgmt.requests :=
  (congrArg Mgmt.requests (Internal.refuse r why s).outside.mgmt :)

section
variable {r : Request} {rest : List Request} {s : State}

theorem settleHeads_nil (n : Nat) (h : s.mgmt.requests = []) : settleHeads n s = s := by
  cases n <;> simp only [settleHeads, h]

theorem settleHeads_noManager (n : Nat) (hq : s.mgmt.requests = r :: rest) (hf : unitFree s = true)
    (hr : managerRights s r.src = none) : settleHeads (n + 1) s = settleHeads n (setRequests rest s) := by
  simp only [settleHeads, hq, hf, hr, Bool.true_eq_false, ↓reduceIte]

theorem settleHeads_unknown (n : Nat) (hq : s.mgmt.requests = r :: rest) (hf : unitFree s = true)
    (hr : (managerRights s r.src).isSome = true) (hk : knownKind r.kind = false) :
    settleHeads (n + 1) s = settleHeads n (refuse r .badValue (setRequests rest s)) := by
  obtain ⟨x, hr⟩ := Option.isSome_iff_exists.1 hr
  simp only [settleHeads, hq, hf, hr, hk, Bool.true_eq_false, Bool.false_eq_true, ↓reduceIte]

/-- The fuel that the queue's length asks for is enough: each head settled shortens the queue. -/
theorem settleHeads_succ (n : Nat) (s : State) (h : s.mgmt.requests.length ≤ n) :
    settleHeads (n + 1) s = settleHeads n s := by
  induction n generalizing s with
  | zero => rw [settleHeads_nil _ (List.length_eq_zero_iff.1 (Nat.le_zero.1 h)), settleHeads]
  | succ n ih =>
    cases hq : s.mgmt.requests with
    | nil => rw [settleHeads_nil _ hq, settleHeads_nil _ hq]
    | cons r rest =>
      have shorter : rest.length ≤ n := by rw [hq] at h; exact Nat.le_of_succ_le_succ h
      rw [settleHeads, settleHeads]
      simp only [hq]
      rw [ih (setRequests rest s) shorter,
        ih (refuse r .badValue (setRequests rest s)) (by rw [refuse_requests]; exact shorter)]

theorem settleQueue_noManager (hq : s.mgmt.requests = r :: rest) (hl : rest.length ≤ 3) (hf : unitFree s = true)
    (hr : managerRights s r.src = none) : settleQueue s = settleQueue (setRequests rest s) :=
  (settleHeads_noManager 4 hq hf hr).trans (settleHeads_succ 4 _ (Nat.le_succ_of_le hl)).symm

theorem settleQueue_unknown (hq : s.mgmt.requests = r :: rest) (hl : rest.length ≤ 3) (hf : unitFree s = true)
    (hr : (managerRights s r.src).isSome = true) (hk : knownKind r.kind = false) :
    settleQueue s = settleQueue (refuse r .badValue (setRequests rest s)) := by
  refine (settleHeads_unknown 4 hq hf hr hk).trans (settleHeads_succ 4 _ ?_).symm
  rw [refuse_requests]
  exact Nat.le_succ_of_le hl

end

/-- R173, R174: a request of a kind code that is none of R176, come to an empty queue, is refused at once. -/
theorem joinRequests_unknown {r : Request} {s : State} (he : s.mgmt.requests = []) (hf : unitFree s = true)
    (hr : (managerRights s r.src).isSome = true) (hk : knownKind r.kind = false) :
    joinRequests r s = refuse r .badValue s := by
  have joined : joinRequests r s = settleQueue (setRequests [r] s) := by
    unfold joinRequests
    rw [he]
    exact if_pos ⟨hr, by decide⟩
  have emptied : setRequests [] (setRequests [r] s) = s := by
    show setRequests [] s = s
    rw [← he]
    rfl
  rw [joined, settleQueue_unknown (s := setRequests [r] s) rfl (Nat.zero_le _) hf hr hk, emptied]
  exact settleHeads_nil _ ((refuse_requests r .badValue s).trans he)

/-- Settles O52: the tests in their order, the tables as they stand, and the heads settled one by one. -/
theorem requestTests : Obligations.RequestTests := by
  refine ⟨?_, fun k => by cases k <;> decide, by decide, argsShape_iff, argsNumbered_iff, includesRight_iff,
    fun src s => ?_, fun r rest s hq hl hf => ?_, ?_⟩
  · intro k c r rest s hc hq s'
    obtain ⟨act, run⟩ := exec_requestRow hc
    refine ⟨fun h => by rw [run, takeKind_passedOver hq h], fun hf hk => ?_⟩
    rw [run, takeKind_tested hq hf hk]
    refine ⟨fun hr => by rw [testRequest_noManager (s := s') hr], fun x hr => ⟨fun ha => ?_, fun ha hi => ?_,
      fun ha hi hs => ?_, fun ha hi hs hn => ?_⟩⟩
    · rw [testRequest_badValue (s := s') hr ha]
    · rw [testRequest_notPermitted (s := s') hr ha hi]
    · rw [testRequest_wrongState (s := s') hr ha hi hs]
    · rw [testRequest_badRow (s := s') hr ha hi hs hn]
  · exact ⟨managerRights_of_no_image src, fun im him =>
      ⟨managerRights_eq_none_iff src him, fun x => managerRights_eq_some him⟩⟩
  · refine ⟨settleQueue_noManager hq hl hf, fun hr hk => ?_, fun hr h1 h23 => ?_⟩
    · exact settleQueue_unknown hq hl hf hr (knownKind_eq_false_iff.2 hk)
    · refine settleQueue_of_headWaits (.inr fun y hy => ?_)
      rw [hq] at hy
      cases hy
      exact ⟨hr, knownKind_iff.2 ⟨h1, h23⟩⟩
  · intro p f h r s _ hin hpay hself hnew he hf hr hk
    refine ⟨addDup r.src r.tag s, ?_, rfl, rfl, mem_addDup _ _ _⟩
    have first : isDuplicate s r.src r.tag ≠ true := fun hd => by
      obtain ⟨e, mem, hs, ht, hy⟩ := isDuplicate_iff.1 hd
      have := hnew e mem hs ht
      omega
    have handed : exec (.manage p f) s = .next (handManage f h (forwardVendor p f h s)) :=
      congrArg Host.Outcome.next (takeFrame_inward hin _)
    rw [handed, forwardVendor_for_self hin.offered hself]
    simp only [handManage, hpay, hself, ↓reduceIte]
    rw [if_neg first, joinRequests_unknown (s := addDup r.src r.tag s) he hf hr (knownKind_eq_false_iff.2 hk)]

end Sys2Proof.Machine
end

section
/-!
The step and the queue (O1): what `step` does when a command waits.
-/

namespace Sys2Proof.Machine

/-- Log 1: the front command is carried out on the state in which the others wait. -/
theorem step_of_pending_cons {s : State} {c : Instr} {rest : List Instr} (h : s.pending = c :: rest) :
    step s = exec c { s with pending := rest } := by
  simp only [step, h]

/-- Settles O1: taking `c` off the queue it was put in front of gives `s` again. -/
theorem stepTakesFrontCommand : Obligations.StepTakesFrontCommand := by
  intro c s
  have restored : { { s with pending := c :: s.pending } with pending := s.pending } = s := rfl
  rw [step_of_pending_cons (c := c) (rest := s.pending) rfl, restored]

end Sys2Proof.Machine
end
